-- ==== Sys2Proof/Word.lean ====
section
/-!
DEFINITION. The word of the register map (R2) and the units of time every part uses.
-/

namespace Sys2Proof

/-- A word is 32 bits (R2). -/
abbrev Word := BitVec 32

/-- One nanosecond in the unit of intervals and phases, 2^-16 ns (R4). -/
abbrev nsU : Nat := 65536

/-- One second in 2^-16 ns. -/
abbrev secU : Nat := 65536000000000

/-- One millisecond in 2^-16 ns. -/
abbrev msU : Nat := 65536000000

/-- One microsecond in 2^-16 ns. -/
abbrev usU : Nat := 65536000

/-- The whole of a Metronome tick of 2^-16 ns in the accumulator's own unit, 2^-80 ns (log 6). -/
abbrev accU : Nat := 18446744073709551616

end Sys2Proof
end

