-- ==== Sys2Proof/Types.lean ====
section
/-!
DEFINITION. The names and records that operands of commands and fields of State share: enumerations of the spec's
named states, the 69 mailbox commands (R108), and the records that carry what arrives from outside the module (a
PTP message, a heartbeat, a fault report, a time mark).
-/

namespace Sys2Proof.Machine

/-- CAPTURE state of a channel (R168). -/
inductive CapState where | idle | armed | capturing | done
deriving DecidableEq, Repr

/-- CAL of a channel (R149). -/
inductive CalState where | off | lin | full | failed
deriving DecidableEq, Repr

/-- VIDEO_STATE (R160). -/
inductive VideoState where | none | search | lineLock | frameLock
deriving DecidableEq, Repr

/-- ROOT_STATE (R332). -/
inductive RootState where | locked | search | locking | verify
deriving DecidableEq, Repr

/-- Qualification state of a candidate (R217). -/
inductive QState where | off | lost | qualifying | qualified | rejected | restoring
deriving DecidableEq, Repr

/-- SW_PHASE (R253). -/
inductive SwPhase where | none | measure | handover | settle
deriving DecidableEq, Repr

/-- DSTATE (R266). -/
inductive DState where | disabled | freerun | acquiring | locked | holdover
deriving DecidableEq, Repr

/-- HO_CAUSE (R269). -/
inductive HoCause where | none | noRef | forced | root | reset
deriving DecidableEq, Repr

/-- Ramp state of a domain (R327). -/
inductive RampState where | idle | running | held
deriving DecidableEq, Repr

/-- Module states (R9), in the order of HIF_STATUS.STATE (R53). -/
inductive ModState where | cold | acquire | locked | holdover | recovery | test | faultHold
deriving DecidableEq, Repr

/-- States of a mailbox tag (R85). -/
inductive TagState where | free | posted | queued | running | held
deriving DecidableEq, Repr

/-- Fault classes (R80). -/
inductive Cls where | none | corrected | contained | fatal
deriving DecidableEq, Repr

/-- LANE_STATE (R343). -/
inductive LaneState where | off | measuring | down | up
deriving DecidableEq, Repr

/-- RSTATE of the GNSS receiver (R383). -/
inductive RState where | off | start | search | nav | timing
deriving DecidableEq, Repr

/-- ANT (R382). -/
inductive Ant where | normal | antOpen | short | unsupervised
deriving DecidableEq, Repr

/-- ROLE of the pair unit (R416). -/
inductive PairRole where | off | init | standby | claiming | active
deriving DecidableEq, Repr

/-- Where a frame or transaction ends part-way (R44, R48). -/
inductive ShortPlace where | header | writeWord | readWord | dummy
deriving DecidableEq, Repr

/-- Supply rails (R546, R181). -/
inductive Rail where | vddCore | vddSer | vdd18 | vdd33 | vddOven
deriving DecidableEq, Repr

/-- One Carillon output (R297). -/
inductive OutId where | ck (n : Fin 24) | pl (n : Fin 16)
deriving DecidableEq, Repr

/-- The message kinds a unicast grant covers (R355). -/
inductive GrantKind where | sync | delay | ann
deriving DecidableEq, Repr

/-- What the boot finds at one image: its signature verifies, or not, or its read failed after the retry (R446, R531). -/
inductive ImgIn where | good | unsigned | unread
deriving DecidableEq, Repr

/-- What a scrub finds at one word (R467, R470). -/
inductive EccIn where | clean | corrected | retried | uncorrectable
deriving DecidableEq, Repr

/-- The mailbox commands of R108. -/
inductive Cmd where
  | sysIdentify | sysStatus | sysApply | sysResetBlock | sysFwStage | sysFwCommit | sysAbort
  | timeGet | timeSet | timeLeap | timeAlignQuery
  | measConfigCh | measArm | measRead | measInterval | measFreq | measCalStatus
  | refConfig | refLimits | refStatus | refSelect | refPriority | refWtr
  | loopConfig | loopBwSchedule | loopStatus | loopHoldoverConfig | loopForceHoldover
  | synConfig | synRampLoad | synRampRun | synBandTable | synRootStatus
  | outConfig | outPulseConfig | outRealign | outSlew | outSyncArm | outStatus
  | ptpPortConfig | ptpProfile | ptpPortStatus | ptpClientTable | ptpSecurity | ptpFrameTx | ptpFrameRx | ptpSynceConfig
  | gnssConfig | gnssStatus | gnssPosition | gnssCableDelay | gnssSnapshot | gnssSurvey
  | pairConfig | pairStatus | pairHandover
  | fltRead | fltInject | fltReaction | fltClear
  | nvsRecordRead | nvsRecordWrite | nvsStatus
  | arcQuery | arcLogRead
  | ageStatus | ageMarginPlan | agePolicy
  | telSnapshot
deriving DecidableEq, Repr

/-- An edge as it reaches an interpolator (R144): what the input path and the line deliver with it. -/
structure EdgeIn where
  /-- Falling edge; VIDEO: the leading edge of a bi-level sync, rising: the timing point of a tri-level sync (R158). -/
  falling : Bool := false
  /-- 0 pin edge, 1 video sync, 2 recovered link clock, 3 link event, 4 partner lane (R165). -/
  kind : Nat := 0
  /-- Bin of the first clocked tap the edge met, n of R144. -/
  bin : Nat := 0
  /-- VIDEO: the sync's amplitude, or that of the lobes, in mV (R158). -/
  amp : Nat := 300
  /-- VIDEO: the DC offset at the pin in mV (R158). -/
  offset : Int := 0
  /-- VIDEO: the format whose vertical interval this frame start shows, 0 none (R159, R160). -/
  format : Nat := 0
  /-- VIDEO: the sync starts a frame. -/
  frame : Bool := false
  /-- VIDEO: the sync is the first line of its field. -/
  first : Bool := false
  /-- VIDEO: the sync lies in the second field of an interlaced frame. -/
  field2 : Bool := false
  /-- VIDEO: line number of the sync. -/
  line : Nat := 0
  /-- The source of the edge is marked INVALID by its lane (R164). -/
  invalid : Bool := false
deriving DecidableEq, Repr

/-- An AUTHENTICATION TLV (R362). -/
structure AuthTlv where
  /-- securityParameterPointer. -/
  spp : Nat := 0
  keyId : Word := 0
  /-- The 16 octets of the ICV, the first most significant. -/
  icv : BitVec 128 := 0
deriving DecidableEq, Repr

/-- What every received PTP message carries (R348, R354, R361, R362). -/
structure MsgHdr where
  /-- messageType. -/
  typ : Nat := 0
  /-- versionPTP. -/
  version : Nat := 2
  /-- messageLength. -/
  len : Nat := 64
  /-- Octets of PTP that arrived, from the first of the header. -/
  octets : Nat := 64
  /-- lengthField of each TLV, in order. -/
  tlvs : List Nat := []
  /-- sequenceId. -/
  seq : Nat := 0
  /-- correctionField in 2^-16 ns. -/
  corr : Int := 0
  /-- logMessageInterval; none where the header gives no interval (0x7F). -/
  logInt : Option Int := none
  /-- domainNumber. -/
  domain : Nat := 127
  /-- sourcePortIdentity.clockIdentity. -/
  id : Nat := 0
  /-- sourcePortIdentity.portNumber. -/
  port : Nat := 1
  /-- TRANSPORT it came over: 0 L2, 1 UDP/IPv4, 2 UDP/IPv6. -/
  transport : Nat := 1
  /-- VID of the frame's IEEE 802.1Q tag. -/
  vlan : Option Nat := none
  /-- Sent to the port's own unicast address. -/
  unicast : Bool := false
  /-- Source address. -/
  addr : Nat := 0
  /-- Its AUTHENTICATION TLV. -/
  auth : Option AuthTlv := none
  /-- The octets its ICV covers. -/
  covered : List (BitVec 8) := []
  /-- Kettle instant at which its timestamp point was latched: an event message has the stamp of that edge on the lane's
  channel (R144, R162). -/
  rx : Nat := 0
deriving DecidableEq, Repr

/-- The body of an Announce (R350). -/
structure AnnData where
  prio1 : Nat := 128
  cls : Nat := 6
  acc : Nat := 0x21
  var : Nat := 0xFFFF
  prio2 : Nat := 128
  gm : Nat := 0
  steps : Nat := 0
  src : Nat := 0x20
  utc : Int := 37
  /-- leap61 bit 0, leap59 bit 1, utcValid 2, ptpTimescale 3, timeTraceable 4, frequencyTraceable 5. -/
  flags : Nat := 0
deriving DecidableEq, Repr

/-- A message a port sends, with the fields the spec gives it (R346, R350, R354, R360). Times are Metronome times in
2^-16 ns. -/
inductive TxMsg where
  /-- Sync with its timestamp; a two-step one leaves it to the Follow_Up. -/
  | sync (seq : Nat) (origin : Option Nat)
  | followUp (seq : Nat) (origin : Nat)
  | announce (seq : Nat) (a : AnnData)
  | delayReq (seq : Nat)
  /-- Delay_Resp: receive stamp, correction, requesting port. -/
  | delayResp (seq : Nat) (t4 : Int) (corr : Int) (reqId reqPort : Nat)
  | pdelayReq (seq : Nat)
  /-- Pdelay_Resp: one-step (turnaround in the correction) or two-step with the request's receive stamp. -/
  | pdelayResp (seq : Nat) (twoStep : Bool) (t2 : Int) (corr : Int) (reqId reqPort : Nat)
  | pdelayRespFollowUp (seq : Nat) (t3 : Nat) (corr : Int) (reqId reqPort : Nat)
  /-- Signaling with REQUEST, GRANT or ACKNOWLEDGE_CANCEL. -/
  | request (seq : Nat) (addr : Nat) (kind : GrantKind) (log : Int) (duration : Nat)
  | grant (seq : Nat) (addr : Nat) (kind : GrantKind) (log : Int) (duration : Nat)
  | ackCancel (seq : Nat) (addr : Nat) (kind : GrantKind)
  /-- Management with the metadata TLV (R369). -/
  | metadata (seq : Nat) (num den status : Nat) (localOffset : Int)
  /-- ESMC PDU: event or information, with its QL (R366). -/
  | esmc (event : Bool) (ql : Nat)
  /-- A host frame (R365). -/
  | host (bytes : List (BitVec 8))
  /-- The engine's answer to an ARP or NDP request for the port's own address (R364). -/
  | answer
  /-- The engine's own ARP or NDP request for an address (R364). -/
  | resolve (addr : Nat)
  /-- IGMP or MLD report of a multicast group (R364). -/
  | join (group : Nat)
deriving DecidableEq, Repr

/-- A frame as a lane sends it: what it carries, and for a PTP message how it goes (R346, R348, R362). -/
structure TxFrame where
  msg : TxMsg
  /-- PCP and VID of its IEEE 802.1Q tag. -/
  vlan : Option (Nat × Nat) := none
  /-- TRANSPORT and destination address of a PTP message. -/
  dest : Option (Nat × Nat) := none
  /-- UDP destination port. -/
  udp : Option Nat := none
  auth : Option AuthTlv := none
  /-- The two octets appended after a one-step message over UDP/IPv6. -/
  fix : Option Nat := none
deriving DecidableEq, Repr

/-- A partner heartbeat (R419) with the stamp this module gives it (R423). -/
structure HbFrame where
  seq : Nat := 0
  role : Nat := 1
  mstate : Nat := 0
  slotB : Bool := false
  ilkOut : Bool := false
  ilkIn : Bool := false
  gong : Bool := false
  fit : Bool := false
  propose : Bool := false
  accept : Bool := false
  mark : Int := 0
  echoSeq : Nat := 0
  echoRx : Int := 0
  ofs : List Int := []
  digest : Word := 0
  asym : Int := 0
  teEst : Nat := 0
  hoT : Nat := 0
  /-- Kettle instant at which its timestamp point was latched: its stamp is that edge's on the pair channel. -/
  rx : Nat := 0
deriving DecidableEq, Repr

/-- One position as GNSS_POSITION reports it (R404). -/
structure Fix where
  fix : Nat := 0
  surveyed : Bool := false
  dual : Bool := false
  sats : Nat := 0
  pdop : Nat := 0
  lat : Int := 0
  lon : Int := 0
  height : Int := 0
  hUnc : Nat := 0
  vUnc : Nat := 0
  x : Int := 0
  y : Int := 0
  z : Int := 0
  at_ : Nat := 0
deriving DecidableEq, Repr

/-- A satellite: its constellation, by its bit of CONST, and its number in it (R380, R401). -/
structure GnssSat where
  const : Fin 4 := 0
  sv : Nat := 0
deriving DecidableEq, Repr

/-- A signal that a receiver channel tracks: the L1-band or the L5-band signal of a satellite (R380, R384). -/
structure GnssTrack where
  sat : GnssSat := {}
  l5 : Bool := false
deriving DecidableEq, Repr

/-- Group delays of the two bands from the ANT_IN land to the correlators, in ps (R381). -/
structure GroupDelay where
  l1 : Int := 0
  l5 : Int := 0
deriving DecidableEq, Repr

/-- A tracked signal as the second's solution sees it (R384, R392). -/
structure SigIn where
  track : GnssTrack := {}
  /-- Elevation of its satellite in degrees. -/
  elev : Int := 0
  /-- C/N0 in 0.1 dB-Hz. -/
  cn0 : Nat := 0
  /-- Residual of the solution in ps. -/
  residual : Int := 0
deriving DecidableEq, Repr

/-- What the receiver's tracking and navigation deliver for one Metronome second (R387-R394). -/
structure MarkIn where
  /-- Kettle instant of the tick at which the Metronome second began. -/
  tick : Nat := 0
  /-- G at that tick before the group delays and the delays of GNSS_CABLE_DELAY are removed, 2^-16 ns; none: no time
  solution. -/
  g : Option Int := none
  /-- Bound of R389 in ps. -/
  unc : Nat := 0
  /-- The signals its channels measured in that second. -/
  sigs : List SigIn := []
  /-- Dual-frequency L1 ionosphere delay of a satellite in ps (R392). -/
  iono : List (GnssSat × Int) := []
  /-- Clock bias solved from one constellation's satellites alone, its broadcast offset to the primary removed, in ps
  (R392). -/
  bias : List (Fin 4 × Int) := []
  /-- Group delays as measured in that second (R381). -/
  group : Option GroupDelay := none
  /-- NAV position solved in that second (R394). -/
  nav : Option Fix := none
  /-- Almanacs held. -/
  almanacs : Bool := false
  /-- Broadcast UTC_OFFSET and leap event (R388): offset, EVENT second, +1 or -1. -/
  utc : Option Int := none
  event : Nat := 0
  leap : Int := 0
deriving DecidableEq, Repr

/-- The content of a state snapshot (R427). -/
structure SnapIn where
  utc : Int := 0
  offSource : Nat := 7
  event : Nat := 0
  leap : Int := 0
  source : Nat := 0
  tTrace : Bool := false
  fTrace : Bool := false
  dstates : List Nat := []
  teEst : List Nat := []
  feEst : List Nat := []
  overBudget : List Bool := []
  traceHeld : List Bool := []
  clockClass : Nat := 248
  mstate : Nat := 0
deriving DecidableEq, Repr

/-- A report as a source places it in its latch (R443). -/
structure Report where
  source : Nat := 0
  cls : Cls := .corrected
  code : Nat := 0
  transient : Bool := false
  detail : Word := 0
deriving DecidableEq, Repr

/-- One second's means of the sensors (R518, R523). -/
structure Sensors where
  caseTemp : Int := 2500
  dieTemp : Int := 4000
  ovenErr : Int := 0
  heater : Nat := 2000
  vddCore : Nat := 800
  vddSer : Nat := 900
  vdd18 : Nat := 1800
  vdd33 : Nat := 3300
  vddOven : Nat := 12000
  power : Nat := 24000
deriving DecidableEq, Repr

/-- What the daily update takes from the units that measure it (R500). -/
structure DayIn where
  /-- Daily value of TDC: the share of the nearest bound of R150 in 0.01 %. -/
  tdc : Int := 0
  /-- Eye margin the partner lane's re-adaptation found, 0.001 UI; none: not powered. -/
  partnerEye : Option Nat := none
  /-- Steady heater power extrapolated to a 0 C case, mW. -/
  oven : Int := 0
deriving DecidableEq, Repr

end Sys2Proof.Machine
end

