-- ==== Sys2Proof/Syntax.lean ====
section
/-!
DEFINITION. The commands: one constructor for each row of the spec's table of steps. `t` is the instant of the step in
2^-16 ns of Kettle time (log 1); the other operands are what the step brings from outside.
-/

namespace Sys2Proof

open Sys2Proof.Machine

/-- The commands the block takes: host accesses, mailbox commands as they execute, and events of time and of pins. -/
inductive Instr where
  /-- SPI_STATUS_FRAME (R42): An SPI frame with opcode 0x05 shifts out a fresh capture of HIF_STATUS for each word clocked. -/
  | spiStatusFrame (t : Nat) (priv : Bool)
  /-- BAD_OP (R43): An SPI frame with an unknown opcode is ignored, leaves SDO in high impedance and sets HIF_ERR.BAD_OP. -/
  | badOp (t : Nat) (op : BitVec 8)
  /-- CS_CONFLICT (R39): CSA_N and CSP_N asserted together make the port ignore the frame until both deassert, and set HIF_ERR.CS_CONFLICT. -/
  | csConflict (t : Nat)
  /-- SHORT_FRAME (R44): An SPI frame that ends inside the opcode, the address, a write word or a read word has the outcome the table gives, possibly setting HIF_ERR.SHORT. -/
  | shortFrame (t : Nat) (place : ShortPlace) (addr : Option (BitVec 16))
  /-- SHORT_TRANSACTION (R48): A service-port transaction that stops inside a word, inside the word address, or after the device address only is handled as a short or probe transaction. -/
  | shortTransaction (t : Nat) (dev : BitVec 7) (bytes : List (BitVec 8)) (reads : Nat)
  /-- MB_CMD_WINDOW (R62): A write to the port's command window stores the next command word, or discards it and sets OVERRUN beyond the 65th word. -/
  | mbCmdWindow (t : Nat) (port : Fin 2) (first : Bool) (w : Word)
  /-- MB_POST (R88): A write of a tag to MB_POST hands the window contents to the firmware under that tag and returns the window pointer to the header. -/
  | mbPost (t : Nat) (port : Fin 2) (priv : Bool) (w : Word)
  /-- MB_RESP_TAG (R62): A write selects the tag whose response this port reads and returns the data pointer to the first data word. -/
  | mbRespTag (t : Nat) (port : Fin 2) (w : Word)
  /-- MB_RESP_HDR (R100): A complete read of the response header returns it, increments READS of a held response and resets the data pointer. -/
  | mbRespHdr (t : Nat) (port : Fin 2)
  /-- MB_RESP_DATA (R62): A complete read returns the next response data word and advances the port's data pointer. -/
  | mbRespData (t : Nat) (port : Fin 2)
  /-- MB_RESP_ACK (R85): A write releases the held response of the tag and frees the tag, or holds a follow-up response if posts collided. -/
  | mbRespAck (t : Nat) (port : Fin 2) (w : Word)
  /-- WV_SEL (R64): A write to WV_SEL starts a capture of the selected wide value, clears VALID and supersedes any capture in progress. -/
  | wvSel (t : Nat) (port : Fin 2) (w : Word)
  /-- WV_CAPTURE_DONE (R64): A wide-value capture completes, publishing all four data words together, setting VALID and counting SEQ. -/
  | wvCaptureDone (t : Nat) (port : Fin 2)
  /-- UPD_STROBE_GO (R58): A write of 1 to UPD_STROBE.GO makes a strobe request that captures UPD_ARM, pending or queued. -/
  | updStrobeGo (t : Nat) (port : Fin 2) (w : Word)
  /-- STROBE_APPLY (R566): A pending strobe request applies the shadow buffers of its armed groups at one CLK_CORE edge, at once or at a Metronome second. -/
  | strobeApply (t : Nat)
  /-- IND_ADDRESS_WRITE (R73): A write to IND_CTLn or IND_ADDRn discards the prefetched word and starts a fetch at the new address. -/
  | indAddressWrite (t : Nat) (port : Fin 2) (n : Fin 4) (ctl : Bool) (w : Word)
  /-- IND_DATA_READ (R73): A complete read of IND_DATAn returns the prefetched word, advances the address by STRIDE and fetches again. -/
  | indDataRead (t : Nat) (port : Fin 2) (priv : Bool) (n : Fin 4) (ecc : EccIn)
  /-- IND_DATA_WRITE (R73): A complete write of IND_DATAn writes the word at the current address, subject to space rules, and advances by STRIDE. -/
  | indDataWrite (t : Nat) (port : Fin 2) (priv : Bool) (n : Fin 4) (w : Word)
  /-- IND_PREFETCH (R74): The next word of an indirect space becomes available in the pair's prefetch, reading zero and setting ECC on an uncorrectable error. -/
  | indPrefetch (t : Nat) (n : Fin 4) (ecc : EccIn)
  /-- FLT_COUNT_WRITE (R81): A write to a fault class counter loads its COUNT and SAT fields. -/
  | fltCountWrite (t : Nat) (port : Fin 2) (which : Cls) (w : Word)
  /-- SOFT_RESET (R82): A privileged write of 1 to FW_CTL.SOFT_RESET resets the module as RESET_N does. -/
  | softReset (t : Nat) (port : Fin 2) (priv : Bool)
  /-- FW_CTL_NEXT (R83): A write of FW_CTL.NEXT selects the image for the next boot and reaches the firmware store within 1 ms. -/
  | fwCtlNext (t : Nat) (port : Fin 2) (priv : Bool) (v : Bool)
  /-- FW_CTL_FALLBACK (R83): A write of FW_CTL.FALLBACK sets whether the other image is loaded when NEXT fails, stored within 1 ms. -/
  | fwCtlFallback (t : Nat) (port : Fin 2) (priv : Bool) (v : Bool)
  /-- KEY_SLOT_ERASE (R363): Writing a KEY_SLOT_CTL.ERASE bit erases that PTP key slot at a message boundary and marks it empty. -/
  | keySlotErase (t : Nat) (port : Fin 2) (priv : Bool) (mask : BitVec 16)
  /-- TEST_ENTER (R9): A privileged write of 1 to TEST_CTL.TEST puts the module in TEST, or is refused in FAULT_HOLD and under the loader. -/
  | testEnter (t : Nat) (port : Fin 2) (priv : Bool)
  /-- TEST_LEAVE (R9): Clearing TEST_CTL.TEST takes the module from TEST to ACQUIRE. -/
  | testLeave (t : Nat) (port : Fin 2) (priv : Bool)
  /-- REGISTER_WRITE (R6): A write to any register without a row of its own updates its RW and W1C fields as its access codes define. -/
  | registerWrite (t : Nat) (port : Fin 2) (priv : Bool) (addr : Option (BitVec 16)) (w : Word)
  /-- COMMAND_ACCEPTANCE (R92): Within 20 µs of a post the firmware runs the ordered acceptance checks, moving the tag to QUEUED or to HELD with an error. -/
  | commandAcceptance (t : Nat) (tag : Fin 48)
  /-- COMMAND_DISPATCH (R94): A queued command reaches the head of its group queue and starts running. -/
  | commandDispatch (t : Nat) (tag : Fin 48)
  /-- SYS_IDENTIFY (R109): Returns part, revision, build, straps, image and serial number. -/
  | sysIdentify (t : Nat) (tag : Fin 48)
  /-- SYS_STATUS (R110): Returns module state, flags, uptime, collisions and reset cause. -/
  | sysStatus (t : Nat) (tag : Fin 48)
  /-- SYS_APPLY (R112): Makes a strobe request with the present or given arming and completes when the strobe has applied. -/
  | sysApply (t : Nat) (tag : Fin 48)
  /-- SYS_RESET_BLOCK (R114): Resets one block, completing when its reset shadow ends, or escalates on a third reset within 10 s. -/
  | sysResetBlock (t : Nat) (tag : Fin 48)
  /-- SYS_FW_STAGE (R115): Writes consecutive firmware image words into the staging region. -/
  | sysFwStage (t : Nat) (tag : Fin 48)
  /-- SYS_FW_COMMIT (R116): Checks the staged image, writes it into the slot not running, verifies it and optionally sets NEXT and resets. -/
  | sysFwCommit (t : Nat) (tag : Fin 48) (sigOk : Bool)
  /-- SYS_ABORT (R117): Ends a queued or deferred command in flight, holding its response as ABORTED. -/
  | sysAbort (t : Nat) (tag : Fin 48)
  /-- TIME_GET (R133): Returns the Metronome time, time properties, leap schedule and last step. -/
  | timeGet (t : Nat) (tag : Fin 48)
  /-- TIME_SET (R135): Steps the Metronome absolutely, by an offset, or by the pending reference step. -/
  | timeSet (t : Nat) (tag : Fin 48)
  /-- TIME_LEAP (R138): Sets, schedules, cancels or releases the host UTC offset and its leap schedule. -/
  | timeLeap (t : Nat) (tag : Fin 48)
  /-- TIME_ALIGN_QUERY (R140): Computes the alignment points of a rate at an instant by exact arithmetic. -/
  | timeAlignQuery (t : Nat) (tag : Fin 48)
  /-- MEAS_CONFIG_CH (R166): Configures one measurement channel's input, prescaler, video mode or link clock divider. -/
  | measConfigCh (t : Nat) (tag : Fin 48)
  /-- MEAS_ARM (R168): Arms, re-arms or releases the stamp capture of one channel. -/
  | measArm (t : Nat) (tag : Fin 48)
  /-- MEAS_READ (R170): Returns up to 63 captured stamps and the channel status. -/
  | measRead (t : Nat) (tag : Fin 48)
  /-- MEAS_INTERVAL (R172): Measures start-to-stop intervals over repeated attempts and reports their statistics. -/
  | measInterval (t : Nat) (tag : Fin 48)
  /-- MEAS_FREQ (R191): Runs a regression gate on one channel and reports frequency, phase and uncertainties. -/
  | measFreq (t : Nat) (tag : Fin 48)
  /-- MEAS_CAL_STATUS (R194): Reports the oven and the calibration state of every stamping point. -/
  | measCalStatus (t : Nat) (tag : Fin 48)
  /-- REF_CONFIG (R218): Enables a candidate and sets its class, traceability, rate and external delay. -/
  | refConfig (t : Nat) (tag : Fin 48)
  /-- REF_LIMITS (R220): Sets a candidate's frequency, phase, cross-check and activity limits. -/
  | refLimits (t : Nat) (tag : Fin 48)
  /-- REF_STATUS (R222): Returns the qualification summary or the detail of one candidate. -/
  | refStatus (t : Nat) (tag : Fin 48)
  /-- REF_SELECT (R251): Sets a DPLL's selection mode, reversion, manual candidate and switching parameters. -/
  | refSelect (t : Nat) (tag : Fin 48)
  /-- REF_PRIORITY (R254): Sets USE and PRIORITY entries of a DPLL's candidate table. -/
  | refPriority (t : Nat) (tag : Fin 48)
  /-- REF_WTR (R221): Sets a candidate's wait-to-restore enable and time. -/
  | refWtr (t : Nat) (tag : Fin 48)
  /-- LOOP_CONFIG (R290): Enables a DPLL and sets its bandwidth, damping, thresholds, clamp and recovery slew. -/
  | loopConfig (t : Nat) (tag : Fin 48)
  /-- LOOP_BW_SCHEDULE (R292): Loads a DPLL's bandwidth schedule and optionally restarts it. -/
  | loopBwSchedule (t : Nat) (tag : Fin 48)
  /-- LOOP_STATUS (R295): Returns one DPLL's state, selection word, errors, control value and estimates. -/
  | loopStatus (t : Nat) (tag : Fin 48)
  /-- LOOP_HOLDOVER_CONFIG (R293): Sets a DPLL's holdover window, guard, drift and temperature terms and budget. -/
  | loopHoldoverConfig (t : Nat) (tag : Fin 48)
  /-- LOOP_FORCE_HOLDOVER (R294): Forces a DPLL into holdover with cause FORCED or releases it. -/
  | loopForceHoldover (t : Nat) (tag : Fin 48)
  /-- SYN_CONFIG (R328): Powers a synthesis domain up or down and sets its frequency. -/
  | synConfig (t : Nat) (tag : Fin 48)
  /-- SYN_RAMP_LOAD (R329): Writes segments of a domain's ramp profile. -/
  | synRampLoad (t : Nat) (tag : Fin 48)
  /-- SYN_RAMP_RUN (R330): Starts or stops a domain's ramp. -/
  | synRampRun (t : Nat) (tag : Fin 48)
  /-- SYN_BAND_TABLE (R331): Returns bands of a domain's VCO band table. -/
  | synBandTable (t : Nat) (tag : Fin 48)
  /-- SYN_ROOT_STATUS (R332): Returns the root PLL state, losses and relock history. -/
  | synRootStatus (t : Nat) (tag : Fin 48)
  /-- OUT_CONFIG (R333): Configures one CKOUT output's enable, format, domain, divider and phase. -/
  | outConfig (t : Nat) (tag : Fin 48)
  /-- OUT_PULSE_CONFIG (R334): Configures one PULSE output's enable, level, rate, width and delay. -/
  | outPulseConfig (t : Nat) (tag : Fin 48)
  /-- OUT_REALIGN (R320): Resolves pending steps of named domains and re-aligns their outputs or named outputs. -/
  | outRealign (t : Nat) (tag : Fin 48)
  /-- OUT_SLEW (R336): Sets automatic slewing and slew rate of PULSE outputs and optionally starts slews. -/
  | outSlew (t : Nat) (tag : Fin 48)
  /-- OUT_SYNC_ARM (R337): Arms or disarms a set of outputs on a slope of SYNC_IN. -/
  | outSyncArm (t : Nat) (tag : Fin 48)
  /-- OUT_STATUS (R338): Returns domain, CKOUT and PULSE status and the SYNC_IN arm. -/
  | outStatus (t : Nat) (tag : Fin 48)
  /-- PTP_PORT_CONFIG (R370): Configures one lane and its PTP port. -/
  | ptpPortConfig (t : Nat) (tag : Fin 48)
  /-- PTP_PROFILE (R369): Enables the message engine and sets profile, domain, identity, priorities and intervals. -/
  | ptpProfile (t : Nat) (tag : Fin 48)
  /-- PTP_PORT_STATUS (R372): Returns one port's lane and PTP state, parent, delays and offset. -/
  | ptpPortStatus (t : Nat) (tag : Fin 48)
  /-- PTP_CLIENT_TABLE (R373): Returns entries of a port's unicast client table. -/
  | ptpClientTable (t : Nat) (tag : Fin 48)
  /-- PTP_SECURITY (R374): Loads an authentication key or sets a port's authentication policy. -/
  | ptpSecurity (t : Nat) (tag : Fin 48)
  /-- PTP_FRAME_TX (R375): Assembles a host frame in pieces and queues it for sending when LAST arrives. -/
  | ptpFrameTx (t : Nat) (tag : Fin 48)
  /-- PTP_FRAME_RX (R376): Reads, and optionally releases, the frame at the head of the host queue. -/
  | ptpFrameRx (t : Nat) (tag : Fin 48)
  /-- PTP_SYNCE_CONFIG (R371): Configures a lane's ESMC transmission, reception and quality levels. -/
  | ptpSynceConfig (t : Nat) (tag : Fin 48)
  /-- GNSS_CONFIG (R401): Configures the GNSS receiver, antenna bias, constellations, bands, masks and alarm limits. -/
  | gnssConfig (t : Nat) (tag : Fin 48)
  /-- GNSS_STATUS (R403): Returns receiver state, alarms, satellites, uncertainty and prediction deviation. -/
  | gnssStatus (t : Nat) (tag : Fin 48)
  /-- GNSS_POSITION (R404): Returns the latest NAV solution or the fixed position. -/
  | gnssPosition (t : Nat) (tag : Fin 48)
  /-- GNSS_CABLE_DELAY (R402): Sets the antenna cable delay and the band difference. -/
  | gnssCableDelay (t : Nat) (tag : Fin 48)
  /-- GNSS_SNAPSHOT (R406): Captures, processes or releases a snapshot of sampler output. -/
  | gnssSnapshot (t : Nat) (tag : Fin 48)
  /-- GNSS_SURVEY (R405): Starts a position survey, sets the fixed position, or clears it. -/
  | gnssSurvey (t : Nat) (tag : Fin 48)
  /-- PAIR_CONFIG (R437): Enables the pair unit and sets quiet mode, init wait and asymmetry. -/
  | pairConfig (t : Nat) (tag : Fin 48)
  /-- PAIR_STATUS (R438): Returns the pair role, partner state, alignment and delays. -/
  | pairStatus (t : Nat) (tag : Fin 48)
  /-- PAIR_HANDOVER (R439): Proposes and runs a commanded handover to the standby at a second boundary. -/
  | pairHandover (t : Nat) (tag : Fin 48)
  /-- FLT_READ (R463): Returns fault records from the ring or the fatal record held in NVS. -/
  | fltRead (t : Nat) (tag : Fin 48)
  /-- FLT_INJECT (R464): Injects a fault pattern into a checker and reports the resulting record. -/
  | fltInject (t : Nat) (tag : Fin 48) (real : Cls)
  /-- FLT_REACTION (R465): Sets a code's reaction or the Gong output policy. -/
  | fltReaction (t : Nat) (tag : Fin 48)
  /-- FLT_CLEAR (R466): Empties the fault ring and, in FAULT_HOLD, releases the Gong and enters RECOVERY. -/
  | fltClear (t : Nat) (tag : Fin 48)
  /-- NVS_RECORD_READ (R493): Returns payload words of an NVS record from SRAM or one stored slot. -/
  | nvsRecordRead (t : Nat) (tag : Fin 48)
  /-- NVS_RECORD_WRITE (R494): Assembles a host record in pieces and writes or defers it when LAST arrives. -/
  | nvsRecordWrite (t : Nat) (tag : Fin 48)
  /-- NVS_STATUS (R495): Returns NVS recall, protection, passes, deferred writes and wear. -/
  | nvsStatus (t : Nat) (tag : Fin 48)
  /-- ARC_QUERY (R496): Returns a coherent copy of consecutive phase archive entries of one tier. -/
  | arcQuery (t : Nat) (tag : Fin 48)
  /-- ARC_LOG_READ (R497): Returns event log entries from a sequence number. -/
  | arcLogRead (t : Nat) (tag : Fin 48)
  /-- AGE_STATUS (R520): Returns the ageing model, item margins and Roll status. -/
  | ageStatus (t : Nat) (tag : Fin 48)
  /-- AGE_MARGIN_PLAN (R521): Returns the margin plan in force, optionally computing a new one first. -/
  | ageMarginPlan (t : Nat) (tag : Fin 48)
  /-- AGE_POLICY (R522): Sets plan enables and the alarm threshold, or resets the Kettle model. -/
  | agePolicy (t : Nat) (tag : Fin 48)
  /-- TEL_SNAPSHOT (R523): Returns the last second's mean telemetry. -/
  | telSnapshot (t : Nat) (tag : Fin 48)
  /-- POWER_ON (R527): All supplies enter their operating ranges and the boot sequence starts. -/
  | powerOn (t : Nat) (i2c : Bool) (slotB : Bool) (wp : Bool)
  /-- RESET_N (R526): RESET_N asserted for at least 1 µs resets the module in full, keeping the oven. -/
  | resetN (t : Nat) (ns : Nat)
  /-- BROWN_OUT (R546): A supply below its brown-out threshold for 2 µs resets the module as at power-on. -/
  | brownOut (t : Nat) (rail : Rail) (ns : Nat) (fell18 : Bool) (torn : Nat)
  /-- NVS_RECALL_DONE (R485): The power-up recall of every NVS page ends; RECALL clears and RECALL_DONE sets. -/
  | nvsRecallDone (t : Nat)
  /-- FIRMWARE_LOADED (R531): The boot image, or the fallback image, has been checked and loaded, or no image could be loaded. -/
  | firmwareLoaded (t : Nat) (a : ImgIn) (b : ImgIn)
  /-- PROCESSOR_RESTART_DONE (R450): The cores restarted after a processor fatal fault resume and FW_READY sets again. -/
  | processorRestartDone (t : Nat)
  /-- RESET_AFTER (R116): 100 ms after a commit response with RESET_AFTER is held, the module resets. -/
  | resetAfter (t : Nat)
  /-- FW_STAGED_CHECK (R540): The staged image reaches its length and passes its check, setting FW_CTL.STAGED. -/
  | fwStagedCheck (t : Nat) (sigOk : Bool)
  /-- WP_N_ASSERT (R487): WP_N asserted stops further NVS page operations and defers record writes. -/
  | wpNAssert (t : Nat) (pages : Nat)
  /-- WP_N_DEASSERT (R488): WP_N deasserted lets the deferred records be written within 10 ms. -/
  | wpNDeassert (t : Nat)
  /-- NVS_WRITE_DONE (R484): A record write's page operations and read-back complete, with one rewrite or NVS_VERIFY on mismatch. -/
  | nvsWriteDone (t : Nat) (id : Nat) (ok1 : Bool) (ok2 : Bool)
  /-- METRONOME_SECOND (R18): The Metronome begins a new second, driving PPS and the once-a-second work. -/
  | metronomeSecond (t : Nat)
  /-- LEAP_FLAG_SET (R128): At EVENT minus 43,200 s LEAP61 or LEAP59 sets. -/
  | leapFlagSet (t : Nat)
  /-- LEAP_EVENT (R128): At second EVENT UTC_OFFSET changes and the leap flag clears. -/
  | leapEvent (t : Nat)
  /-- KETTLE_LOSS (R20): No CLK_AON edge for 500 ns invalidates the Metronome and raises a fatal fault. -/
  | kettleLoss (t : Nat)
  /-- ROOT_LOSS (R298): The root lock monitor declares loss; derived clocks move to the fallback ring and DPLLs enter holdover. -/
  | rootLoss (t : Nat) (ringKhz : Nat)
  /-- ROOT_RELOCK (R299): The relock sequence completes and the derived clocks switch back to the root. -/
  | rootRelock (t : Nat) (counts : List Nat) (ok : Bool)
  /-- ROOT_RELOCK_RETRY (R300): 1 s after a failed relock step the whole sequence starts again. -/
  | rootRelockRetry (t : Nat)
  /-- DOMAIN_BAND_FILL_DONE (R302): A domain's band table fill ends, a band is selected and the domain PLL locks. -/
  | domainBandFillDone (t : Nat) (d : Fin 8) (table : List (Nat × Nat))
  /-- DOMAIN_LOCK (R306): A running domain PLL loses lock and its outputs go to the disabled level. -/
  | domainLock (t : Nat) (d : Fin 8)
  /-- DOMAIN_RELOCK (R306): A domain PLL relocks after a loss and its enabled outputs start aligned. -/
  | domainRelock (t : Nat) (d : Fin 8)
  /-- DOMAIN_RETUNE_DONE (R306): A domain retuned to a new F_D locks and its enabled outputs start aligned. -/
  | domainRetuneDone (t : Nat) (d : Fin 8)
  /-- BAND_CHECK (R304): Roll compares each domain's tuning voltage with its band table, raising BAND_DRIFT or LOW_MARGIN. -/
  | bandCheck (t : Nat) (d : Fin 8) (devPpm : Nat) (marginPpm : Nat)
  /-- OUTPUT_HOLD_END (R313): The disabled-level hold after an output configuration change ends and the output starts aligned. -/
  | outputHoldEnd (t : Nat) (out : OutId)
  /-- REFERENCE_EDGE (R144): An input edge reaches a channel's interpolator and is stamped. -/
  | referenceEdge (t : Nat) (ch : Fin 66) (e : EdgeIn)
  /-- STAMP_RELEASE (R146): A stamp leaves the look-back stage 1.25 µs after its edge and reaches every consumer. -/
  | stampRelease (t : Nat) (ch : Fin 66)
  /-- LINE_SWAP (R147): The interpolator lines swap roles at a swap period or at a capture or interval start. -/
  | lineSwap (t : Nat) (ch : Fin 66) (p1 : Nat) (p2 : Nat)
  /-- BIN_TABLE_COMPLETE (R148): A line's code-density hits reach 2^20 and form a new bin table. -/
  | binTableComplete (t : Nat) (ch : Fin 66) (line1 : Bool) (hits : List Nat)
  /-- PERIOD_PAIR_RETRY (R150): Every 1 s a channel in CAL FAILED retries its period pair. -/
  | periodPairRetry (t : Nat) (ch : Fin 66) (p1 : Nat) (p2 : Nat)
  /-- CHANNEL_READY (R157): 20 µs after power-up or reset a pin channel has its input delay and period pairs and releases stamps. -/
  | channelReady (t : Nat) (ch : Fin 66) (dIn : Int) (p1 : Nat) (p2 : Nat) (q1 : Nat) (q2 : Nat)
  /-- COMPARATOR_SETTLED (R156): 2 µs after a comparator change its stamps stop carrying INVALID. -/
  | comparatorSettled (t : Nat) (ch : Fin 66)
  /-- VIDEO_SYNC_MISSING (R160): An expected video sync fails to arrive, counting a miss and after three leaving lock. -/
  | videoSyncMissing (t : Nat) (ch : Fin 66)
  /-- CAPTURE_DURATION_END (R168): A capture's DURATION passes and it goes to DONE. -/
  | captureDurationEnd (t : Nat) (ch : Fin 66)
  /-- INTERVAL_START_TIMEOUT (R173): An interval attempt finds no start edge within START_WAIT and the command ends. -/
  | intervalStartTimeout (t : Nat) (tag : Fin 48)
  /-- INTERVAL_WINDOW_CLOSE (R173): An interval attempt's window closes, timing out if no stop qualified. -/
  | intervalWindowClose (t : Nat) (tag : Fin 48)
  /-- FREQ_GATE_END (R192): A MEAS_FREQ gate ends and the fit is solved and reported. -/
  | freqGateEnd (t : Nat) (tag : Fin 48)
  /-- KETTLE_SENSOR (R179): The oven thermistors disagree by more than 0.1 K for over 1 s, raising a contained fault. -/
  | kettleSensor (t : Nat) (second : Bool)
  /-- KETTLE_WARM_SET (R180): The oven has held its set point for 60 s with steady heater power and KETTLE_WARM sets. -/
  | kettleWarmSet (t : Nat)
  /-- KETTLE_OVEN (R181): The oven leaves its set point by over 0.25 K for more than 10 s and KETTLE_WARM clears. -/
  | kettleOven (t : Nat)
  /-- VDD_OVEN_FALL (R181): VDD_OVEN falls below its range, the heater turns off and KETTLE_WARM clears. -/
  | vddOvenFall (t : Nat)
  /-- ACTIVITY_LOSS (R199): A candidate's loss of activity is declared in hardware when its limit passes. -/
  | activityLoss (t : Nat) (ref : Fin 66)
  /-- FREQ_WINDOW_END (R202): A frequency monitor window ends and the firmware gives its verdict. -/
  | freqWindowEnd (t : Nat) (ref : Fin 66)
  /-- WTR_END (R208): A candidate's wait-to-restore time ends and it becomes QUALIFIED. -/
  | wtrEnd (t : Nat) (ref : Fin 66)
  /-- PHASE_DISC_CLEAR (R209): The discontinuity hold runs out and PHASE_DISC clears. -/
  | phaseDiscClear (t : Nat) (ref : Fin 66)
  /-- PHASE_HISTORY_DISCARD (R204): After 86,400 s without activity a candidate's phase history is discarded. -/
  | phaseHistoryDiscard (t : Nat) (ref : Fin 66)
  /-- EVALUATION (R231): Within 2 ms of an evaluation point the firmware computes a DPLL's wanted reference and NEXT and starts any switch. -/
  | evaluation (t : Nat) (d : Fin 8)
  /-- MEASURE_END (R236): The 64 ms MEASURE phase ends with the offset O formed and HANDOVER begins. -/
  | measureEnd (t : Nat) (d : Fin 8)
  /-- HANDOVER_END (R235): The 1 ms HANDOVER phase ends, the loop closes and SETTLE begins. -/
  | handoverEnd (t : Nat) (d : Fin 8)
  /-- SETTLE_TIMEOUT (R239): 10 s after SETTLE began the switch ends with SETTLE_TIMEOUT. -/
  | settleTimeout (t : Nat) (d : Fin 8)
  /-- STEERING_END (R244): A steered build-out reaches zero and STEERING or SLEWING clears. -/
  | steeringEnd (t : Nat) (d : Fin 8)
  /-- PULL_LIMITED_TIMEOUT (R267): PULL_LIMITED held for 1 s loses lock. -/
  | pullLimitedTimeout (t : Nat) (d : Fin 8)
  /-- SCHEDULE_STEP_END (R264): A bandwidth schedule step's dwell ends and the next step or final bandwidth applies. -/
  | scheduleStepEnd (t : Nat) (d : Fin 8)
  /-- RAMP_SEGMENT_END (R308): A ramp segment's target and dwell are done and the next segment, loop or HELD follows. -/
  | rampSegmentEnd (t : Nat) (d : Fin 8)
  /-- SLEW_END (R322): A slewing PULSE output reaches |φ| ≤ 5 ps and its slew ends. -/
  | slewEnd (t : Nat) (p : Fin 16)
  /-- SYNC_IN_EDGE (R324): A qualifying SYNC_IN edge restarts every armed output and consumes the arm. -/
  | syncInEdge (t : Nat) (falling : Bool) (waits : List Nat)
  /-- SYNC_ARM_TIMEOUT (R324): An arm's TIMEOUT passes without an edge and SYNC_EXPIRED sets. -/
  | syncArmTimeout (t : Nat)
  /-- LANE_MEASURING_END (R343): A lane's path delays are measured and it goes from MEASURING to DOWN. -/
  | laneMeasuringEnd (t : Nat) (lane : Fin 48) (tx : Nat) (rx : Nat)
  /-- BLOCK_LOCK_GAINED (R343): A lane gains block lock, and FEC alignment when on, and goes UP. -/
  | blockLockGained (t : Nat) (lane : Fin 48)
  /-- BLOCK_LOCK_LOST (R343): A lane loses block lock or FEC alignment and goes DOWN. -/
  | blockLockLost (t : Nat) (lane : Fin 48)
  /-- RX_SYNC (R352): A received Sync from the parent gives an offset, the phase sample of the link candidate. -/
  | rxSync (t : Nat) (lane : Fin 48) (h : MsgHdr) (twoStep : Bool) (origin : Nat)
  /-- RX_FOLLOW_UP (R352): A received Follow_Up supplies the precise origin time of a two-step Sync. -/
  | rxFollowUp (t : Nat) (lane : Fin 48) (h : MsgHdr) (origin : Nat)
  /-- RX_DELAY_REQ (R354): A received Delay_Req is answered by a Delay_Resp within 20 µs, subject to policing and grants. -/
  | rxDelayReq (t : Nat) (lane : Fin 48) (h : MsgHdr)
  /-- RX_DELAY_RESP (R352): A received Delay_Resp completes an E2E exchange and gives a path-delay sample. -/
  | rxDelayResp (t : Nat) (lane : Fin 48) (h : MsgHdr) (t4 : Nat) (reqId : Nat) (reqPort : Nat)
  /-- RX_ANNOUNCE (R349): A received Announce enters the BMCA and foreign-master table, subject to lists and loop checks. -/
  | rxAnnounce (t : Nat) (lane : Fin 48) (h : MsgHdr) (a : AnnData)
  /-- RX_PDELAY_REQ (R354): A received Pdelay_Req is answered by a Pdelay_Resp within 10 µs. -/
  | rxPdelayReq (t : Nat) (lane : Fin 48) (h : MsgHdr)
  /-- RX_PDELAY_RESP (R352): A received Pdelay_Resp contributes to a peer-delay exchange. -/
  | rxPdelayResp (t : Nat) (lane : Fin 48) (h : MsgHdr) (twoStep : Bool) (t2 : Nat) (reqId : Nat) (reqPort : Nat)
  /-- RX_PDELAY_RESP_FOLLOW_UP (R352): A received Pdelay_Resp_Follow_Up completes a two-step peer-delay exchange. -/
  | rxPdelayRespFollowUp (t : Nat) (lane : Fin 48) (h : MsgHdr) (t3 : Nat) (reqId : Nat) (reqPort : Nat)
  /-- RX_REQUEST_UNICAST (R356): A REQUEST_UNICAST_TRANSMISSION is granted or denied within 1 ms. -/
  | rxRequestUnicast (t : Nat) (lane : Fin 48) (h : MsgHdr) (kind : GrantKind) (log : Int) (duration : Nat)
  /-- RX_CANCEL_UNICAST (R356): A CANCEL_UNICAST_TRANSMISSION ends the grant and is acknowledged. -/
  | rxCancelUnicast (t : Nat) (lane : Fin 48) (h : MsgHdr) (kind : GrantKind)
  /-- RX_ACKNOWLEDGE_CANCEL (R354): A received ACKNOWLEDGE_CANCEL_UNICAST_TRANSMISSION is processed by the engine. -/
  | rxAcknowledgeCancel (t : Nat) (lane : Fin 48) (h : MsgHdr) (kind : GrantKind)
  /-- RX_MANAGEMENT (R354): A Management or other Signaling message is copied to the host queue or dropped. -/
  | rxManagement (t : Nat) (lane : Fin 48) (h : MsgHdr) (bytes : List (BitVec 8))
  /-- RX_ESMC (R366): A received ESMC PDU updates the lane's received QL. -/
  | rxEsmc (t : Nat) (lane : Fin 48) (vlan : Option Nat) (ql : BitVec 4)
  /-- RX_ARP_NDP (R364): An ARP or NDP frame is answered by the engine or copied to the host. -/
  | rxArpNdp (t : Nat) (lane : Fin 48) (vlan : Option Nat) (own : Bool) (answers : Option Nat) (bytes : List (BitVec 8))
  /-- RX_IGMP_MLD (R364): An IGMP or MLD frame is handled for the port's multicast groups or dropped. -/
  | rxIgmpMld (t : Nat) (lane : Fin 48) (vlan : Option Nat) (group : Bool)
  /-- RX_OTHER_FRAME (R364): Any other received frame is dropped and counted in DROPPED_OTHER. -/
  | rxOtherFrame (t : Nat) (lane : Fin 48)
  /-- SYNC_TX (R346): At its scheduled instant the engine sends a Sync with a computed transmit timestamp. -/
  | syncTx (t : Nat) (lane : Fin 48) (client : Option Nat)
  /-- ANNOUNCE_TX (R350): At its interval the engine sends an Announce with the module's data set. -/
  | announceTx (t : Nat) (lane : Fin 48) (client : Option Nat)
  /-- DELAY_REQ_TX (R354): A slave port sends a Delay_Req at its interval. -/
  | delayReqTx (t : Nat) (lane : Fin 48)
  /-- PDELAY_REQ_TX (R354): A P2P port sends a Pdelay_Req at its interval. -/
  | pdelayReqTx (t : Nat) (lane : Fin 48)
  /-- GRANT_EXPIRY (R356): A unicast grant reaches its duration and lapses, freeing the client entry with its last grant. -/
  | grantExpiry (t : Nat) (slot : Nat) (kind : GrantKind)
  /-- GRANT_RENEWAL (R357): 10 s before its grants end a unicast slave port requests them again. -/
  | grantRenewal (t : Nat) (lane : Fin 48) (m : Fin 2) (kind : GrantKind)
  /-- GRANT_DENIAL_RETRY (R357): 16 s after a denial the port retries its grant request. -/
  | grantDenialRetry (t : Nat) (lane : Fin 48) (m : Fin 2) (kind : GrantKind)
  /-- ANNOUNCE_RECEIPT_TIMEOUT (R353): No Announce within announceReceiptTimeout ends time activity and re-runs the BMCA. -/
  | announceReceiptTimeout (t : Nat) (lane : Fin 48)
  /-- TIME_ACTIVITY_TIMEOUT (R353): No offset or path-delay sample within its limit ends the port's time activity. -/
  | timeActivityTimeout (t : Nat) (lane : Fin 48)
  /-- FOREIGN_MASTER_AGEOUT (R361): A foreign-master entry ages out after 4 announce intervals. -/
  | foreignMasterAgeout (t : Nat) (lane : Fin 48) (id : Nat) (port : Nat)
  /-- ESMC_TIMEOUT (R366): No ESMC PDU for 5 s sets ESMC_TIMEOUT and takes the QL as DNU. -/
  | esmcTimeout (t : Nat) (lane : Fin 48)
  /-- ESMC_INFO_TX (R366): Once per second an ESMC information PDU is sent. -/
  | esmcInfoTx (t : Nat) (lane : Fin 48)
  /-- HOST_FRAME_SEND (R365): A queued host frame is sent in a gap between engine messages. -/
  | hostFrameSend (t : Nat) (lane : Fin 48)
  /-- LANE_DELAY (R345): Every 10 min a lane's transmit delay is checked, raising drift faults or a reset. -/
  | laneDelay (t : Nat) (lane : Option (Fin 48)) (tx : Nat)
  /-- SERDES_ADAPT (R516): A lane's receive equaliser is re-adapted in the background and its eye margin recorded. -/
  | serdesAdapt (t : Nat) (lane : Fin 48) (margin : Nat)
  /-- GNSS_MARK (R387): The receiver delivers the second's time mark and phase sample of candidate 64 with its checks. -/
  | gnssMark (t : Nat) (m : MarkIn)
  /-- SPOOF_ALARM_CLEAR (R395): CLEAR_TIME seconds without a cause clear SPOOF_ALARM when not latched. -/
  | spoofAlarmClear (t : Nat)
  /-- RECEIVER_START_DONE (R383): The receiver front end settles and its delays are measured, going to SEARCH. -/
  | receiverStartDone (t : Nat) (group : GroupDelay)
  /-- SATELLITES_LOST (R383): Too few usable satellites for 10 s take the receiver back to SEARCH. -/
  | satellitesLost (t : Nat)
  /-- ACQUISITION_FOUND (R385): A search confirms a signal cell and a channel starts tracking it. -/
  | acquisitionFound (t : Nat) (x : GnssTrack) (solved : Bool)
  /-- ANT_OPEN (R382): Bias current below 2 mA for 1 s sets ANT OPEN and ANT_ALARM. -/
  | antOpen (t : Nat) (ma : Nat)
  /-- ANT_SHORT (R382): Bias current above 100 mA is limited to 120 mA and sets ANT SHORT. -/
  | antShort (t : Nat)
  /-- ANT_SHORT_OFF (R382): 10 ms into a short the bias supply is switched off. -/
  | antShortOff (t : Nat)
  /-- ANT_SHORT_RETRY (R382): Every 1 s a shorted bias supply is retried with a 10 ms pulse. -/
  | antShortRetry (t : Nat) (stillShort : Bool)
  /-- ANT_NORMAL (R382): Bias current within 2–100 mA for 1 s returns ANT to NORMAL. -/
  | antNormal (t : Nat) (ma : Nat)
  /-- SURVEY_END (R390): A survey reaches DURATION or TARGET and sets the fixed position. -/
  | surveyEnd (t : Nat)
  /-- SNAPSHOT_CAPTURE_END (R406): The last sample of a snapshot is written and the capture completes. -/
  | snapshotCaptureEnd (t : Nat) (skew : Int)
  /-- SNAPSHOT_PROCESS_END (R399): A coarse-time snapshot solution completes with a fix or none. -/
  | snapshotProcessEnd (t : Nat) (fix : Option Fix)
  /-- GNSS_FRONT_END (R457): The internal test signal untracked for 1 s raises a contained fault that resets the receiver. -/
  | gnssFrontEnd (t : Nat)
  /-- HEARTBEAT_TX (R419): Every 1 ms the pair unit sends a heartbeat frame. -/
  | heartbeatTx (t : Nat)
  /-- HEARTBEAT_RX (R419): A partner heartbeat is received, stamped and used for liveness, flags and cross-measurement. -/
  | heartbeatRx (t : Nat) (f : HbFrame)
  /-- HB_IN_EDGE (R420): An edge on HB_IN keeps the partner alive. -/
  | hbInEdge (t : Nat)
  /-- PARTNER_LOSS (R420): 3.0 ms without frame or HB_IN edge declares partner loss. -/
  | partnerLoss (t : Nat)
  /-- PATH_FAULT (R420): One heartbeat path silent for 3.0 ms sets PATH_FAULT and raises PAIR_PATH. -/
  | pathFault (t : Nat)
  /-- PATH_FAULT_CLEAR (R420): Both paths delivering for 1 s clear PATH_FAULT. -/
  | pathFaultClear (t : Nat)
  /-- PAIR_CONTEST (R413): ILK_OUT and ILK_IN both asserted for over 1 µs make the slot B module withdraw to INIT. -/
  | pairContest (t : Nat)
  /-- ILK_IN_DEASSERT (R416): ILK_IN deasserts and a CLAIMING module becomes ACTIVE. -/
  | ilkInDeassert (t : Nat)
  /-- CLAIM_SECOND_SAMPLE (R417): 50 µs after its first sample slot B samples ILK_IN again and claims if deasserted. -/
  | claimSecondSample (t : Nat)
  /-- RELEASE_DETECT (R418): ILK_IN deasserted for 50 µs with a confirming heartbeat makes a standby claim. -/
  | releaseDetect (t : Nat)
  /-- INIT_WAIT (R418): No heartbeat for INIT_WAIT after enabling lets a module in INIT claim. -/
  | initWait (t : Nat)
  /-- PAIR_ILK (R421): Partner ILK_OUT and local ILK_IN disagreeing for 10 ms raise PAIR_ILK. -/
  | pairIlk (t : Nat)
  /-- SNAPSHOT_TX (R427): Every 100 ms the active module sends a state snapshot and commit. -/
  | snapshotTx (t : Nat)
  /-- SNAPSHOT_CHUNK_RX (R427): A snapshot chunk from the active is received and held. -/
  | snapshotChunkRx (t : Nat) (seq : Nat) (idx : Fin 16) (count : Nat) (bytes : List (BitVec 8))
  /-- SNAPSHOT_COMMIT_RX (R428): A snapshot commit replaces the held snapshot if complete with valid CRC, else it is discarded. -/
  | snapshotCommitRx (t : Nat) (seq : Nat) (count : Nat) (crc : Word) (content : SnapIn)
  /-- HANDOVER_INSTANT (R433): At the agreed instant T the active releases and the standby takes over. -/
  | handoverInstant (t : Nat)
  /-- HO_ACCEPT_TIMEOUT (R439): No HO_ACCEPT within 10 ms ends PAIR_HANDOVER with TIMEOUT. -/
  | hoAcceptTimeout (t : Nat)
  /-- OUTPUT_HANDOFF (R431): At its first hand-off point after a claim each enabled output leaves KEEP. -/
  | outputHandoff (t : Nat) (out : OutId)
  /-- CLAPPER_STUCK (R457): ILK_OUT readback disagreeing with its drive for 10 µs raises a fatal fault. -/
  | clapperStuck (t : Nat)
  /-- FAULT_REPORT (R443): A source's dual-rail pair shows a report, which is classed, recorded, counted and reacted to. -/
  | faultReport (t : Nat) (r : Report)
  /-- REPORT_PATH (R444): A pair invalid for more than 2 cycles marks its source unobserved and records REPORT_PATH. -/
  | reportPath (t : Nat) (source : BitVec 10) (cycles : Nat) (back : Bool)
  /-- BLOCK_RESET_DONE (R452): A reset block reports ready and its reset shadow continues for 64 cycles. -/
  | blockResetDone (t : Nat) (source : BitVec 10)
  /-- RESET_SHADOW_END (R452): A block's reset shadow ends, unmasking its reports. -/
  | resetShadowEnd (t : Nat) (source : BitVec 10)
  /-- SRAM_SCRUB (R467): Roll checks SRAM words, writing back corrected errors. -/
  | sramScrub (t : Nat) (addr : Nat) (e : EccIn)
  /-- DRAM_SCRUB (R469): Roll scrubs the archive memory word pairs. -/
  | dramScrub (t : Nat) (addr : Nat) (e : EccIn)
  /-- ROLLUP (R472): At the end of an interval the archive entries of each tier are formed. -/
  | rollup (t : Nat) (tier : Fin 4)
  /-- NVS_MARGIN (R489): A margin pass reads every slot byte at reduced margins and refreshes weak records. -/
  | nvsMargin (t : Nat) (start : Bool) (weak : List Nat) (retention : Nat)
  /-- NVS_REFRESH (R490): A refresh pass rewrites every valid slot and the identity pages in place. -/
  | nvsRefresh (t : Nat) (start : Bool)
  /-- WEAR (R491): Every hour the page operation counts are saved in the WEAR record. -/
  | wear (t : Nat)
  /-- RO_MEASURE (R507): Every 60 s Roll measures the ring-oscillator monitors against CLK_AON. -/
  | roMeasure (t : Nat) (required : Nat) (marginPct : Int) (load : Nat)
  /-- VCORE_RAMP (R509): VCORE_SET moves toward its planned value by 1 mV every 10 ms. -/
  | vcoreRamp (t : Nat)
  /-- TELEMETRY (R518): Sensors are sampled every 100 ms and averaged each Metronome second. -/
  | telemetry (t : Nat) (v : Sensors)
  /-- AGE_UPDATE (R508): At 600 s into each TAI day the items and Kettle model are updated and the plan computed and stored. -/
  | ageUpdate (t : Nat) (v : DayIn)
  /-- REFUSED_READ (R38): A complete read refused for privilege or during recall returns zero and sets HIF_ERR.PRIV or HIF_ERR.REFUSED. -/
  | refusedRead (t : Nat) (port : Fin 2) (priv : Bool) (addr : Option (BitVec 16)) (ecc : EccIn)
  /-- RESET_N_RELEASE (R527): Release of RESET_N fixes t0, samples the straps and starts the boot sequence. -/
  | resetNRelease (t : Nat) (i2c : Bool) (slotB : Bool)
  /-- VDD_OVEN_RETURN (R546): VDD_OVEN returns to its operating range, the heater turns on again and warm-up restarts toward KETTLE_WARM. -/
  | vddOvenReturn (t : Nat)
  /-- ILK_IN_ASSERT (R416): ILK_IN asserts, gating this module's outputs and moving a module in INIT to STANDBY. -/
  | ilkInAssert (t : Nat)
  /-- RX_GRANT_UNICAST (R357): A received Signaling GRANT_UNICAST_TRANSMISSION answers a port's request, granting or denying it. -/
  | rxGrantUnicast (t : Nat) (lane : Fin 48) (h : MsgHdr) (kind : GrantKind) (log : Int) (duration : Nat)
  /-- METADATA_TLV_TX (R369): At its SM_LOG interval the engine sends a Management message with the SMPTE synchronization metadata TLV. -/
  | metadataTlvTx (t : Nat) (lane : Fin 48)
  /-- SIGNAL_LOSS (R380): A tracked GNSS signal loses lock, or an L5-band signal loses its L1-band partner for 10 s, and its channel stops tracking. -/
  | signalLoss (t : Nat) (x : GnssTrack)
  /-- ACTIVITY_CONDITION_HELD (R200): For a VIDEO or TIME link source, the activity condition has held for 1 s and activity returns. -/
  | activityConditionHeld (t : Nat) (ref : Fin 66)
  /-- PARTNER_LANE_MEASURED (R411): The partner lane's transmit and receive delays are measured after pair-unit power-up or reset. -/
  | partnerLaneMeasured (t : Nat) (tx : Nat) (rx : Nat)
  /-- FIRMWARE_SLOT_WRITTEN (R541): A SYS_FW_COMMIT's write and read-back of the slot end, setting NEXT or raising FW_STORE, and its response is held. -/
  | firmwareSlotWritten (t : Nat) (ok1 : Bool) (ok2 : Bool)
  /-- TASK_LATE (R513): A Roll task passes twice its period without completing a pass, setting its ROLL_LATE bit and counting ROLL_LATE_EVENTS. -/
  | taskLate (t : Nat) (task : Fin 13)
  /-- PULSE_EDGE (R318): A PULSE generator reaches an edge instant, emitting or suppressing it and applying the slew correction. -/
  | pulseEdge (t : Nat) (p : Fin 16) (rising : Bool)
deriving DecidableEq, Repr

end Sys2Proof
end

