-- ==== Sys2Proof/Decode.lean ====
section
/-!
DEFINITION. Words that spell a command. The command table of the spec gives no row a bit of encoding (its fields are
empty), so no word spells one.
-/

namespace Sys2Proof

/-- The command that a word of the command table spells: none, since no row has bits. -/
def decodeTableWord (_nbits _w : Nat) : Option Instr := none

end Sys2Proof
end

