-- ==== Sys2Proof/Config.lean ====
section
/-!
DEFINITION. What the spec leaves to the module that is made: values no rule states. Each is a constant without a body,
so nothing in Lean can evaluate it, and a claim holds whatever it is (log 2).
-/

namespace Sys2Proof.Config

/-- The n-th open word the machine produces (a register of space 3 that carries no guarantee, a byte of a record whose payload the spec does not lay down) (R72, R398, R480). -/
opaque freeWord : Nat → Word

/-- The n-th open signed value (the control value after a loop filter step, R258). -/
opaque freeInt : Nat → Int

/-- Proportional gain of the loop filter at a bandwidth in uHz and a damping in tenths: steps of 2^-96 of c for an error of
2^-16 ns (R261, R262). -/
opaque gainP : Nat → Nat → Int

/-- Integral gain of the loop filter, by the same and the nominal update rate as a fraction (R261, R262). -/
opaque gainI : Nat → Nat → Nat × Nat → Int

/-- Residual of a CKOUT output's divider restart, by the number of free values drawn and the output: the VCO edge nearest
the aligned instant is as the domain PLL locked (R312). -/
opaque ckResidual : Nat → Nat → Int

/-- Version (major, minor) and build of the image shipped in slot A (0) or B (1) (R109, R530). -/
opaque shippedVersion : Nat → Nat × Nat × Nat

/-- The 64-bit serial number (R109). -/
opaque serial : BitVec 64

/-- DIGEST of a configuration: the CRC-32C over a layout the spec does not give (R419). -/
opaque digest : List Int → Word

/-- Payload bytes of a record that the firmware writes in a layout of its own (R480): from the record ID and the
number of free values drawn. -/
opaque fwPayload : Nat → Nat → Nat → BitVec 8

/-- Word `a` of GNSS snapshot number `n`: four sampling instants (R398). -/
opaque sample : Nat → Nat → Word

/-- Octets that the ICV of a sent message covers: IEEE 1588-2019 lays them out from the sending port's identity, the message
and the keyID and SPP of its TLV (R362). -/
opaque msgOctets : Nat → Nat → Machine.TxMsg → Word → Nat → List (BitVec 8)

/-- Block type of word 0 of a block of space 3 (R72), by the lowest base source ID of its kind. -/
opaque blockType : Nat → BitVec 16

/-- Block revision of word 0 of a block of space 3 (R72), by the same. -/
opaque blockRev : Nat → BitVec 8

end Sys2Proof.Config
end

