-- ==== Sys2Proof/Machine/State.lean ====
section
/-!
DEFINITION. The state of the module, as plain data: every register, buffer, counter, mode and pin the spec names, the
queue of commands that wait, and the reasons a step can stop. `X.init` is the value a part has at reset.
The field docstrings name the rule and the chapter of spec/ that give the field; "M" fields are the model's own.
-/

namespace Sys2Proof.Machine

/-- One stamp as the fabric holds and reports it. (R165) -/
structure Stamp where
  /-- Metronome reading of the edge in 2^-16 ns; R118 of chapter 04 (reset value: DESIGN CHOICE, log 5) -/
  time : Nat
  /-- Kettle instant of the edge in 2^-16 ns; R144 of chapter 05 (the model's own field, log 1) -/
  edge : Nat
  /-- marked INVALID; R164 of chapter 05 (reset value: DESIGN CHOICE, log 5) -/
  invalid : Bool
  /-- converted under CAL LIN; R149 of chapter 05 (reset value: DESIGN CHOICE, log 5) -/
  lin : Bool
  /-- 0 pin edge, 1 video, 2 link clock, 3 link event; R165 of chapter 05 (reset value: DESIGN CHOICE, log 5) -/
  kind : Nat
  /-- SLOPE: 1 falling; R165 of chapter 05 (reset value: DESIGN CHOICE, log 5) -/
  falling : Bool
  /-- GAP; R165 of chapter 05 (reset value: DESIGN CHOICE, log 5) -/
  gap : Bool
  /-- video frame start; R165 of chapter 05 (reset value: DESIGN CHOICE, log 5) -/
  frame : Bool
  /-- second field; R165 of chapter 05 (reset value: DESIGN CHOICE, log 5) -/
  field2 : Bool
  /-- video line number; R165 of chapter 05 (reset value: DESIGN CHOICE, log 5) -/
  line : Nat
  /-- released-stamp sequence modulo 4096; R165 of chapter 05 (reset value: DESIGN CHOICE, log 5) -/
  seq : Nat
  /-- Kettle instant of the CLK_CORE edge that latched it; R162 of chapter 05 (the model's own field, log 1) -/
  latch : Nat
deriving DecidableEq, Repr

/-- Stamp at reset. -/
def Stamp.init : Stamp where
  time := 0
  edge := 0
  invalid := false
  lin := false
  kind := 0
  falling := false
  gap := false
  frame := false
  field2 := false
  line := 0
  seq := 0
  latch := 0

/-- One accumulator set of the regression engine: exact 128-bit style sums over kept stamps. (R182) -/
structure Acc where
  /-- kept stamps; R182 of chapter 06 -/
  n : Nat
  /-- sum of indices; R182 of chapter 06 -/
  sn : Int
  /-- sum of squared indices; R182 of chapter 06 -/
  snn : Int
  /-- sum of times relative to the first stamp; R182 of chapter 06 -/
  st : Int
  /-- sum of index times time; R182 of chapter 06 -/
  snt : Int
  /-- sum of squared times; R182 of chapter 06 -/
  stt : Int
  /-- time of the first stamp; R182 of chapter 06 -/
  t0 : Int
  /-- valid stamps or samples seen; R201 of chapter 07 -/
  seen : Nat
deriving DecidableEq, Repr

/-- Acc at reset. -/
def Acc.init : Acc where
  n := 0
  sn := 0
  snn := 0
  st := 0
  snt := 0
  stt := 0
  t0 := 0
  seen := 0

/-- The stamp capture of one channel. (R168) -/
structure Capture where
  /-- capture state; R168 of chapter 05 -/
  st : CapState
  /-- START; R168 of chapter 05 -/
  start : Nat
  /-- Metronome instant the capture starts at; R168 of chapter 05 -/
  startAt : Nat
  /-- DECIM; 0 when IDLE; R168 of chapter 05 -/
  decim : Nat
  /-- LIMIT reserved; R168 of chapter 05 -/
  limit : Nat
  /-- DURATION in ms; R168 of chapter 05 -/
  duration : Nat
  /-- Kettle instant of the start; R168 of chapter 05 (the model's own field, log 1) -/
  from_ : Nat
  /-- released stamps since the last kept one; R168 of chapter 05 -/
  skip : Nat
  /-- kept stamps, oldest first; R168 of chapter 05 -/
  stamps : List Stamp
  /-- ended on DURATION; R171 of chapter 05 -/
  byDuration : Bool
  /-- the channel's lines have swapped at its start; R147 of chapter 05 -/
  swapped : Bool
deriving DecidableEq, Repr

/-- Capture at reset. -/
def Capture.init : Capture where
  st := .idle
  start := 0
  startAt := 0
  decim := 0
  limit := 0
  duration := 0
  from_ := 0
  skip := 0
  stamps := []
  byDuration := false
  swapped := false

/-- One stamping point: channels 0-63, 64 loopback, 65 pair. (R142) -/
structure Chan where
  /-- ENABLE; R166 of chapter 05 (reset value: DESIGN CHOICE, log 5) -/
  enable : Bool
  /-- THRESHOLD in mV; R166 of chapter 05 -/
  threshold : Int
  /-- HYST; R166 of chapter 05 -/
  hyst : Nat
  /-- SLOPE; R166 of chapter 05 -/
  slope : Nat
  /-- TERM; R166 of chapter 05 -/
  term : Bool
  /-- MODE; R166 of chapter 05 -/
  mode : Nat
  /-- DIV; R166 of chapter 05 -/
  div : Nat
  /-- EVENT; R166 of chapter 05 -/
  event : Nat
  /-- permitted FORMAT; R166 of chapter 05 -/
  format : Nat
  /-- CLK_DIV; R166 of chapter 05 -/
  clkDiv : Nat
  /-- CAL; R149 of chapter 05 -/
  cal : CalState
  /-- active line is line 1; R147 of chapter 05 (reset value: DESIGN CHOICE, log 5) -/
  line1 : Bool
  /-- p1 of line 0 in 1/1024 bin; R147 of chapter 05 (reset value: DESIGN CHOICE, log 5) -/
  p1a : Nat
  /-- p2 of line 0 in 1/1024 bin; R147 of chapter 05 (reset value: DESIGN CHOICE, log 5) -/
  p2a : Nat
  /-- p1 of line 1 in 1/1024 bin; R147 of chapter 05 (reset value: DESIGN CHOICE, log 5) -/
  p1b : Nat
  /-- p2 of line 1 in 1/1024 bin; R147 of chapter 05 (reset value: DESIGN CHOICE, log 5) -/
  p2b : Nat
  /-- hits in each bin of line 0, in proportion to its width; empty: no table; R148 of chapter 05 (reset value: DESIGN CHOICE, log 5) -/
  tableA : List Nat
  /-- hits in each bin of line 1; R148 of chapter 05 (reset value: DESIGN CHOICE, log 5) -/
  tableB : List Nat
  /-- formed table of line 0 waiting for its line to become active; R148 of chapter 05 -/
  newA : List Nat
  /-- formed table of line 1 waiting; R148 of chapter 05 -/
  newB : List Nat
  /-- Kettle instant line 0's table was formed; R194 of chapter 06 (the model's own field, log 1) -/
  formedA : Nat
  /-- Kettle instant line 1's table was formed; R194 of chapter 06 (the model's own field, log 1) -/
  formedB : Nat
  /-- DRIFT in fs; R194 of chapter 06 -/
  drift : Nat
  /-- the first period pairs are valid; R157 of chapter 05 -/
  pairOk : Bool
  /-- input path delay in 2^-32 ns; R145 of chapter 05 (reset value: DESIGN CHOICE, log 5) -/
  dIn : Int
  /-- Kettle instant of the last power-up, reset or failed period pair; R157 of chapter 05 (the model's own field, log 1) -/
  upAt : Nat
  /-- Kettle instant of the last comparator change; R156 of chapter 05 (the model's own field, log 1) -/
  settleAt : Nat
  /-- the comparator settles: stamps carry INVALID; R156 of chapter 05 -/
  settling : Bool
  /-- stamps waiting for release, oldest first; R146 of chapter 05 -/
  lookback : List Stamp
  /-- the next stamp carries GAP; R165 of chapter 05 -/
  gapPending : Bool
  /-- the next clock stamp carries GAP; R163 of chapter 05 -/
  clkGap : Bool
  /-- a capture or an interval attempt has started: the lines are to swap; R147 of chapter 05 -/
  swapDue : Bool
  /-- Kettle instant of the last stamped edge; R152 of chapter 05 -/
  lastEdge : Option Nat
  /-- prescaler count, rising slope; R154 of chapter 05 -/
  preRise : Nat
  /-- prescaler count, falling slope; R154 of chapter 05 -/
  preFall : Nat
  /-- stamps released modulo 4096; R165 of chapter 05 -/
  seq : Nat
  /-- VIDEO_STATE; R160 of chapter 05 -/
  video : VideoState
  /-- recognised FORMAT; R167 of chapter 05 -/
  videoFmt : Nat
  /-- consecutive matching syncs, or recognised frames; R160 of chapter 05 -/
  videoRun : Nat
  /-- consecutive syncs missing; R160 of chapter 05 -/
  videoMiss : Nat
  /-- formats of R159 whose line period the syncs of the present run match; R160 of chapter 05 -/
  videoCands : List Nat
  /-- Kettle instant of the last line sync; R160 of chapter 05 (the model's own field, log 1) -/
  syncAt : Option Nat
  /-- lines since the last frame start; R160 of chapter 05 -/
  lineNo : Nat
  /-- a frame start has been seen since the lines were locked; R160 of chapter 05 -/
  framed : Bool
  /-- sync amplitudes of the last 16 lines in mV; R158 of chapter 05 -/
  amps : List Nat
  /-- its capture; R168 of chapter 05 -/
  capture : Capture
deriving DecidableEq, Repr

/-- Chan at reset. -/
def Chan.init : Chan where
  enable := false
  threshold := 0
  hyst := 1
  slope := 0
  term := false
  mode := 0
  div := 1
  event := 2
  format := 0
  clkDiv := 1024
  cal := .off
  line1 := false
  p1a := 0
  p2a := 0
  p1b := 0
  p2b := 0
  tableA := []
  tableB := []
  newA := []
  newB := []
  formedA := 0
  formedB := 0
  drift := 0
  pairOk := false
  dIn := 0
  upAt := 0
  settleAt := 0
  settling := false
  lookback := []
  gapPending := false
  clkGap := false
  swapDue := false
  lastEdge := none
  preRise := 0
  preFall := 0
  seq := 0
  video := .none
  videoFmt := 0
  videoRun := 0
  videoMiss := 0
  videoCands := []
  syncAt := none
  lineNo := 0
  framed := false
  amps := []
  capture := Capture.init

/-- Every stamping point at reset: the loopback channel is powered with the fabric (R176). -/
def Chan.resetAll : Vector Chan 66 := (Vector.replicate 66 Chan.init).set 64 { Chan.init with enable := true, cal := .lin }

/-- One MEAS_INTERVAL in flight. (R172) -/
structure Interval where
  /-- its tag; R172 of chapter 05 -/
  tag : Fin 48
  /-- START_CH; R172 of chapter 05 -/
  startCh : Fin 64
  /-- STOP_CH; R172 of chapter 05 -/
  stopCh : Fin 64
  /-- START_SEL; R172 of chapter 05 -/
  startSel : Nat
  /-- STOP_SEL; R172 of chapter 05 -/
  stopSel : Nat
  /-- STOP_SKIP; R172 of chapter 05 -/
  skip : Nat
  /-- ATTEMPTS; R172 of chapter 05 -/
  attempts : Nat
  /-- OPEN; R172 of chapter 05 -/
  opn : Int
  /-- CLOSE in us; R172 of chapter 05 -/
  close : Nat
  /-- START_WAIT in ms; R172 of chapter 05 -/
  startWait : Nat
  /-- Kettle instant the present attempt waits from; R173 of chapter 05 (the model's own field, log 1) -/
  waitFrom : Nat
  /-- start stamp of the present attempt; R173 of chapter 05 -/
  cur : Option Stamp
  /-- stop stamps of the last 1 us or of the window, oldest first; R173 of chapter 05 -/
  recent : List Stamp
  /-- Metronome readings of the stop channel's edges lost in dead time; R173 of chapter 05 -/
  losses : List Nat
  /-- a Metronome step fell into the window; R173 of chapter 05 -/
  stepped : Bool
  /-- DONE; R174 of chapter 05 -/
  done : Nat
  /-- valid results in order; R174 of chapter 05 -/
  results : List Int
  /-- ORDER; R174 of chapter 05 -/
  order : Nat
  /-- TIMEOUTS; R174 of chapter 05 -/
  timeouts : Nat
  /-- early stops ignored; EARLY saturates; R174 of chapter 05 -/
  early : Nat
  /-- INVALID; R174 of chapter 05 -/
  invalid : Nat
  /-- NO_START; R174 of chapter 05 -/
  noStart : Bool
  /-- FIRST_ORDER; R174 of chapter 05 -/
  firstOrder : Bool
  /-- LOST; R174 of chapter 05 -/
  lost : Nat
  /-- FIRST_START; R174 of chapter 05 -/
  firstStart : Nat
deriving DecidableEq, Repr

/-- Interval at reset. -/
def Interval.init : Interval where
  tag := 0
  startCh := 0
  stopCh := 0
  startSel := 0
  stopSel := 0
  skip := 0
  attempts := 1
  opn := 0
  close := 1
  startWait := 1
  waitFrom := 0
  cur := none
  recent := []
  losses := []
  stepped := false
  done := 0
  results := []
  order := 0
  timeouts := 0
  early := 0
  invalid := 0
  noStart := false
  firstOrder := false
  lost := 0
  firstStart := 0

/-- One MEAS_FREQ in flight. (R191) -/
structure FreqGate where
  /-- its tag; R191 of chapter 06 -/
  tag : Fin 48
  /-- CH; R191 of chapter 06 -/
  ch : Fin 64
  /-- BASE: Kettle; R191 of chapter 06 -/
  base : Bool
  /-- KSIGMA in tenths; R191 of chapter 06 -/
  ksigma : Nat
  /-- GATE in ms; R191 of chapter 06 -/
  gate : Nat
  /-- numerator of the nominal stamped rate 1/T_s; R183 of chapter 06 -/
  num : Nat
  /-- denominator of 1/T_s; R183 of chapter 06 -/
  den : Nat
  /-- phase rate numerator; R183 of chapter 06 -/
  pnum : Nat
  /-- phase rate denominator; R183 of chapter 06 -/
  pden : Nat
  /-- decimation in force; R185 of chapter 06 -/
  d : Nat
  /-- START; R191 of chapter 06 -/
  start : Nat
  /-- sums against the Metronome; R182 of chapter 06 -/
  acc : Acc
  /-- sums against the Kettle; R187 of chapter 06 -/
  accK : Acc
  /-- Metronome steps removed; R188 of chapter 06 -/
  stepSum : Int
  /-- OUTLIERS; R193 of chapter 06 -/
  outliers : Nat
  /-- consecutive rejections; R186 of chapter 06 -/
  outRun : Nat
  /-- INVALID; R193 of chapter 06 -/
  invalid : Nat
  /-- SLIPS; R193 of chapter 06 -/
  slips : Nat
  /-- GAPS; R193 of chapter 06 -/
  gaps : Nat
  /-- STEPPED; R193 of chapter 06 -/
  stepped : Bool
  /-- STEP_SEEN; R193 of chapter 06 -/
  stepSeen : Bool
  /-- LIN_USED; R193 of chapter 06 -/
  linUsed : Bool
  /-- KETTLE_COLD; R193 of chapter 06 -/
  cold : Bool
  /-- PHASE_VALID; R193 of chapter 06 -/
  phaseValid : Bool
deriving DecidableEq, Repr

/-- FreqGate at reset. -/
def FreqGate.init : FreqGate where
  tag := 0
  ch := 0
  base := false
  ksigma := 0
  gate := 1
  num := 1
  den := 1
  pnum := 1
  pden := 1
  d := 1
  start := 0
  acc := Acc.init
  accK := Acc.init
  stepSum := 0
  outliers := 0
  outRun := 0
  invalid := 0
  slips := 0
  gaps := 0
  stepped := false
  stepSeen := false
  linUsed := false
  cold := false
  phaseValid := true

/-- The Kettle, its oven and its supply. (R179) -/
structure Kettle where
  /-- KETTLE_WARM; R180 of chapter 06 -/
  warm : Bool
  /-- WARM_TIME; R194 of chapter 06 -/
  warmTime : Nat
  /-- OVEN_ERR in mK; R194 of chapter 06 (reset value: DESIGN CHOICE, log 5) -/
  ovenErr : Int
  /-- heater power in mW; R194 of chapter 06 (reset value: DESIGN CHOICE, log 5) -/
  heater : Nat
  /-- KETTLE_OVEN active; R181 of chapter 06 -/
  ovenFault : Bool
  /-- KETTLE_SENSOR active; R179 of chapter 06 -/
  sensorFault : Bool
  /-- the controller steers on the second thermistor alone after KETTLE_SENSOR; R179 of chapter 06 (reset value: DESIGN CHOICE, log 5) -/
  thermB : Bool
  /-- heater powered; R181 of chapter 06 (reset value: DESIGN CHOICE, log 5) -/
  heaterOn : Bool
  /-- CLK_AON lost; R20 of chapter 01 -/
  lost : Bool
  /-- Kettle instant KETTLE_WARM last cleared; R193 of chapter 06 (the model's own field, log 1) -/
  coldFrom : Nat
  /-- Kettle time the Kettle had run without interruption before t0; R275 of chapter 09 (the model's own field, log 1) -/
  ran : Nat
deriving DecidableEq, Repr

/-- Kettle at reset. -/
def Kettle.init : Kettle where
  warm := false
  warmTime := 0
  ovenErr := 0
  heater := 0
  ovenFault := false
  sensorFault := false
  thermB := false
  heaterOn := true
  lost := false
  coldFrom := 0
  ran := 0

/-- The root PLL and the fallback ring. (R297) -/
structure Root where
  /-- ROOT_STATE; R332 of chapter 10 (reset value: DESIGN CHOICE, log 5) -/
  st : RootState
  /-- ON_RING; R332 of chapter 10 (reset value: DESIGN CHOICE, log 5) -/
  onRing : Bool
  /-- BAND; R332 of chapter 10 (reset value: DESIGN CHOICE, log 5) -/
  band : Fin 32
  /-- LOSSES; R332 of chapter 10 -/
  losses : Nat
  /-- RELOCK_FAILS; R332 of chapter 10 -/
  fails : Nat
  /-- LAST_RELOCK_US; R332 of chapter 10 (reset value: DESIGN CHOICE, log 5) -/
  lastRelockUs : Nat
  /-- LAST_LOSS; R332 of chapter 10 -/
  lastLoss : Nat
  /-- Kettle instant of the last declaration; R299 of chapter 10 (the model's own field, log 1) -/
  lossAt : Nat
  /-- RING_KHZ; R332 of chapter 10 (reset value: DESIGN CHOICE, log 5) -/
  ringKhz : Nat
  /-- a declared loss has not ended: derived clocks on the ring; R298 of chapter 10 -/
  inLoss : Bool
  /-- the INVALID span of R164 runs; R164 of chapter 05 -/
  invalidSpan : Bool
  /-- Kettle instant of a failure; the 1 s wait runs; R300 of chapter 10 -/
  waitFrom : Option Nat
  /-- Kettle instant the relock sequence in progress began; R299 of chapter 10 (the model's own field, log 1) -/
  seqFrom : Nat
  /-- Kettle instant up to which RING_MS is counted; R339 of chapter 10 (the model's own field, log 1) -/
  ringMs : Nat
deriving DecidableEq, Repr

/-- Root at reset. -/
def Root.init : Root where
  st := .search
  onRing := true
  band := 0
  losses := 0
  fails := 0
  lastRelockUs := 0
  lastLoss := 0
  lossAt := 0
  ringKhz := 0
  inLoss := false
  invalidSpan := false
  waitFrom := none
  seqFrom := 0
  ringMs := 0

/-- One phase sample of a candidate. (R203) -/
structure Sample where
  /-- Metronome instant of the sample; R203 of chapter 07 -/
  at_ : Nat
  /-- phase in 2^-16 ns; R196 of chapter 07 -/
  ph : Int
deriving DecidableEq, Repr

/-- Sample at reset. -/
def Sample.init : Sample where
  at_ := 0
  ph := 0

/-- One candidate reference. (R206) -/
structure Cand where
  /-- ENABLE; R217 of chapter 07 -/
  enable : Bool
  /-- CLASS: 1 TIME (64 and 65 reset to TIME); R217 of chapter 07 -/
  time : Bool
  /-- TIME_TRACEABLE; R218 of chapter 07 (reset value: DESIGN CHOICE, log 5) -/
  tTrace : Bool
  /-- FREQ_TRACEABLE; R218 of chapter 07 (reset value: DESIGN CHOICE, log 5) -/
  fTrace : Bool
  /-- SSM_CHECK; R218 of chapter 07 (reset value: DESIGN CHOICE, log 5) -/
  ssm : Bool
  /-- NUM; R218 of chapter 07 -/
  num : Nat
  /-- DEN; R218 of chapter 07 -/
  den : Nat
  /-- EXT_DELAY; R218 of chapter 07 -/
  extDelay : Int
  /-- FREQ_ACCEPT; R220 of chapter 07 -/
  accept : Nat
  /-- FREQ_REJECT; R220 of chapter 07 -/
  reject : Nat
  /-- FM_WINDOW; R220 of chapter 07 -/
  fmWindow : Nat
  /-- PHASE_LIMIT in ps; R220 of chapter 07 -/
  phaseLimit : Nat
  /-- XCHK_LIMIT; R220 of chapter 07 -/
  xchk : Nat
  /-- ACT_MULT; R220 of chapter 07 -/
  actMult : Nat
  /-- PM_CONFIRM; R220 of chapter 07 -/
  pmConfirm : Nat
  /-- FM_BASE; R220 of chapter 07 -/
  fmBase : Bool
  /-- WTR_EN; R217 of chapter 07 -/
  wtrEn : Bool
  /-- WTR_TIME; R217 of chapter 07 -/
  wtrTime : Nat
  /-- STATE; R217 of chapter 07 -/
  st : QState
  /-- ACT; R223 of chapter 07 -/
  act : Bool
  /-- FREQ_OK; R223 of chapter 07 -/
  freqOk : Bool
  /-- FREQ_REJ; R223 of chapter 07 -/
  freqRej : Bool
  /-- PHASE_DISC; R223 of chapter 07 -/
  phaseDisc : Bool
  /-- DISAGREE; R223 of chapter 07 -/
  disagree : Bool
  /-- EXT_REJ; R223 of chapter 07 -/
  extRej : Bool
  /-- NO_VERDICT; R223 of chapter 07 -/
  noVerdict : Bool
  /-- FM_RAW; R223 of chapter 07 -/
  fmRaw : Bool
  /-- QUALIFIED at least once since REF_CONFIG applied; R208 of chapter 07 -/
  everQual : Bool
  /-- a frequency accept since the last return of activity or enable; R206 of chapter 07 -/
  freqAcc : Bool
  /-- Kettle instant wait-to-restore started; R208 of chapter 07 -/
  wtrFrom : Option Nat
  /-- Kettle instant of the sample that declared the discontinuity; R209 of chapter 07 -/
  discFrom : Option Nat
  /-- Y of the last completed window on the base in use; R225 of chapter 07 -/
  y : Int
  /-- latest y on FM_BASE 0; R211 of chapter 07 -/
  yRaw : Int
  /-- PHASE; R225 of chapter 07 -/
  phase : Int
  /-- PHASE_RESID; R225 of chapter 07 -/
  resid : Int
  /-- DISAGREE_WITH; R225 of chapter 07 -/
  disWith : Option Nat
  /-- ARBITER; 0x7E Kettle; R225 of chapter 07 -/
  arbiter : Option Nat
  /-- Kettle instant the count of R215 began; R215 of chapter 07 -/
  agreeFrom : Option Nat
  /-- SINCE; R225 of chapter 07 -/
  since : Nat
  /-- QUAL_COUNT; R225 of chapter 07 -/
  qualCount : Nat
  /-- REJECT_COUNT; R225 of chapter 07 -/
  rejCount : Nat
  /-- LOSS_COUNT; R225 of chapter 07 -/
  lossCount : Nat
  /-- DISC_COUNT; R225 of chapter 07 -/
  discCount : Nat
  /-- PHASE_OUTLIERS; R225 of chapter 07 -/
  outliers : Nat
  /-- NO_VERDICTS; R225 of chapter 07 -/
  noVerdicts : Nat
  /-- accepted samples, oldest first; R203 of chapter 07 -/
  hist : List Sample
  /-- consecutive samples beyond the limit on one side; R203 of chapter 07 -/
  outRun : List Sample
  /-- Kettle instant activity was lost; R204 of chapter 07 -/
  gapFrom : Option Nat
  /-- DPLL0 TE_EST in ps when activity was lost; R204 of chapter 07 -/
  gapTe : Nat
  /-- edges, marks or samples of the return of activity; R200 of chapter 07 -/
  actRun : Nat
  /-- Kettle instant of the last edge, mark or sample; R199 of chapter 07 -/
  lastAt : Option Nat
  /-- Kettle instant the activity condition began (VIDEO and TIME link); R200 of chapter 07 -/
  condFrom : Option Nat
  /-- Kettle instant the frequency window began; R201 of chapter 07 -/
  winFrom : Option Nat
  /-- the window met a root loss; R202 of chapter 07 -/
  winRoot : Bool
  /-- no window has ended since the loss or enable; R202 of chapter 07 -/
  firstWin : Bool
  /-- qualification accumulator set; R201 of chapter 07 -/
  acc : Acc
  /-- last 64 valid samples (FREQ); R236 of chapter 08 -/
  last64 : List Sample
deriving DecidableEq, Repr

/-- Cand at reset. -/
def Cand.init : Cand where
  enable := false
  time := false
  tTrace := false
  fTrace := false
  ssm := false
  num := 0
  den := 0
  extDelay := 0
  accept := 8000000
  reject := 10000000
  fmWindow := 0
  phaseLimit := 50000
  xchk := 100000
  actMult := 25
  pmConfirm := 3
  fmBase := true
  wtrEn := false
  wtrTime := 300
  st := .off
  act := false
  freqOk := false
  freqRej := false
  phaseDisc := false
  disagree := false
  extRej := false
  noVerdict := false
  fmRaw := false
  everQual := false
  freqAcc := false
  wtrFrom := none
  discFrom := none
  y := 0
  yRaw := 0
  phase := 0
  resid := 0
  disWith := none
  arbiter := none
  agreeFrom := none
  since := 0
  qualCount := 0
  rejCount := 0
  lossCount := 0
  discCount := 0
  outliers := 0
  noVerdicts := 0
  hist := []
  outRun := []
  gapFrom := none
  gapTe := 0
  actRun := 0
  lastAt := none
  condFrom := none
  winFrom := none
  winRoot := false
  firstWin := true
  acc := Acc.init
  last64 := []

/-- Every candidate at reset: 64 and 65 are TIME (R217). -/
def Cand.resetAll : Vector Cand 66 :=
  ((Vector.replicate 66 Cand.init).set 64 { Cand.init with time := true }).set 65 { Cand.init with time := true }

/-- Consecutive disagreements of one pair in one DPLL's group. (R212) -/
structure Xrun where
  /-- DPLL; R212 of chapter 07 -/
  dpll : Fin 8
  /-- lower member; R212 of chapter 07 -/
  a : Nat
  /-- higher member; R212 of chapter 07 -/
  b : Nat
  /-- consecutive evaluations; R212 of chapter 07 -/
  n : Nat
deriving DecidableEq, Repr

/-- Xrun at reset. -/
def Xrun.init : Xrun where
  dpll := 0
  a := 0
  b := 0
  n := 0

/-- The qualification unit. (R195) -/
structure RefU where
  /-- the 66 candidates; R206 of chapter 07 -/
  cands : Vector Cand 66
  /-- running disagreements; R212 of chapter 07 -/
  xruns : List Xrun
  /-- REF_DISAGREE bit per DPLL; R224 of chapter 07 -/
  refDisagree : BitVec 8
deriving DecidableEq, Repr

/-- RefU at reset. -/
def RefU.init : RefU where
  cands := Cand.resetAll
  xruns := []
  refDisagree := 0

/-- One entry of a DPLL's candidate table. (R226) -/
structure Use where
  /-- USE; R250 of chapter 08 -/
  use : Bool
  /-- PRIORITY; R250 of chapter 08 -/
  prio : Nat
deriving DecidableEq, Repr

/-- Use at reset. -/
def Use.init : Use where
  use := false
  prio := 15

/-- The Kettle model values a holdover uses. (R502) -/
structure Model where
  /-- MODEL_VALID; R502 of chapter 16 (reset value: DESIGN CHOICE, log 5) -/
  valid : Bool
  /-- ageing per day, 10^-15; R520 of chapter 16 (reset value: DESIGN CHOICE, log 5) -/
  dK : Int
  /-- its uncertainty per day, 10^-15; R520 of chapter 16 (reset value: DESIGN CHOICE, log 5) -/
  ud : Nat
  /-- temperature sensitivity per K, 10^-15; R520 of chapter 16 (reset value: DESIGN CHOICE, log 5) -/
  kK : Int
  /-- its uncertainty per K, 10^-15; R520 of chapter 16 (reset value: DESIGN CHOICE, log 5) -/
  uk : Nat
  /-- noise floor, 10^-15; R520 of chapter 16 (reset value: DESIGN CHOICE, log 5) -/
  sk : Nat
deriving DecidableEq, Repr

/-- Model at reset. -/
def Model.init : Model where
  valid := false
  dK := 0
  ud := 0
  kK := 0
  uk := 0
  sk := 0

/-- What one load of the holdover register brings. (R270) -/
structure HoLoad where
  /-- c_avg; R270 of chapter 09 -/
  avg : Int
  /-- the value that would apply; R270 of chapter 09 -/
  reg : Int
  /-- window centre in half Metronome seconds; R272 of chapter 09 -/
  centre : Int
  /-- mean case temperature, 0.01 C; R273 of chapter 09 -/
  tc : Int
  /-- u_avg in 10^-18; R275 of chapter 09 -/
  uavg : Nat
  /-- seconds that counted; R271 of chapter 09 -/
  used : Nat
  /-- HO_SHORT; R272 of chapter 09 -/
  short : Bool
  /-- terms in the value; R273 of chapter 09 -/
  terms : Bool × Bool
deriving DecidableEq, Repr

/-- HoLoad at reset. -/
def HoLoad.init : HoLoad where
  avg := 0
  reg := 0
  centre := 0
  tc := 0
  uavg := 0
  used := 0
  short := false
  terms := (false, false)

/-- One DPLL with its selection. (R226) -/
structure Dpll where
  /-- candidate table; R250 of chapter 08 -/
  use : Vector Use 66
  /-- MODE: 1 FORCED; R250 of chapter 08 -/
  forcedMode : Bool
  /-- REVERT; R250 of chapter 08 -/
  revert : Bool
  /-- TIME_AS_FREQ; R250 of chapter 08 -/
  timeAsFreq : Bool
  /-- MANUAL; R250 of chapter 08 -/
  manual : Option (Fin 66)
  /-- SLOPE_LIMIT in 0.1 ns/s; R250 of chapter 08 -/
  slopeLimit : Nat
  /-- SETTLE_THR in 10 ps; R250 of chapter 08 -/
  settleThr : Nat
  /-- HIT_LIMIT in ps; R250 of chapter 08 -/
  hitLimit : Nat
  /-- CURRENT; R253 of chapter 08 -/
  cur : Option (Fin 66)
  /-- TARGET; R253 of chapter 08 -/
  target : Option (Fin 66)
  /-- NEXT; R253 of chapter 08 -/
  next : Option (Fin 66)
  /-- SW_PHASE; R253 of chapter 08 -/
  sw : SwPhase
  /-- Kettle instant the switch began; R253 of chapter 08 (the model's own field, log 1) -/
  swFrom : Nat
  /-- Kettle instant the present phase began; R235 of chapter 08 (the model's own field, log 1) -/
  phFrom : Nat
  /-- old reference of the switch; R240 of chapter 08 -/
  swOld : Option (Fin 66)
  /-- offset O of the switch; R236 of chapter 08 -/
  swO : Int
  /-- the target was lost in MEASURE or HANDOVER; R238 of chapter 08 -/
  swLost : Bool
  /-- that target was lost by activity; R238 of chapter 08 -/
  swAct : Bool
  /-- TIME_AS_FREQ as the switch took it; R251 of chapter 08 -/
  taf : Bool
  /-- TIME_AS_FREQ as it stood when the switch in progress began, in force from its HANDOVER.; R251 of chapter 08 -/
  swTaf : Bool
  /-- valid samples of MEASURE; R236 of chapter 08 -/
  swSamples : List Int
  /-- consecutive updates within SETTLE_THR; R235 of chapter 08 -/
  swUpdates : Nat
  /-- BRIDGING; R253 of chapter 08 -/
  bridging : Bool
  /-- Kettle instant bridging began; R269 of chapter 09 (the model's own field, log 1) -/
  bridgeFrom : Nat
  /-- PENDING_EVAL; R253 of chapter 08 -/
  pendingEval : Bool
  /-- an evaluation point has come; R231 of chapter 08 -/
  evalDue : Bool
  /-- build-out in force; R253 of chapter 08 -/
  buildOut : Int
  /-- STEERING; R253 of chapter 08 -/
  steering : Bool
  /-- STEP_PENDING; R253 of chapter 08 -/
  stepPending : Bool
  /-- SLEWING; R285 of chapter 09 -/
  slewing : Bool
  /-- remainder of the steering already applied; R244 of chapter 08 (the model's own field, log 1) -/
  steerRem : Nat
  /-- LAST_OUTCOME; R253 of chapter 08 -/
  lastOutcome : Nat
  /-- enabled (DPLL0 resets to enabled); R289 of chapter 09 -/
  enable : Bool
  /-- DAMPING in tenths; R289 of chapter 09 -/
  damping : Nat
  /-- final bandwidth in uHz (DPLL0 resets to 1,000); R289 of chapter 09 -/
  bw : Nat
  /-- BW_EFF: the bandwidth the last detector update took, in uHz (DPLL0 resets to 50,000, its schedule's first step); R263 of chapter 09 (reset value: DESIGN CHOICE, log 5) -/
  bwUse : Nat
  /-- BW_CLAMPED at that update; R262 of chapter 09 (reset value: DESIGN CHOICE, log 5) -/
  clampUse : Bool
  /-- DAMPING at that update; R263 of chapter 09 (reset value: DESIGN CHOICE, log 5) -/
  dampUse : Nat
  /-- STEP at that update; 8 final (DPLL0 resets to 0, its schedule's first step); R295 of chapter 09 (reset value: DESIGN CHOICE, log 5) -/
  stepUse : Nat
  /-- integrator of the loop filter; R261 of chapter 09 (reset value: DESIGN CHOICE, log 5) -/
  integ : Int
  /-- LOCK_THR in ps; R289 of chapter 09 -/
  lockThr : Nat
  /-- STEP_THR in ps; R289 of chapter 09 -/
  stepThr : Nat
  /-- STEP_THR that the last switch took; R290 of chapter 09 -/
  swThr : Nat
  /-- PULL_LIMIT in ppm; R289 of chapter 09 -/
  pullLimit : Nat
  /-- REC_SLEW in 0.1 us/s; R289 of chapter 09 -/
  recSlew : Nat
  /-- LOCK_TIME; R289 of chapter 09 -/
  lockTime : Nat
  /-- schedule: bandwidth in uHz and dwell in s (DPLL0 resets to three steps); R289 of chapter 09 -/
  steps : List (Nat × Nat)
  /-- RESTART_AFTER; R289 of chapter 09 -/
  restartAfter : Nat
  /-- schedule step in force; at or above N: final; R295 of chapter 09 (reset value: DESIGN CHOICE, log 5) -/
  stepIdx : Nat
  /-- elapsed dwell of the step, 2^-16 ns of Kettle time; R264 of chapter 09 -/
  dwell : Nat
  /-- a RESTART waits for the next HANDOVER; R265 of chapter 09 -/
  restartDue : Bool
  /-- WINDOW; R289 of chapter 09 -/
  window : Nat
  /-- GUARD; R289 of chapter 09 -/
  guard : Nat
  /-- DRIFT_EN; R289 of chapter 09 -/
  driftEn : Bool
  /-- TEMP_EN; R289 of chapter 09 -/
  tempEn : Bool
  /-- BUDGET in ns; R289 of chapter 09 -/
  budget : Nat
  /-- a staged ENABLE 0 waits for the switch to end; R291 of chapter 09 -/
  offDue : Bool
  /-- DSTATE (DPLL0 resets to FREERUN); R266 of chapter 09 -/
  dstate : DState
  /-- HO_CAUSE; R269 of chapter 09 -/
  hoCause : HoCause
  /-- FORCED holds; R294 of chapter 09 -/
  forced : Bool
  /-- control value; R258 of chapter 09 -/
  c : Int
  /-- control value whose increment is fixed for the CLK_AON tick interval in progress; R144 of chapter 05 (the model's own field, log 6) -/
  cTick : Int
  /-- e at the last update; R295 of chapter 09 -/
  err : Int
  /-- e at the previous update of this following; R243 of chapter 08 -/
  lastErr : Option Int
  /-- last 64 errors; R274 of chapter 09 -/
  errs : List Int
  /-- Kettle instant the lock run started; R267 of chapter 09 -/
  lockFrom : Option Nat
  /-- consecutive updates beyond 4 x LOCK_THR; R267 of chapter 09 -/
  badRun : Nat
  /-- PULL_LIMITED; R261 of chapter 09 -/
  pullLimited : Bool
  /-- Kettle instant PULL_LIMITED set; R267 of chapter 09 (the model's own field, log 1) -/
  pullFrom : Nat
  /-- c_avg in force or prepared; R295 of chapter 09 -/
  hoAvg : Int
  /-- holdover register: the value that would apply; R270 of chapter 09 -/
  hoReg : Int
  /-- window centre in half Metronome seconds; R272 of chapter 09 -/
  hoCentre : Int
  /-- mean case temperature of the window, 0.01 C; R273 of chapter 09 -/
  hoTc : Int
  /-- u_avg in 10^-18; R275 of chapter 09 -/
  hoUavg : Nat
  /-- WINDOW_USED; R295 of chapter 09 -/
  windowUsed : Nat
  /-- HO_SHORT; R295 of chapter 09 -/
  hoShort : Bool
  /-- drift and temperature terms in the holdover register; R273 of chapter 09 -/
  regTerms : Bool × Bool
  /-- DRIFT_USED and TEMP_USED: the terms in c; R273 of chapter 09 -/
  terms : Bool × Bool
  /-- the load before the last; R288 of chapter 09 -/
  hoOld : HoLoad
  /-- Kettle instant of the last load; R288 of chapter 09 (the model's own field, log 1) -/
  hoAt : Option Nat
  /-- Metronome second of entry; R269 of chapter 09 -/
  hoEntry : Nat
  /-- Kettle instant of entry; R265 of chapter 09 (the model's own field, log 1) -/
  hoFrom : Nat
  /-- te0 in ps; R275 of chapter 09 -/
  te0 : Nat
  /-- TE_VALID; R274 of chapter 09 -/
  teValid : Bool
  /-- integral of abs(T - Tc) over the holdover, 0.01 K s; R275 of chapter 09 -/
  hoTempInt : Nat
  /-- seconds of the holdover with KETTLE_WARM clear; R275 of chapter 09 -/
  hoCold : Nat
  /-- model values in force at entry; R505 of chapter 16 -/
  hoModel : Model
  /-- HO_OVER_BUDGET; R277 of chapter 09 -/
  overBudget : Bool
  /-- TE_EST in ps; R274 of chapter 09 -/
  teEst : Nat
  /-- FE_EST in 10^-15; R274 of chapter 09 -/
  feEst : Nat
  /-- Kettle instant of the last DSTATE change; R295 of chapter 09 (the model's own field, log 1) -/
  stFrom : Nat
  /-- SINCE; R295 of chapter 09 -/
  since : Nat
  /-- a reference was followed since enabled; R266 of chapter 09 -/
  followed : Bool
  /-- domain time in 2^-80 ns; R305 of chapter 10 -/
  domTime : Int
  /-- integral of c over the present second, 2^-64 x 2^-16 ns; R271 of chapter 09 -/
  secC : Int
  /-- Kettle time of the present second so far; R271 of chapter 09 -/
  secAll : Nat
  /-- of it, the time LOCKED, not bridging and not in a switch; R271 of chapter 09 -/
  secT : Nat
  /-- sum of e of the present second; R473 of chapter 15 -/
  secE : Int
  /-- sum of e squared of the present second; R473 of chapter 15 -/
  secEE : Nat
  /-- largest abs e of the present second; R473 of chapter 15 -/
  secEMax : Nat
  /-- detector updates of the present second; R473 of chapter 15 -/
  secN : Nat
  /-- means of the last 60 s in which a reference was followed (Metronome second, mean c, case temperature); R272 of chapter 09 -/
  followC : List (Nat × Int × Int)
deriving DecidableEq, Repr

/-- Dpll at reset. -/
def Dpll.init : Dpll where
  use := Vector.replicate 66 Use.init
  forcedMode := false
  revert := true
  timeAsFreq := false
  manual := none
  slopeLimit := 50
  settleThr := 100
  hitLimit := 10000
  cur := none
  target := none
  next := none
  sw := .none
  swFrom := 0
  phFrom := 0
  swOld := none
  swO := 0
  swLost := false
  swAct := false
  taf := false
  swTaf := false
  swSamples := []
  swUpdates := 0
  bridging := false
  bridgeFrom := 0
  pendingEval := false
  evalDue := false
  buildOut := 0
  steering := false
  stepPending := false
  slewing := false
  steerRem := 0
  lastOutcome := 0
  enable := false
  damping := 50
  bw := 1000000
  bwUse := 1000000
  clampUse := false
  dampUse := 50
  stepUse := 8
  integ := 0
  lockThr := 10000
  stepThr := 100000
  swThr := 100000
  pullLimit := 50
  recSlew := 100
  lockTime := 0
  steps := []
  restartAfter := 60
  stepIdx := 8
  dwell := 0
  restartDue := false
  window := 3600
  guard := 300
  driftEn := true
  tempEn := true
  budget := 1000
  offDue := false
  dstate := .disabled
  hoCause := .none
  forced := false
  c := 0
  cTick := 0
  err := 0
  lastErr := none
  errs := []
  lockFrom := none
  badRun := 0
  pullLimited := false
  pullFrom := 0
  hoAvg := 0
  hoReg := 0
  hoCentre := 0
  hoTc := 0
  hoUavg := 0
  windowUsed := 0
  hoShort := true
  regTerms := (false, false)
  terms := (false, false)
  hoOld := HoLoad.init
  hoAt := none
  hoEntry := 0
  hoFrom := 0
  te0 := 0
  teValid := false
  hoTempInt := 0
  hoCold := 0
  hoModel := Model.init
  overBudget := false
  teEst := 0
  feEst := 0
  stFrom := 0
  since := 0
  followed := false
  domTime := 0
  secC := 0
  secAll := 0
  secT := 0
  secE := 0
  secEE := 0
  secEMax := 0
  secN := 0
  followC := []

/-- DPLL0 at reset: enabled, in FREERUN, bandwidth 1 mHz after a schedule of three steps (R289). -/
def Dpll.reset0 : Dpll :=
  { Dpll.init with enable := true, dstate := .freerun, bw := 1000, bwUse := 50000, stepIdx := 0, stepUse := 0,
                   steps := [(50000, 60), (10000, 300), (3000, 1200)] }

/-- Every DPLL at reset (R289). -/
def Dpll.resetAll : Vector Dpll 8 := (Vector.replicate 8 Dpll.init).set 0 Dpll.reset0

/-- One ramp segment. (R308) -/
structure Seg where
  /-- TARGET in 10^-12; R329 of chapter 10 -/
  target : Int
  /-- SLOPE; R329 of chapter 10 -/
  slope : Nat
  /-- DWELL in ms; R329 of chapter 10 -/
  dwell : Nat
deriving DecidableEq, Repr

/-- Seg at reset. -/
def Seg.init : Seg where
  target := 0
  slope := 0
  dwell := 0

/-- One synthesis domain with its ramp generator. (R301) -/
structure Domain where
  /-- powered up (domain 0 resets to enabled); R327 of chapter 10 -/
  enable : Bool
  /-- F_D numerator; R327 of chapter 10 -/
  num : Nat
  /-- F_D denominator; R327 of chapter 10 -/
  den : Nat
  /-- VCO multiple K; R301 of chapter 10 -/
  k : Nat
  /-- domain PLL locked; R338 of chapter 10 -/
  locked : Bool
  /-- band table fill in progress; R338 of chapter 10 -/
  filling : Bool
  /-- retune or relock after a stop in progress; R306 of chapter 10 -/
  retuning : Bool
  /-- NO_BAND; R338 of chapter 10 -/
  noBand : Bool
  /-- LOW_MARGIN; R338 of chapter 10 -/
  lowMargin : Bool
  /-- BAND; R338 of chapter 10 (reset value: DESIGN CHOICE, log 5) -/
  band : Nat
  /-- measured low and high ends in kHz; empty: never filled; R302 of chapter 10 (reset value: DESIGN CHOICE, log 5) -/
  table : List (Nat × Nat)
  /-- Kettle instant of the last fill's end; R331 of chapter 10 (the model's own field, log 1) -/
  fillAt : Nat
  /-- a fill has completed since reset; R331 of chapter 10 -/
  filled : Bool
  /-- outputs of the domain are not stopped; R306 of chapter 10 -/
  running : Bool
  /-- ramp state; R327 of chapter 10 -/
  ramp : RampState
  /-- profile; none: never loaded since reset; R327 of chapter 10 -/
  segs : Vector (Option Seg) 32
  /-- LAST; R330 of chapter 10 -/
  rampLast : Nat
  /-- END: LOOP; R330 of chapter 10 -/
  rampLoop : Bool
  /-- REPEAT; R330 of chapter 10 -/
  rampRepeat : Nat
  /-- segment executing; R308 of chapter 10 -/
  rampSeg : Nat
  /-- repeats made; R308 of chapter 10 -/
  rampRuns : Nat
  /-- offset r at the segment start, 10^-12; R308 of chapter 10 -/
  rampR : Int
  /-- Kettle instant the segment began; R308 of chapter 10 (the model's own field, log 1) -/
  rampFrom : Nat
  /-- accumulated integral of r at the segment start, 10^-12 x 2^-16 ns; R307 of chapter 10 -/
  rampPhase : Int
  /-- of that integral, what the phases of the domain's PULSE outputs hold already, 2^-16 ns; R307 of chapter 10 (the model's own field, log 1) -/
  rampFold : Int
deriving DecidableEq, Repr

/-- Domain at reset. -/
def Domain.init : Domain where
  enable := false
  num := 625000000
  den := 1
  k := 18
  locked := false
  filling := false
  retuning := false
  noBand := false
  lowMargin := false
  band := 0
  table := []
  fillAt := 0
  filled := false
  running := false
  ramp := .idle
  segs := Vector.replicate 32 none
  rampLast := 0
  rampLoop := false
  rampRepeat := 0
  rampSeg := 0
  rampRuns := 0
  rampR := 0
  rampFrom := 0
  rampPhase := 0
  rampFold := 0

/-- Every domain at reset: domain 0 powered (R327). -/
def Domain.resetAll : Vector Domain 8 :=
  (Vector.replicate 8 Domain.init).set 0 { Domain.init with enable := true, filling := true }

/-- One CKOUT output. (R311) -/
structure Ckout where
  /-- ENABLE; R327 of chapter 10 -/
  enable : Bool
  /-- FORMAT; R327 of chapter 10 -/
  format : Nat
  /-- INVERT; R327 of chapter 10 -/
  invert : Bool
  /-- DOMAIN; R327 of chapter 10 -/
  domain : Fin 8
  /-- DIV; R327 of chapter 10 -/
  div : Nat
  /-- PHASE_ADJ; R327 of chapter 10 -/
  phaseAdj : Nat
  /-- ALIGNED; R338 of chapter 10 -/
  aligned : Bool
  /-- SYNC_REF; R338 of chapter 10 -/
  syncRef : Bool
  /-- Kettle instant a DIV, DOMAIN or PHASE_ADJ hold began; the output starts aligned at its end; R313 of chapter 10 -/
  holdFrom : Option Nat
  /-- Kettle instant a FORMAT or INVERT hold began; R313 of chapter 10 -/
  formFrom : Option Nat
  /-- a strobe has asked for a start; it is made once its values have applied; R566 of chapter 02 (the model's own field, log 1) -/
  startDue : Bool
  /-- Kettle instant of the last SYNC_IN recognition; R325 of chapter 10 (the model's own field, log 1) -/
  syncAt : Nat
  /-- phase of the divider against its alignment points, 2^-16 ns; R312 of chapter 10 -/
  dphi : Int
  /-- the domain's integral of r at this output's alignment, 10^-12 x 2^-16 ns; R307 of chapter 10 (the model's own field, log 1) -/
  rampAt : Int
  /-- in KEEP, waiting for a hand-off point; R431 of chapter 13 -/
  keep : Bool
deriving DecidableEq, Repr

/-- Ckout at reset. -/
def Ckout.init : Ckout where
  enable := false
  format := 0
  invert := false
  domain := 0
  div := 4
  phaseAdj := 0
  aligned := false
  syncRef := false
  holdFrom := none
  formFrom := none
  startDue := false
  syncAt := 0
  dphi := 0
  rampAt := 0
  keep := false

/-- One PULSE output. (R315) -/
structure Pulse where
  /-- ENABLE; R327 of chapter 10 -/
  enable : Bool
  /-- LEVEL 3.3 V; R327 of chapter 10 -/
  level33 : Bool
  /-- INVERT; R327 of chapter 10 -/
  invert : Bool
  /-- HALF; R327 of chapter 10 -/
  half : Bool
  /-- DOMAIN; R327 of chapter 10 -/
  domain : Fin 8
  /-- rate NUM; R327 of chapter 10 -/
  num : Nat
  /-- rate DEN; R327 of chapter 10 -/
  den : Nat
  /-- WIDTH in ns; R327 of chapter 10 -/
  width : Nat
  /-- DELAY in 10 ps; R327 of chapter 10 -/
  delay : Int
  /-- AUTO; R327 of chapter 10 -/
  auto : Bool
  /-- SLEW_RATE in 0.1 us/s; R327 of chapter 10 -/
  slewRate : Nat
  /-- phase of the rising edges in 2^-16 ns; R317 of chapter 10 -/
  phi : Int
  /-- SLEWING; R338 of chapter 10 -/
  slewing : Bool
  /-- SYNC_REF; R338 of chapter 10 -/
  syncRef : Bool
  /-- a pulse is in progress; R318 of chapter 10 (reset value: DESIGN CHOICE, log 5) -/
  high : Bool
  /-- Kettle instant of a restart whose first aligned edge has not come; R318 of chapter 10 -/
  restartAt : Option Nat
  /-- Kettle instant of the falling edge of the pulse in progress or of the last pulse; R318 of chapter 10 (the model's own field, log 1) -/
  fallAt : Nat
  /-- Kettle instant of the last rising edge instant; R322 of chapter 10 (the model's own field, log 1) -/
  lastEdge : Nat
  /-- Kettle instant after which the next rising edge instant lies; R315 of chapter 10 (the model's own field, log 1) -/
  edgeFrom : Nat
  /-- Kettle instant the LEVEL or INVERT hold began; R318 of chapter 10 -/
  holdFrom : Option Nat
  /-- what a correction left below 2^-16 ns, in 10^-7; R322 of chapter 10 (the model's own field, log 1) -/
  slewRem : Nat
  /-- Kettle instant of the last SYNC_IN recognition; R325 of chapter 10 (the model's own field, log 1) -/
  syncAt : Nat
  /-- slew asked for by OUT_SLEW START; R322 of chapter 10 -/
  slewReq : Bool
  /-- in KEEP, waiting for a hand-off point; R431 of chapter 13 -/
  keep : Bool
deriving DecidableEq, Repr

/-- Pulse at reset. -/
def Pulse.init : Pulse where
  enable := false
  level33 := true
  invert := false
  half := false
  domain := 0
  num := 1
  den := 1
  width := 1000
  delay := 0
  auto := true
  slewRate := 100
  phi := 0
  slewing := false
  syncRef := false
  high := false
  restartAt := none
  fallAt := 0
  lastEdge := 0
  edgeFrom := 0
  holdFrom := none
  slewRem := 0
  syncAt := 0
  slewReq := false
  keep := false

/-- The SYNC_IN arm. (R324) -/
structure SyncArm where
  /-- SLOPE; R337 of chapter 10 -/
  falling : Bool
  /-- ARMED_CKOUT; R337 of chapter 10 -/
  ckout : BitVec 24
  /-- ARMED_PULSE; R337 of chapter 10 -/
  pulse : BitVec 16
  /-- TIMEOUT in ms; R337 of chapter 10 -/
  timeout : Nat
  /-- Kettle instant armed; R324 of chapter 10 (the model's own field, log 1) -/
  from_ : Nat
deriving DecidableEq, Repr

/-- SyncArm at reset. -/
def SyncArm.init : SyncArm where
  falling := false
  ckout := 0
  pulse := 0
  timeout := 10000
  from_ := 0

/-- The Carillon. (R297) -/
structure Out where
  /-- domains; R327 of chapter 10 -/
  doms : Vector Domain 8
  /-- CKOUT outputs; R327 of chapter 10 -/
  ck : Vector Ckout 24
  /-- PULSE outputs; R327 of chapter 10 -/
  pl : Vector Pulse 16
  /-- SYNC_IN arm held; R327 of chapter 10 -/
  arm : Option SyncArm
  /-- SYNC_EXPIRED; R338 of chapter 10 -/
  syncExpired : Bool
  /-- the first strobe has applied: the pins have left their reset hold; R529 of chapter 17 -/
  released : Bool
  /-- a slewing state has seen its first second boundary; R323 of chapter 10 -/
  slewFrom : Bool
deriving DecidableEq, Repr

/-- Out at reset. -/
def Out.init : Out where
  doms := Domain.resetAll
  ck := Vector.replicate 24 Ckout.init
  pl := Vector.replicate 16 Pulse.init
  arm := none
  syncExpired := false
  released := false
  slewFrom := false

/-- One update-strobe request. (R59) -/
structure StrobeReq where
  /-- groups captured: bit 0 TIME (UPD_ARM bit 2) to bit 8 PAIR (bit 10); R58 of chapter 02 -/
  groups : BitVec 9
  /-- AT_SECOND captured; R58 of chapter 02 -/
  atSecond : Bool
  /-- Kettle instant the request was made; R59 of chapter 02 (the model's own field, log 1) -/
  made : Nat
  /-- tag of the SYS_APPLY that made it; R112 of chapter 03 -/
  tag : Option (Fin 48)
  /-- Metronome second the request is taken for; none: the next boundary counted through; R59 of chapter 02 -/
  boundary : Option Nat
deriving DecidableEq, Repr

/-- StrobeReq at reset. -/
def StrobeReq.init : StrobeReq where
  groups := 0
  atSecond := false
  made := 0
  tag := none
  boundary := none

/-- What each host port has for itself. (R36) -/
structure Port where
  /-- words of MB_CMD_WINDOW, header first; R62 of chapter 02 -/
  win : List Word
  /-- MB_RESP_TAG; R63 of chapter 02 -/
  respTag : Fin 64
  /-- MB_RESP_DATA read pointer; R62 of chapter 02 -/
  dataPtr : Nat
  /-- WV_SEL; R65 of chapter 02 -/
  wvSel : Word
  /-- WV_DATA0-3 published; R69 of chapter 02 -/
  wvData : BitVec 128
  /-- VALID; R68 of chapter 02 -/
  wvValid : Bool
  /-- BUSY; R68 of chapter 02 -/
  wvBusy : Bool
  /-- BAD_SEL; R68 of chapter 02 -/
  wvBadSel : Bool
  /-- SAT; R68 of chapter 02 -/
  wvSat : Bool
  /-- CLEARED; R68 of chapter 02 -/
  wvCleared : Bool
  /-- SEQ; R68 of chapter 02 -/
  wvSeq : BitVec 8
  /-- capture in progress; R64 of chapter 02 -/
  capData : BitVec 128
  /-- its BAD_SEL; R64 of chapter 02 -/
  capBad : Bool
  /-- its SAT; R64 of chapter 02 -/
  capSat : Bool
  /-- its CLEARED; R64 of chapter 02 -/
  capCleared : Bool
  /-- words the last read delivered, oldest first; R42 of chapter 02 (the model's own field, log 1) -/
  out : List Word
  /-- word address that the frame or transaction goes on at; R41 of chapter 02 (reset value: DESIGN CHOICE, log 5) -/
  addr : BitVec 16
  /-- Kettle instant at which SDO shifted a word out; none: high impedance since; R42 of chapter 02 (the model's own field, log 1) -/
  sdoAt : Option Nat
deriving DecidableEq, Repr

/-- Port at reset. -/
def Port.init : Port where
  win := []
  respTag := 0
  dataPtr := 0
  wvSel := 0
  wvData := 0
  wvValid := false
  wvBusy := false
  wvBadSel := false
  wvSat := false
  wvCleared := false
  wvSeq := 0
  capData := 0
  capBad := false
  capSat := false
  capCleared := false
  out := []
  addr := 0
  sdoAt := none

/-- One indirect pair. (R70) -/
structure Ind where
  /-- SPACE; R76 of chapter 02 -/
  space : BitVec 2
  /-- STRIDE; R76 of chapter 02 -/
  stride : BitVec 8
  /-- DENIED; R76 of chapter 02 -/
  denied : Bool
  /-- ECC; R76 of chapter 02 -/
  ecc : Bool
  /-- RO_WRITE; R76 of chapter 02 -/
  roWrite : Bool
  /-- RANGE; R76 of chapter 02 -/
  range : Bool
  /-- IND_ADDR; R77 of chapter 02 -/
  addr : BitVec 24
  /-- prefetched word; R73 of chapter 02 -/
  pre : Option Word
deriving DecidableEq, Repr

/-- Ind at reset. -/
def Ind.init : Ind where
  space := 0
  stride := 1
  denied := false
  ecc := false
  roWrite := false
  range := false
  addr := 0
  pre := none

/-- What reached the shared registers in one cycle: fields set and counted by hardware at one Kettle instant. (R84) -/
structure Cyc where
  /-- the Kettle instant; R84 of chapter 02 (the model's own field, log 18) -/
  at_ : Nat
  /-- HIF_ERR bits set at it; R84 of chapter 02 (the model's own field, log 18) -/
  err : BitVec 8
  /-- CHIME_STATUS bits set at it; R84 of chapter 02 (the model's own field, log 18) -/
  chime : BitVec 18
  /-- APPLIED set at it; R84 of chapter 02 (the model's own field, log 18) -/
  applied : Bool
  /-- OVERFLOW set at it; R84 of chapter 02 (the model's own field, log 18) -/
  overflow : Bool
  /-- DENIED, ECC, RO_WRITE, RANGE (bits 3 to 0) set at it in each pair; R84 of chapter 02 (the model's own field, log 18) -/
  ind : Vector (BitVec 4) 4
  /-- increments of FLT_COUNT_COR at it; R84 of chapter 02 (the model's own field, log 18) -/
  cor : Nat
  /-- increments of FLT_COUNT_CON at it; R84 of chapter 02 (the model's own field, log 18) -/
  con : Nat
  /-- increments of FLT_COUNT_FAT at it; R84 of chapter 02 (the model's own field, log 18) -/
  fat : Nat
deriving DecidableEq, Repr

/-- Cyc at reset. -/
def Cyc.init : Cyc where
  at_ := 0
  err := 0
  chime := 0
  applied := false
  overflow := false
  ind := Vector.replicate 4 0
  cor := 0
  con := 0
  fat := 0

/-- Host interface: direct registers shared by both ports and the two ports. (R50) -/
structure Hif where
  /-- HIF_ERR; R54 of chapter 02 -/
  err : BitVec 8
  /-- HIF_SCRATCH; R55 of chapter 02 -/
  scratch : Word
  /-- RECALL; R53 of chapter 02 -/
  inRecall : Bool
  /-- FW_READY; R53 of chapter 02 -/
  fwReady : Bool
  /-- UPD_ARM groups: bit 0 TIME to bit 8 PAIR; R57 of chapter 02 -/
  armGroups : BitVec 9
  /-- UPD_ARM.AT_SECOND; R57 of chapter 02 -/
  armSecond : Bool
  /-- pending request; R60 of chapter 02 -/
  pend : Option StrobeReq
  /-- queued request; R60 of chapter 02 -/
  queued : Option StrobeReq
  /-- APPLY_COUNT; R61 of chapter 02 -/
  applyCount : BitVec 8
  /-- OVERFLOW; R61 of chapter 02 -/
  overflow : Bool
  /-- APPLIED; R61 of chapter 02 -/
  applied : Bool
  /-- Metronome time of the last applied strobe edge; R65 of chapter 02 (reset value: DESIGN CHOICE, log 5) -/
  lastApplied : Nat
  /-- SPI, service; R36 of chapter 02 -/
  ports : Vector Port 2
  /-- indirect pairs; R70 of chapter 02 -/
  ind : Vector Ind 4
  /-- CHIME_STATUS; R79 of chapter 02 -/
  chimeStatus : BitVec 18
  /-- CHIME_ENABLE; R79 of chapter 02 -/
  chimeEnable : BitVec 18
  /-- KEY_SLOT_CTL.LOAD_EN; R82 of chapter 02 -/
  loadEn : BitVec 16
  /-- INJ_CTL.ENABLE; R82 of chapter 02 -/
  injEnable : Bool
  /-- NVS_RAW_CTL.RAW_WR_EN; R82 of chapter 02 -/
  rawWrEn : Bool
  /-- Kettle instant of the last write of 1 to LOAD_EN, INJ_CTL.ENABLE, RAW_WR_EN, TEST; R84 of chapter 02 (the model's own field, log 1) -/
  lastSet : Vector (Option Nat) 4
  /-- what hardware did to these registers at one instant; R84 of chapter 02 (the model's own field, log 18) -/
  cyc : Cyc
  /-- Kettle instant of their last clear by hardware; R84 of chapter 02 (the model's own field, log 1) -/
  lastClr : Vector (Option Nat) 4
deriving DecidableEq, Repr

/-- Hif at reset. -/
def Hif.init : Hif where
  err := 0
  scratch := 0
  inRecall := true
  fwReady := false
  armGroups := 0
  armSecond := false
  pend := none
  queued := none
  applyCount := 0
  overflow := false
  applied := false
  lastApplied := 0
  ports := Vector.replicate 2 Port.init
  ind := Vector.replicate 4 Ind.init
  chimeStatus := 0
  chimeEnable := 0
  loadEn := 0
  injEnable := false
  rawWrEn := false
  lastSet := Vector.replicate 4 none
  cyc := Cyc.init
  lastClr := Vector.replicate 4 none

/-- One mailbox tag. (R85) -/
structure Tag where
  /-- state; R85 of chapter 03 -/
  st : TagState
  /-- port that posted it; R93 of chapter 03 (the model's own field, log 1) -/
  port : Fin 2
  /-- header and arguments as posted; R88 of chapter 03 -/
  win : List Word
  /-- posted in a privileged frame; R91 of chapter 03 -/
  priv : Bool
  /-- place among the posts committed since reset; R93 of chapter 03 (the model's own field, log 1) -/
  order : Nat
  /-- in its deferred part; R94 of chapter 03 -/
  deferred : Bool
  /-- Kettle instant the immediate part ended; R113 of chapter 03 (the model's own field, log 1) -/
  busy : Nat
  /-- what the deferred part keeps of its arguments; R94 of chapter 03 (the model's own field, log 1) -/
  note : Nat
  /-- posts that collided since the held response, saturating at 255; R89 of chapter 03 -/
  collided : Nat
  /-- STATUS of the held response; R98 of chapter 03 -/
  status : BitVec 7
  /-- STAGED of the held response; R98 of chapter 03 -/
  staged : Bool
  /-- READS, saturating at 255; R100 of chapter 03 -/
  reads : Nat
  /-- data words of the held response; R98 of chapter 03 -/
  data : List Word
deriving DecidableEq, Repr

/-- Tag at reset. -/
def Tag.init : Tag where
  st := .free
  port := 0
  win := []
  priv := false
  order := 0
  deferred := false
  busy := 0
  note := 0
  collided := 0
  status := 0
  staged := false
  reads := 0
  data := []

/-- One staged command in a shadow buffer. (R56) -/
structure Staged where
  /-- its command; R56 of chapter 02 -/
  cmd : Cmd
  /-- its argument words; R56 of chapter 02 -/
  args : List Word
deriving DecidableEq, Repr

/-- Staged at reset. -/
def Staged.init : Staged where
  cmd := .timeSet
  args := []

/-- A tag as it stood at the start of a cycle. (R90) -/
structure TagWas where
  /-- the tag; R90 of chapter 03 (the model's own field, log 18) -/
  tag : Fin 48
  /-- its contents then; R90 of chapter 03 (the model's own field, log 18) -/
  was : Tag
deriving DecidableEq, Repr

/-- TagWas at reset. -/
def TagWas.init : TagWas where
  tag := 0
  was := Tag.init

/-- The service port's write of one cycle, and what it found. (R49) -/
structure SvcAct where
  /-- Kettle instant of the cycle; R49 of chapter 02 (the model's own field, log 18) -/
  at_ : Nat
  /-- register; R49 of chapter 02 (the model's own field, log 18) -/
  addr : Nat
  /-- word written; R49 of chapter 02 (the model's own field, log 18) -/
  word : Word
  /-- the tag that a post or an acknowledgement touched, as it was; R90 of chapter 03 (the model's own field, log 18) -/
  tag : Option TagWas
  /-- the window that a post found; R90 of chapter 03 (the model's own field, log 18) -/
  win : List Word
  /-- the order that a post found; R90 of chapter 03 (the model's own field, log 18) -/
  order : Nat
  /-- COLLISIONS found; R90 of chapter 03 (the model's own field, log 18) -/
  collisions : Nat
  /-- CHIME_STATUS found; R90 of chapter 03 (the model's own field, log 18) -/
  chime : BitVec 18
  /-- the indirect pair found; R49 of chapter 02 (the model's own field, log 18) -/
  ind : Ind
deriving DecidableEq, Repr

/-- SvcAct at reset. -/
def SvcAct.init : SvcAct where
  at_ := 0
  addr := 0
  word := 0
  tag := none
  win := []
  order := 0
  collisions := 0
  chime := 0
  ind := Ind.init

/-- The mailbox. (R85) -/
structure Mb where
  /-- tags that posts and acknowledgements touched in the cycle, as they were at its start; R90 of chapter 03 (the model's own field, log 18) -/
  touched : List TagWas
  /-- Kettle instant of that cycle; R90 of chapter 03 (the model's own field, log 18) -/
  touchedAt : Nat
  /-- the last write of the service port; R49 of chapter 02 (the model's own field, log 18) -/
  svc : Option SvcAct
  /-- the 48 tags; R85 of chapter 03 -/
  tags : Vector Tag 48
  /-- order of the next post; R93 of chapter 03 (the model's own field, log 1) -/
  nextOrder : Nat
  /-- the values of a strobe are being applied; what they trigger waits; R566 of chapter 02 (the model's own field, log 1) -/
  applying : Bool
  /-- COLLISIONS, saturating; R110 of chapter 03 -/
  collisions : Nat
  /-- shadow buffers of all groups, in the order their OK responses became held; R56 of chapter 02 -/
  shadow : List Staged
deriving DecidableEq, Repr

/-- Mb at reset. -/
def Mb.init : Mb where
  touched := []
  touchedAt := 0
  svc := none
  tags := Vector.replicate 48 Tag.init
  nextOrder := 0
  applying := false
  collisions := 0
  shadow := []

/-- One firmware image slot. (R530) -/
structure Image where
  /-- the slot holds the image as shipped, whose words the spec does not give; R526 of chapter 17 (reset value: DESIGN CHOICE, log 12) -/
  shipped : Bool
  /-- words of the image; empty: no readable image; R530 of chapter 17 -/
  words : List Word
deriving DecidableEq, Repr

/-- Image at reset. -/
def Image.init : Image where
  shipped := false
  words := []

/-- The two image slots as shipped (R526, R530). -/
def Image.shipped2 : Vector Image 2 := Vector.replicate 2 { Image.init with shipped := true }

/-- Module state, reset, straps and firmware. (R526) -/
structure Sys where
  /-- module state; R9 of chapter 00 -/
  mstate : ModState
  /-- Kettle instant the present state was entered; R110 of chapter 03 (the model's own field, log 1) -/
  since : Nat
  /-- Kettle instant of the last reset; R110 of chapter 03 (the model's own field, log 1) -/
  upFrom : Nat
  /-- RESET_CAUSE; R110 of chapter 03 -/
  resetCause : Nat
  /-- all supplies within their operating ranges; R527 of chapter 17 -/
  powered : Bool
  /-- RESET_N or a supply holds the module in reset; R526 of chapter 17 -/
  inReset : Bool
  /-- I2C_ADDR strap as sampled; R46 of chapter 02 (reset value: DESIGN CHOICE, log 5) -/
  i2cAddr : Bool
  /-- SLOT_B strap as sampled; R410 of chapter 13 (reset value: DESIGN CHOICE, log 5) -/
  slotB : Bool
  /-- WP_N asserted; R82 of chapter 02 (reset value: DESIGN CHOICE, log 5) -/
  wp : Bool
  /-- TEST_CTL.TEST; R82 of chapter 02 -/
  test : Bool
  /-- firmware store, slots A and B; R28 of chapter 01 (reset value: DESIGN CHOICE, log 12) -/
  slots : Vector Image 2
  /-- FW_CTL.NEXT as stored (0 as shipped); R82 of chapter 02 -/
  nextB : Bool
  /-- FW_CTL.FALLBACK as stored (1 as shipped); R82 of chapter 02 -/
  fallback : Bool
  /-- FW_CTL.ACTIVE; R82 of chapter 02 (reset value: DESIGN CHOICE, log 5) -/
  activeB : Bool
  /-- the mask-ROM loader runs; R532 of chapter 17 -/
  loader : Bool
  /-- FW_MAJOR; R52 of chapter 02 -/
  fwMajor : Nat
  /-- FW_MINOR; R52 of chapter 02 -/
  fwMinor : Nat
  /-- BUILD of the running image; R109 of chapter 03 (reset value: DESIGN CHOICE, log 5) -/
  fwBuild : Nat
  /-- words staged; R115 of chapter 03 -/
  staging : List Word
  /-- FW_CTL.STAGED; R82 of chapter 02 -/
  staged : Bool
  /-- tag of the SYS_FW_COMMIT in flight; R116 of chapter 03 -/
  commitTag : Option (Fin 48)
  /-- the commit has begun writing; R116 of chapter 03 -/
  commitWriting : Bool
  /-- Kettle instant of the reset that RESET_AFTER makes; R116 of chapter 03 -/
  resetDue : Option Nat
  /-- SYS_RESET_BLOCK in flight: base source and tag; R114 of chapter 03 -/
  resetBlocks : List (Nat × Fin 48)
  /-- Kettle instant the processor restart began; R450 of chapter 14 -/
  restartFrom : Option Nat
  /-- steps 1 to 4 of the boot sequence are done; R527 of chapter 17 -/
  booted : Bool
  /-- JUMP_US of the profile in force; R539 of chapter 17 -/
  profileJump : Nat
deriving DecidableEq, Repr

/-- Sys at reset. -/
def Sys.init : Sys where
  mstate := .cold
  since := 0
  upFrom := 0
  resetCause := 0
  powered := true
  inReset := false
  i2cAddr := false
  slotB := false
  wp := false
  test := false
  slots := Image.shipped2
  nextB := false
  fallback := true
  activeB := false
  loader := false
  fwMajor := 0
  fwMinor := 0
  fwBuild := 0
  staging := []
  staged := false
  commitTag := none
  commitWriting := false
  resetDue := none
  resetBlocks := []
  restartFrom := none
  booted := false
  profileJump := 1000

/-- One set of time properties as a source gives it. (R125) -/
structure TimeSrc where
  /-- UTC_OFFSET; R126 of chapter 04 -/
  utc : Option Int
  /-- EVENT: the scheduled leap second, 0 none; R126 of chapter 04 -/
  event : Nat
  /-- the offset from EVENT on; R127 of chapter 04 -/
  next : Int
deriving DecidableEq, Repr

/-- TimeSrc at reset. -/
def TimeSrc.init : TimeSrc where
  utc := none
  event := 0
  next := 0

/-- The Metronome and its time properties. (R118) -/
structure Time where
  /-- Kettle time of the last step in 2^-16 ns since t0; R18 of chapter 01 (the model's own field, log 1) -/
  now : Nat
  /-- Metronome in 2^-80 ns, 0 at t0 under R120; R118 of chapter 04 -/
  metro : Nat
  /-- TIME_VALID of R120; R120 of chapter 04 -/
  valid : Bool
  /-- marked invalid by a Kettle loss until reset; R20 of chapter 01 -/
  invalid : Bool
  /-- LAST_STEP; R140 of chapter 04 -/
  lastStep : Nat
  /-- Metronome second last begun; R127 of chapter 04 (the model's own field, log 1) -/
  lastSec : Nat
  /-- Metronome steps made since reset; R135 of chapter 04 (the model's own field, log 1) -/
  stepSeq : Nat
  /-- sum of the steps made since reset in 2^-16 ns; R135 of chapter 04 (the model's own field, log 1) -/
  stepSum : Int
  /-- Kettle instant of the most recent Metronome step; R135 of chapter 04 (the model's own field, log 1) -/
  stepK : Nat
  /-- size of the most recent Metronome step in 2^-16 ns; R188 of chapter 06 (the model's own field, log 1) -/
  stepLast : Int
  /-- UTC_OFFSET in force; R125 of chapter 04 -/
  offset : Int
  /-- OFFSET_SOURCE in force; R126 of chapter 04 -/
  offSource : Nat
  /-- a higher source has confirmed the recalled UTC_OFFSET; R126 of chapter 04 -/
  confirmed : Bool
  /-- EVENT in force, 0 none; R125 of chapter 04 -/
  event : Nat
  /-- leap of EVENT; R125 of chapter 04 -/
  leap : Int
  /-- leap61; R128 of chapter 04 -/
  leap61 : Bool
  /-- leap59; R128 of chapter 04 -/
  leap59 : Bool
  /-- values the host gave; R126 of chapter 04 -/
  host : TimeSrc
  /-- OVERRIDE of the host; R126 of chapter 04 -/
  hostOverride : Bool
  /-- values of the GNSS receiver; R126 of chapter 04 -/
  gnss : TimeSrc
  /-- values of the held snapshot; R429 of chapter 13 -/
  partner : TimeSrc
  /-- values recalled from TIME_PROPS; R126 of chapter 04 -/
  recalled : TimeSrc
  /-- values taken from the snapshot at a takeover; R429 of chapter 13 -/
  taken : TimeSrc
deriving DecidableEq, Repr

/-- Time at reset. -/
def Time.init : Time where
  now := 0
  metro := 0
  valid := false
  invalid := false
  lastStep := 0
  lastSec := 0
  stepSeq := 0
  stepSum := 0
  stepK := 0
  stepLast := 0
  offset := 0
  offSource := 7
  confirmed := false
  event := 0
  leap := 0
  leap61 := false
  leap59 := false
  host := TimeSrc.init
  hostOverride := false
  gnss := TimeSrc.init
  partner := TimeSrc.init
  recalled := TimeSrc.init
  taken := TimeSrc.init

/-- The measurement fabric. (R142) -/
structure MeasU where
  /-- channels 0-63, loopback 64, pair 65; R142 of chapter 05 -/
  chans : Vector Chan 66
  /-- intervals in flight; R172 of chapter 05 -/
  ivs : List Interval
  /-- frequency measurements in flight; R191 of chapter 06 -/
  freqs : List FreqGate
  /-- CLK_CORE cycle in which the fabric last took a stamp; R153 of chapter 05 (the model's own field, log 1) -/
  served : Option Nat
  /-- channel the fabric served last; R153 of chapter 05 (reset value: DESIGN CHOICE, log 59) -/
  servedCh : Fin 64
deriving DecidableEq, Repr

/-- MeasU at reset. -/
def MeasU.init : MeasU where
  chans := Chan.resetAll
  ivs := []
  freqs := []
  served := none
  servedCh := 63

/-- The eight DPLLs. (R254) -/
structure LoopU where
  /-- DPLL0-DPLL7; R254 of chapter 09 -/
  dplls : Vector Dpll 8
  /-- traceability held at the last LOCKED; R278 of chapter 09 -/
  traceHeld : Bool
  /-- frequencyTraceable kept in holdover; R134 of chapter 04 -/
  fTraceHeld : Bool
deriving DecidableEq, Repr

/-- LoopU at reset. -/
def LoopU.init : LoopU where
  dplls := Dpll.resetAll
  traceHeld := false
  fTraceHeld := false

/-- One foreign master. (R361) -/
structure Foreign where
  /-- clockIdentity; R361 of chapter 11 -/
  id : Nat
  /-- portNumber; R361 of chapter 11 -/
  port : Nat
  /-- grandmasterPriority1; R350 of chapter 11 -/
  prio1 : Nat
  /-- clockClass; R372 of chapter 11 -/
  cls : Nat
  /-- clockAccuracy; R372 of chapter 11 -/
  acc : Nat
  /-- offsetScaledLogVariance; R350 of chapter 11 -/
  var : Nat
  /-- grandmasterPriority2; R350 of chapter 11 -/
  prio2 : Nat
  /-- grandmasterIdentity; R350 of chapter 11 -/
  gm : Nat
  /-- stepsRemoved; R350 of chapter 11 -/
  steps : Nat
  /-- timeSource; R350 of chapter 11 -/
  src : Nat
  /-- currentUtcOffset; R350 of chapter 11 -/
  utc : Int
  /-- leap61 bit 0, leap59 bit 1, utcValid 2, ptp 3, timeTraceable 4, freqTraceable 5; R350 of chapter 11 -/
  flags : Nat
  /-- Kettle instant of its last Announce; R361 of chapter 11 (the model's own field, log 1) -/
  last : Nat
  /-- Announce messages taken from it, saturating at 2; R349 of chapter 11 -/
  n : Nat
  /-- the address it announces from by unicast; R357 of chapter 11 -/
  addr : Option Nat
deriving DecidableEq, Repr

/-- Foreign at reset. -/
def Foreign.init : Foreign where
  id := 0
  port := 0
  prio1 := 0
  cls := 0
  acc := 0
  var := 0
  prio2 := 0
  gm := 0
  steps := 0
  src := 0
  utc := 0
  flags := 0
  last := 0
  n := 0
  addr := none

/-- One unicast grant. (R356) -/
structure Grant where
  /-- granted; R358 of chapter 11 -/
  on : Bool
  /-- log interval; R373 of chapter 11 -/
  log : Int
  /-- Metronome time the grant ends; R476 of chapter 15 -/
  ends : Nat
  /-- Kettle instant the grant ends; R356 of chapter 11 (the model's own field, log 1) -/
  endsAt : Nat
deriving DecidableEq, Repr

/-- Grant at reset. -/
def Grant.init : Grant where
  on := false
  log := 0
  ends := 0
  endsAt := 0

/-- One client-table entry. (R358) -/
structure Client where
  /-- LANE; R476 of chapter 15 -/
  lane : Fin 48
  /-- entry number of its port; R373 of chapter 11 -/
  number : Nat
  /-- entry of the pool; R476 of chapter 15 -/
  slot : Nat
  /-- TRANSPORT; R373 of chapter 11 -/
  transport : Nat
  /-- ADDRESS; R373 of chapter 11 -/
  addr : Nat
  /-- CLIENT_ID; R373 of chapter 11 -/
  id : Nat
  /-- CLIENT_PORT; R373 of chapter 11 -/
  port : Nat
  /-- Sync grant; R373 of chapter 11 -/
  sync : Grant
  /-- Delay_Resp grant; R373 of chapter 11 -/
  delay : Grant
  /-- Announce grant; R373 of chapter 11 -/
  ann : Grant
  /-- next Sync sequenceId; R476 of chapter 15 -/
  seqSync : Nat
  /-- next Announce sequenceId; R476 of chapter 15 -/
  seqAnn : Nat
  /-- DELAY_REQS; R373 of chapter 11 -/
  delayReqs : Nat
  /-- DROPPED; R373 of chapter 11 -/
  dropped : Nat
  /-- Delay_Req met in the present second; R361 of chapter 11 (the model's own field, log 1) -/
  secReqs : Nat
  /-- Kettle instant that second began; R361 of chapter 11 (the model's own field, log 1) -/
  secFrom : Nat
  /-- Kettle instant of its last Sync; R359 of chapter 11 (the model's own field, log 1) -/
  lastSync : Nat
  /-- Kettle instant of its last Announce; R359 of chapter 11 (the model's own field, log 1) -/
  lastAnn : Nat
deriving DecidableEq, Repr

/-- Client at reset. -/
def Client.init : Client where
  lane := 0
  number := 0
  slot := 0
  transport := 0
  addr := 0
  id := 0
  port := 0
  sync := Grant.init
  delay := Grant.init
  ann := Grant.init
  seqSync := 0
  seqAnn := 0
  delayReqs := 0
  dropped := 0
  secReqs := 0
  secFrom := 0
  lastSync := 0
  lastAnn := 0

/-- One link lane with its PTP port. (R341) -/
structure Lane where
  /-- LANE_EN; R368 of chapter 11 -/
  en : Bool
  /-- RATE; R368 of chapter 11 -/
  rate : Nat
  /-- FEC; R368 of chapter 11 -/
  fec : Bool
  /-- AN; R368 of chapter 11 -/
  an : Bool
  /-- TX_DOMAIN; R368 of chapter 11 -/
  txDomain : Fin 8
  /-- ROLE: 0 DISABLED 1 BMCA 2 MASTER_ONLY 3 SLAVE_ONLY; R368 of chapter 11 -/
  role : Nat
  /-- TRANSPORT; R368 of chapter 11 -/
  transport : Nat
  /-- TWO_STEP; R368 of chapter 11 -/
  twoStep : Bool
  /-- P2P; R368 of chapter 11 -/
  p2p : Bool
  /-- UNICAST; R368 of chapter 11 -/
  unicast : Bool
  /-- MULTICAST; R368 of chapter 11 -/
  multicast : Bool
  /-- HOST_COPY; R368 of chapter 11 -/
  hostCopy : Bool
  /-- MAC; R368 of chapter 11 -/
  mac : Nat
  /-- IPV4; R368 of chapter 11 -/
  ipv4 : Nat
  /-- IPV6; R368 of chapter 11 -/
  ipv6 : Nat
  /-- VLAN_EN; R368 of chapter 11 -/
  vlanEn : Bool
  /-- PCP; R370 of chapter 11 (reset value: DESIGN CHOICE, log 5) -/
  pcp : Nat
  /-- VID; R370 of chapter 11 (reset value: DESIGN CHOICE, log 5) -/
  vid : Nat
  /-- ASYMMETRY; R368 of chapter 11 -/
  asym : Int
  /-- MAX_CLIENTS; R368 of chapter 11 -/
  maxClients : Nat
  /-- MAX_GRANT; R368 of chapter 11 -/
  maxGrant : Nat
  /-- MIN_LOG; R368 of chapter 11 -/
  minLog : Int
  /-- FM_MAX; R368 of chapter 11 -/
  fmMax : Nat
  /-- ACCEPT_N; R368 of chapter 11 -/
  acceptN : Nat
  /-- ACCEPT, the words of the list; R368 of chapter 11 -/
  accept : List Nat
  /-- UM_N; R368 of chapter 11 -/
  umN : Nat
  /-- UMASTER, the words of the list; R368 of chapter 11 -/
  masters : List Nat
  /-- RX_POLICE; R368 of chapter 11 -/
  rxPolice : Nat
  /-- LANE_STATE; R343 of chapter 11 -/
  lstate : LaneState
  /-- Kettle instant MEASURING began; R343 of chapter 11 (the model's own field, log 1) -/
  measFrom : Nat
  /-- Kettle instant block lock was last gained; R343 of chapter 11 (the model's own field, log 1) -/
  upFrom : Nat
  /-- staged PTP_PORT_CONFIG held until MEASURING ends; R370 of chapter 11 -/
  held : Option (List Word)
  /-- TX_DELAY in ps; R372 of chapter 11 (reset value: DESIGN CHOICE, log 5) -/
  txDelay : Nat
  /-- RX_DELAY in ps; R372 of chapter 11 (reset value: DESIGN CHOICE, log 5) -/
  rxDelay : Nat
  /-- Kettle instant of the last delay check; R345 of chapter 11 (the model's own field, log 1) -/
  checkAt : Nat
  /-- PORT_STATE, IEEE 1588: 1 INITIALIZING 2 FAULTY 3 DISABLED 4 LISTENING 5 PRE_MASTER 6 MASTER 7 PASSIVE 8 UNCALIBRATED 9 SLAVE; R372 of chapter 11 -/
  pstate : Nat
  /-- PARENT_ID; R372 of chapter 11 -/
  parentId : Nat
  /-- PARENT_PORT; R372 of chapter 11 -/
  parentPort : Nat
  /-- Kettle instant PRE_MASTER ends; none: not judged yet; R349 of chapter 11 (reset value: PRESUMED, log 15) -/
  preAt : Option Nat
  /-- foreign masters; R361 of chapter 11 -/
  foreign : List Foreign
  /-- addresses the engine has resolved; R364 of chapter 11 -/
  resolved : List Nat
  /-- addresses it has asked for; R364 of chapter 11 -/
  resolving : List Nat
  /-- multicast groups it has joined; R364 of chapter 11 -/
  joined : List Nat
  /-- Kettle instant of the last Announce from the parent; R353 of chapter 11 (the model's own field, log 1) -/
  annAt : Nat
  /-- Kettle instant of the last offset; R353 of chapter 11 -/
  syncAt : Option Nat
  /-- Kettle instant of the last path-delay sample; R353 of chapter 11 -/
  delayAt : Option Nat
  /-- TIME_ACT; R353 of chapter 11 -/
  timeAct : Bool
  /-- offset and leap schedule from the Announce of its parent; R127 of chapter 04 -/
  src : TimeSrc
  /-- released event stamps that wait for their messages; R162 of chapter 05 -/
  evs : List Stamp
  /-- t1 of the last complete Sync with its correction; R352 of chapter 11 -/
  t1 : Option Int
  /-- t2 of that Sync; R352 of chapter 11 -/
  t2 : Int
  /-- stamp of the two-step Sync that waits for its Follow_Up; R352 of chapter 11 -/
  fu : Option Stamp
  /-- Sync interval of its parent, log2 s, as the last Sync gave it; R353 of chapter 11 -/
  parSync : Option Int
  /-- sequenceId of the Sync that waits for its Follow_Up; R352 of chapter 11 -/
  syncSeq : Nat
  /-- correction of that Sync; R352 of chapter 11 -/
  syncCorr : Int
  /-- t3 of the Delay_Req or Pdelay_Req in flight; R352 of chapter 11 -/
  t3 : Option Int
  /-- sequenceId of that request; R354 of chapter 11 -/
  reqSeq : Nat
  /-- last 64 path-delay samples, oldest first; R352 of chapter 11 -/
  pd : List Int
  /-- t4 of the Pdelay_Resp that waits for its follow-up; R352 of chapter 11 -/
  pdT4 : Option Int
  /-- t2 of that response; R352 of chapter 11 -/
  pdT2 : Int
  /-- OFFSET; R372 of chapter 11 -/
  offset : Int
  /-- TE_REF in ps; R353 of chapter 11 -/
  teRef : Nat
  /-- next entry number of the port; R373 of chapter 11 -/
  nextNumber : Nat
  /-- sequenceId of its multicast Sync stream; R354 of chapter 11 -/
  seqSync : Nat
  /-- sequenceId of its multicast Announce stream; R354 of chapter 11 -/
  seqAnn : Nat
  /-- sequenceId of its Delay_Req or Pdelay_Req stream; R354 of chapter 11 -/
  seqReq : Nat
  /-- sequenceId of its Management stream; R354 of chapter 11 -/
  seqMgmt : Nat
  /-- sequenceId of its Signaling stream; R354 of chapter 11 -/
  seqSig : Nat
  /-- Kettle instant of its last Sync; R359 of chapter 11 (the model's own field, log 1) -/
  lastSync : Nat
  /-- Kettle instant of its last Announce; R359 of chapter 11 (the model's own field, log 1) -/
  lastAnn : Nat
  /-- Kettle instant of its last request; R347 of chapter 11 (the model's own field, log 1) -/
  lastReq : Nat
  /-- Kettle instant of its last metadata TLV; R369 of chapter 11 (the model's own field, log 1) -/
  lastMeta : Nat
  /-- Sync messages sent in the present second; R372 of chapter 11 -/
  secSyncs : Nat
  /-- SYNC_RATE; R372 of chapter 11 -/
  syncRate : Nat
  /-- token bucket in tokens; R361 of chapter 11 -/
  bucket : Nat
  /-- Kettle instant the bucket was brought up to; R361 of chapter 11 (the model's own field, log 1) -/
  bucketAt : Nat
  /-- grants held from unicast masters: master x 4 + message, Kettle instant of the end; R357 of chapter 11 -/
  umGrant : List (Nat × Nat)
  /-- denials: master x 4 + message, Kettle instant of the denial; R357 of chapter 11 -/
  umRetry : List (Nat × Nat)
  /-- ESMC_TX; R368 of chapter 11 -/
  esmcTx : Bool
  /-- ESMC_RX; R368 of chapter 11 -/
  esmcRx : Bool
  /-- OPTION; R368 of chapter 11 -/
  option2 : Bool
  /-- QL_AUTO; R368 of chapter 11 -/
  qlAuto : Bool
  /-- QL_FIXED; R371 of chapter 11 (reset value: DESIGN CHOICE, log 5) -/
  qlFixed : Nat
  /-- QL_REFIN; R368 of chapter 11 -/
  qlRefin : Nat
  /-- RX_QL; R371 of chapter 11 -/
  rxQl : Nat
  /-- QL of the last ESMC PDU sent; R371 of chapter 11 (the model's own field, log 5) -/
  txQl : Nat
  /-- Kettle instant of the last ESMC PDU received, or of ESMC_RX; R366 of chapter 11 (the model's own field, log 1) -/
  esmcAt : Nat
  /-- ESMC_TIMEOUT; R371 of chapter 11 -/
  esmcTimeout : Bool
  /-- Kettle instant of the last information PDU sent; R366 of chapter 11 (the model's own field, log 1) -/
  esmcSent : Nat
  /-- security MODE; R368 of chapter 11 -/
  mode : Nat
  /-- SPP; R374 of chapter 11 (reset value: DESIGN CHOICE, log 5) -/
  spp : Nat
  /-- key slot; R374 of chapter 11 (reset value: DESIGN CHOICE, log 5) -/
  slot : Fin 16
  /-- host frame being built; R375 of chapter 11 -/
  frame : List (BitVec 8)
  /-- its TOTAL; none: no frame begun; R375 of chapter 11 -/
  frameTotal : Option Nat
  /-- host frames complete and waiting for a gap; R365 of chapter 11 -/
  sendQ : List (List (BitVec 8))
  /-- what the lane last put on its transmitter: the messages of one act, in order; R354 of chapter 11 (the model's own field, log 25) -/
  sent : List TxFrame
  /-- last eye margin in 0.001 UI; R516 of chapter 16 (reset value: DESIGN CHOICE, log 5) -/
  eyeMargin : Nat
  /-- Kettle instant of the last re-adaptation; R516 of chapter 16 (the model's own field, log 1) -/
  adaptAt : Nat
deriving DecidableEq, Repr

/-- Lane at reset. -/
def Lane.init : Lane where
  en := false
  rate := 1
  fec := false
  an := false
  txDomain := 0
  role := 0
  transport := 1
  twoStep := false
  p2p := false
  unicast := false
  multicast := true
  hostCopy := false
  mac := 0
  ipv4 := 0
  ipv6 := 0
  vlanEn := false
  pcp := 0
  vid := 1
  asym := 0
  maxClients := 4096
  maxGrant := 300
  minLog := -7
  fmMax := 16
  acceptN := 0
  accept := [0, 0, 0, 0]
  umN := 0
  masters := [0, 0]
  rxPolice := 0
  lstate := .off
  measFrom := 0
  upFrom := 0
  held := none
  txDelay := 0
  rxDelay := 0
  checkAt := 0
  pstate := 3
  parentId := 0
  parentPort := 0
  preAt := none
  foreign := []
  resolved := []
  resolving := []
  joined := []
  annAt := 0
  syncAt := none
  delayAt := none
  timeAct := false
  src := TimeSrc.init
  evs := []
  t1 := none
  t2 := 0
  fu := none
  parSync := none
  syncSeq := 0
  syncCorr := 0
  t3 := none
  reqSeq := 0
  pd := []
  pdT4 := none
  pdT2 := 0
  offset := 0
  teRef := 0
  nextNumber := 0
  seqSync := 0
  seqAnn := 0
  seqReq := 0
  seqMgmt := 0
  seqSig := 0
  lastSync := 0
  lastAnn := 0
  lastReq := 0
  lastMeta := 0
  secSyncs := 0
  syncRate := 0
  bucket := 1024
  bucketAt := 0
  umGrant := []
  umRetry := []
  esmcTx := false
  esmcRx := false
  option2 := false
  qlAuto := true
  qlFixed := 0
  qlRefin := 11
  rxQl := 0
  txQl := 0
  esmcAt := 0
  esmcTimeout := false
  esmcSent := 0
  mode := 0
  spp := 0
  slot := 0
  frame := []
  frameTotal := none
  sendQ := []
  sent := []
  eyeMargin := 0
  adaptAt := 0

/-- One PTP key slot. (R362) -/
structure Key where
  /-- filled; R363 of chapter 11 (reset value: DESIGN CHOICE, log 5) -/
  filled : Bool
  /-- keyID; R362 of chapter 11 (reset value: DESIGN CHOICE, log 5) -/
  id : Word
  /-- key; R362 of chapter 11 (reset value: DESIGN CHOICE, log 5) -/
  bytes : List (BitVec 8)
deriving DecidableEq, Repr

/-- Key at reset. -/
def Key.init : Key where
  filled := false
  id := 0
  bytes := []

/-- One frame in the host queue. (R376) -/
structure HostFrame where
  /-- receiving lane; R376 of chapter 11 -/
  lane : Fin 48
  /-- ARRIVED; R376 of chapter 11 -/
  at_ : Nat
  /-- frame bytes without FCS; R364 of chapter 11 -/
  bytes : List (BitVec 8)
deriving DecidableEq, Repr

/-- HostFrame at reset. -/
def HostFrame.init : HostFrame where
  lane := 0
  at_ := 0
  bytes := []

/-- The PTP message engine and the lanes. (R347) -/
structure Ptp where
  /-- ENGINE_EN; R368 of chapter 11 -/
  en : Bool
  /-- PROFILE; R368 of chapter 11 -/
  profile : Nat
  /-- DOMAIN; R368 of chapter 11 -/
  domain : Nat
  /-- PRIORITY1; R368 of chapter 11 -/
  prio1 : Nat
  /-- PRIORITY2; R368 of chapter 11 -/
  prio2 : Nat
  /-- CLOCK_ID; R368 of chapter 11 -/
  clockId : Nat
  /-- SYNC_LOG; R368 of chapter 11 -/
  syncLog : Int
  /-- ANN_LOG; R368 of chapter 11 -/
  annLog : Int
  /-- DELAY_LOG; R368 of chapter 11 -/
  delayLog : Int
  /-- ANN_TIMEOUT; R368 of chapter 11 -/
  annTimeout : Nat
  /-- SM_TLV_EN; R368 of chapter 11 -/
  smEn : Bool
  /-- SM_LOG; R369 of chapter 11 -/
  smLog : Int
  /-- SM_NUM; R369 of chapter 11 -/
  smNum : Nat
  /-- SM_DEN; R369 of chapter 11 -/
  smDen : Nat
  /-- LOCAL_OFFSET; R369 of chapter 11 -/
  localOffset : Int
  /-- LINK0-LINK47; R341 of chapter 11 -/
  lanes : Vector Lane 48
  /-- client table; R358 of chapter 11 -/
  clients : List Client
  /-- key store (no key from manufacture); R362 of chapter 11 (reset value: DESIGN CHOICE, log 5) -/
  keys : Vector Key 16
  /-- host queue, oldest first; R364 of chapter 11 -/
  hostQ : List HostFrame
  /-- host frames sent in the present second; R365 of chapter 11 -/
  txCount : Nat
  /-- Kettle instant that second began; R365 of chapter 11 (the model's own field, log 1) -/
  txFrom : Nat
deriving DecidableEq, Repr

/-- Ptp at reset. -/
def Ptp.init : Ptp where
  en := false
  profile := 2
  domain := 127
  prio1 := 128
  prio2 := 128
  clockId := 0
  syncLog := -3
  annLog := -2
  delayLog := -3
  annTimeout := 3
  smEn := false
  smLog := 0
  smNum := 30000
  smDen := 1001
  localOffset := 0
  lanes := Vector.replicate 48 Lane.init
  clients := []
  keys := Vector.replicate 16 Key.init
  hostQ := []
  txCount := 0
  txFrom := 0

/-- A survey in flight. (R390) -/
structure Survey where
  /-- its tag; R405 of chapter 12 -/
  tag : Fin 48
  /-- Kettle instant it started; R390 of chapter 12 (the model's own field, log 1) -/
  from_ : Nat
  /-- DURATION; R405 of chapter 12 -/
  duration : Nat
  /-- TARGET; R405 of chapter 12 -/
  target : Nat
  /-- seconds counted; R390 of chapter 12 -/
  n : Nat
  /-- sum of X; R390 of chapter 12 -/
  sx : Int
  /-- sum of Y; R390 of chapter 12 -/
  sy : Int
  /-- sum of Z; R390 of chapter 12 -/
  sz : Int
  /-- sum of X squared; R390 of chapter 12 -/
  sxx : Nat
  /-- sum of Y squared; R390 of chapter 12 -/
  syy : Nat
  /-- sum of Z squared; R390 of chapter 12 -/
  szz : Nat
deriving DecidableEq, Repr

/-- Survey at reset. -/
def Survey.init : Survey where
  tag := 0
  from_ := 0
  duration := 3600
  target := 0
  n := 0
  sx := 0
  sy := 0
  sz := 0
  sxx := 0
  syy := 0
  szz := 0

/-- One accepted mark of the prediction. (R393) -/
structure PredMark where
  /-- Kettle instant of its tick; R393 of chapter 12 (the model's own field, log 1) -/
  k : Nat
  /-- G of the mark; R393 of chapter 12 -/
  g : Int
  /-- case temperature of its second, 0.01 C; R393 of chapter 12 -/
  temp : Int
deriving DecidableEq, Repr

/-- PredMark at reset. -/
def PredMark.init : PredMark where
  k := 0
  g := 0
  temp := 0

/-- The GNSS snapshot buffer. (R398) -/
structure Snap where
  /-- VALID: a capture is held; R406 of chapter 12 -/
  held : Bool
  /-- ANT_FAULT; R406 of chapter 12 -/
  antFault : Bool
  /-- KETTLE_COLD; R406 of chapter 12 -/
  cold : Bool
  /-- LENGTH in ms; R406 of chapter 12 -/
  length : Nat
  /-- FIRST; R406 of chapter 12 -/
  first : Nat
  /-- L5_SKEW in ps; R406 of chapter 12 -/
  skew : Int
  /-- index of its free samples; R398 of chapter 12 (the model's own field, log 2) -/
  base : Nat
  /-- tag of a CAPTURE in flight; R406 of chapter 12 -/
  capTag : Option (Fin 48)
  /-- Kettle instant the capture starts; R406 of chapter 12 (the model's own field, log 1) -/
  capFrom : Nat
  /-- Metronome instant the capture starts; R406 of chapter 12 -/
  capAt : Nat
  /-- LENGTH of the capture in flight; R406 of chapter 12 -/
  capLen : Nat
  /-- START of the capture in flight; R406 of chapter 12 -/
  capStart : Nat
  /-- tag of a PROCESS in flight; R406 of chapter 12 -/
  procTag : Option (Fin 48)
  /-- Kettle instant the PROCESS began; R399 of chapter 12 (the model's own field, log 1) -/
  procFrom : Nat
deriving DecidableEq, Repr

/-- Snap at reset. -/
def Snap.init : Snap where
  held := false
  antFault := false
  cold := false
  length := 0
  first := 0
  skew := 0
  base := 0
  capTag := none
  capFrom := 0
  capAt := 0
  capLen := 0
  capStart := 0
  procTag := none
  procFrom := 0

/-- The GNSS receiver. (R380) -/
structure Gnss where
  /-- ENABLE; R400 of chapter 12 -/
  en : Bool
  /-- BIAS_EN; R400 of chapter 12 -/
  biasEn : Bool
  /-- BIAS_5V; R400 of chapter 12 -/
  bias5 : Bool
  /-- POS_MODE FIXED; R400 of chapter 12 -/
  posFixed : Bool
  /-- SPOOF_LATCH; R400 of chapter 12 -/
  latch : Bool
  /-- PRIMARY; R400 of chapter 12 -/
  primary : Nat
  /-- CONST; R400 of chapter 12 -/
  const : Nat
  /-- BANDS; R400 of chapter 12 -/
  bands : Nat
  /-- ELEV_MASK; R400 of chapter 12 -/
  elevMask : Nat
  /-- CN0_MASK; R400 of chapter 12 -/
  cn0Mask : Nat
  /-- CLEAR_TIME; R400 of chapter 12 -/
  clearTime : Nat
  /-- JUMP_LIMIT in ns; R400 of chapter 12 -/
  jumpLimit : Nat
  /-- POS_LIMIT in m; R400 of chapter 12 -/
  posLimit : Nat
  /-- ISB_LIMIT in ns; R400 of chapter 12 -/
  isbLimit : Nat
  /-- DELAY in ps; R400 of chapter 12 -/
  delay : Nat
  /-- BAND_DIFF in ps; R400 of chapter 12 -/
  bandDiff : Int
  /-- RSTATE; R383 of chapter 12 -/
  rstate : RState
  /-- Kettle instant START was entered; R383 of chapter 12 (the model's own field, log 1) -/
  startFrom : Nat
  /-- ANT; R382 of chapter 12 -/
  ant : Ant
  /-- ANT_MA; R403 of chapter 12 (reset value: DESIGN CHOICE, log 5) -/
  antMa : Nat
  /-- the supply drives ANT_BIAS; R382 of chapter 12 -/
  biasOn : Bool
  /-- Kettle instant the present ANT state began; R382 of chapter 12 (the model's own field, log 1) -/
  antFrom : Nat
  /-- fixed position; FIX 0: none; R390 of chapter 12 -/
  fixed : Fix
  /-- latest NAV solution; R404 of chapter 12 -/
  nav : Fix
  /-- survey in flight; R390 of chapter 12 -/
  survey : Option Survey
  /-- SPOOF_ALARM; R395 of chapter 12 -/
  spoof : Bool
  /-- CAUSES: bit 3 TIME_JUMP, 2 POS_DRIFT, 1 CONSTELLATION, 0 SIGNALS; R403 of chapter 12 -/
  causes : BitVec 4
  /-- CAUSES_SEEN; R403 of chapter 12 -/
  seen : BitVec 4
  /-- consecutive seconds in which neither cause held; R395 of chapter 12 -/
  clean : Nat
  /-- ALARM_SINCE; R403 of chapter 12 -/
  alarmSince : Nat
  /-- CHECKED; R392 of chapter 12 -/
  checked : Bool
  /-- CONSISTENT; R392 of chapter 12 -/
  consistent : Bool
  /-- MARK_VALID; R403 of chapter 12 -/
  markValid : Bool
  /-- IONO_DUAL; R389 of chapter 12 -/
  dual : Bool
  /-- PRIMARY_LOST; R388 of chapter 12 -/
  primaryLost : Bool
  /-- ALM_VALID; R403 of chapter 12 (reset value: DESIGN CHOICE, log 5) -/
  almanacs : Bool
  /-- signals tracked, one a channel: CHANNELS and TRACKED; R384 of chapter 12 -/
  tracks : List GnssTrack
  /-- satellites whose L1-band signal was lost, with the Kettle instant; R380 of chapter 12 (the model's own field, log 1) -/
  l1Gone : List (GnssSat × Nat)
  /-- an L1 C/A signal has been found since SEARCH was last entered; R386 of chapter 12 -/
  caFound : Bool
  /-- USED; R403 of chapter 12 -/
  used : Word
  /-- dual-frequency ionosphere delays of the last second, ps; R392 of chapter 12 -/
  ionoLast : List (GnssSat × Int)
  /-- CN0_MEDIAN; R403 of chapter 12 -/
  cn0 : Nat
  /-- CONST_EXCLUDED; R403 of chapter 12 -/
  constExcl : Nat
  /-- TIME_UNC in ps; R389 of chapter 12 -/
  timeUnc : Option Nat
  /-- latest uncertainty that a solution gave, ps; R274 of chapter 09 (the model's own field, log 55) -/
  uncLast : Nat
  /-- accepted marks of the last 1,088 s, oldest first; R393 of chapter 12 -/
  pred : List PredMark
  /-- PRED_DEV in ps; R403 of chapter 12 -/
  predDev : Int
  /-- PRED_READY; R393 of chapter 12 -/
  predReady : Bool
  /-- NAV positions of the last 60 s in TIMING; R394 of chapter 12 -/
  pos60 : List (Int × Int × Int)
  /-- Kettle instant since which too few satellites are usable; R383 of chapter 12 -/
  lostFrom : Option Nat
  /-- Kettle count base while the Metronome is not valid: count minus Kettle time; R387 of chapter 12 -/
  countBase : Option Int
  /-- measured group delays in force; none before the first START ends; R381 of chapter 12 -/
  group : Option GroupDelay
  /-- snapshot buffer; R398 of chapter 12 -/
  snap : Snap
  /-- Kettle instant since which the test signal is not tracked; R457 of chapter 14 -/
  testLost : Option Nat
  /-- Kettle instant ephemerides were last written; R397 of chapter 12 (the model's own field, log 1) -/
  ephAt : Nat
deriving DecidableEq, Repr

/-- Gnss at reset. -/
def Gnss.init : Gnss where
  en := false
  biasEn := false
  bias5 := true
  posFixed := true
  latch := false
  primary := 0
  const := 15
  bands := 3
  elevMask := 10
  cn0Mask := 30
  clearTime := 600
  jumpLimit := 100
  posLimit := 50
  isbLimit := 50
  delay := 0
  bandDiff := 0
  rstate := .off
  startFrom := 0
  ant := .unsupervised
  antMa := 0
  biasOn := false
  antFrom := 0
  fixed := {}
  nav := {}
  survey := none
  spoof := false
  causes := 0
  seen := 0
  clean := 0
  alarmSince := 0
  checked := false
  consistent := false
  markValid := false
  dual := false
  primaryLost := false
  almanacs := false
  tracks := []
  l1Gone := []
  caFound := false
  used := 0
  ionoLast := []
  cn0 := 0
  constExcl := 0
  timeUnc := none
  uncLast := 0
  pred := []
  predDev := 0
  predReady := false
  pos60 := []
  lostFrom := none
  countBase := none
  group := none
  snap := Snap.init
  testLost := none
  ephAt := 0

/-- A state snapshot of the partner. (R427) -/
structure PairSnap where
  /-- SNAP_SEQ; R428 of chapter 13 -/
  seq : Nat
  /-- Kettle instant of its commit; R438 of chapter 13 (the model's own field, log 1) -/
  at_ : Nat
  /-- time properties and leap event; R427 of chapter 13 -/
  time : TimeSrc
  /-- UTC_OFFSET; R427 of chapter 13 -/
  offset : Int
  /-- OFFSET_SOURCE of the partner; R126 of chapter 04 -/
  offSource : Nat
  /-- TIME_SOURCE; R427 of chapter 13 -/
  source : Nat
  /-- timeTraceable; R427 of chapter 13 -/
  tTrace : Bool
  /-- frequencyTraceable; R427 of chapter 13 -/
  fTrace : Bool
  /-- DSTATE of each DPLL; R427 of chapter 13 -/
  dstates : List Nat
  /-- TE_EST of each DPLL in ps; R427 of chapter 13 -/
  teEst : List Nat
  /-- FE_EST of each DPLL; R427 of chapter 13 -/
  feEst : List Nat
  /-- HO_OVER_BUDGET of each DPLL; R427 of chapter 13 -/
  overBudget : List Bool
  /-- traceability held; R427 of chapter 13 -/
  traceHeld : List Bool
  /-- module clockClass; R427 of chapter 13 -/
  clockClass : Nat
  /-- module state; R427 of chapter 13 -/
  mstate : Nat
deriving DecidableEq, Repr

/-- PairSnap at reset. -/
def PairSnap.init : PairSnap where
  seq := 0
  at_ := 0
  time := TimeSrc.init
  offset := 0
  offSource := 7
  source := 0
  tTrace := false
  fTrace := false
  dstates := []
  teEst := []
  feEst := []
  overBudget := []
  traceHeld := []
  clockClass := 0
  mstate := 0

/-- The partner as its last heartbeat reports it. (R419) -/
structure Partner where
  /-- SEQ of the last heartbeat; R438 of chapter 13 -/
  seq : Nat
  /-- ROLE; R438 of chapter 13 -/
  role : Nat
  /-- module state; R438 of chapter 13 -/
  mstate : Nat
  /-- SLOT_B; R421 of chapter 13 -/
  slotB : Bool
  /-- ILK_OUT; R421 of chapter 13 -/
  ilkOut : Bool
  /-- FIT; R422 of chapter 13 -/
  fit : Bool
  /-- GONG; R419 of chapter 13 -/
  gong : Bool
  /-- DIGEST; R421 of chapter 13 -/
  digest : Word
  /-- ASYM; R421 of chapter 13 -/
  asym : Int
  /-- TE_EST in ps; R419 of chapter 13 -/
  teEst : Nat
  /-- DOMAIN_OFS; R424 of chapter 13 -/
  ofs : List Int
deriving DecidableEq, Repr

/-- Partner at reset. -/
def Partner.init : Partner where
  seq := 0
  role := 0
  mstate := 0
  slotB := false
  ilkOut := false
  fit := false
  gong := false
  digest := 0
  asym := 0
  teEst := 0
  ofs := []

/-- The pair unit. (R410) -/
structure Pair where
  /-- ENABLE; R436 of chapter 13 -/
  en : Bool
  /-- PTP_QUIET; R436 of chapter 13 -/
  quiet : Bool
  /-- INIT_WAIT in ms; R436 of chapter 13 -/
  initWait : Nat
  /-- ASYMMETRY; R436 of chapter 13 -/
  asym : Int
  /-- ROLE; R416 of chapter 13 -/
  role : PairRole
  /-- ILK_OUT; R415 of chapter 13 -/
  ilkOut : Bool
  /-- ILK_IN (the pull-down of R410); R410 of chapter 13 (reset value: DESIGN CHOICE, log 5) -/
  ilkIn : Bool
  /-- Kettle instant of the last change of ILK_IN; R418 of chapter 13 (the model's own field, log 1) -/
  ilkInFrom : Nat
  /-- Kettle instant since which both interlock pins are asserted; R413 of chapter 13 -/
  bothFrom : Option Nat
  /-- Kettle instant of the enable; R418 of chapter 13 (the model's own field, log 1) -/
  enFrom : Nat
  /-- partner-lane delays measured; R422 of chapter 13 -/
  measured : Bool
  /-- Kettle instant the measurement began; R411 of chapter 13 (the model's own field, log 1) -/
  measFrom : Nat
  /-- TX_DELAY in ps; R438 of chapter 13 (reset value: DESIGN CHOICE, log 5) -/
  txDelay : Nat
  /-- RX_DELAY in ps; R438 of chapter 13 (reset value: DESIGN CHOICE, log 5) -/
  rxDelay : Nat
  /-- Kettle instant of the last check of the transmit delay; R411 of chapter 13 (the model's own field, log 1) -/
  checkAt : Nat
  /-- last heartbeat; R419 of chapter 13 -/
  partner : Partner
  /-- Kettle instant of the last frame; R420 of chapter 13 -/
  frameAt : Option Nat
  /-- Kettle instant of the last HB_IN edge; R420 of chapter 13 -/
  pinAt : Option Nat
  /-- ALIVE; R420 of chapter 13 -/
  alive : Bool
  /-- PATH_FAULT; R420 of chapter 13 -/
  pathFault : Bool
  /-- Kettle instant since which both paths deliver; R420 of chapter 13 -/
  bothOkFrom : Option Nat
  /-- ILK_FAULT; R421 of chapter 13 -/
  ilkFault : Bool
  /-- Kettle instant since which the reports disagree; R421 of chapter 13 -/
  ilkDisFrom : Option Nat
  /-- SLOT_CONFLICT; R421 of chapter 13 -/
  slotConflict : Bool
  /-- CONFIG_MISMATCH; R421 of chapter 13 -/
  mismatch : Bool
  /-- Kettle instant of slot B's first sample; R417 of chapter 13 -/
  claimFirst : Option Nat
  /-- cause of the claim in progress; R438 of chapter 13 -/
  claimCause : Nat
  /-- LAST_CAUSE; R438 of chapter 13 -/
  lastCause : Nat
  /-- LAST_ROLE_CHANGE; R438 of chapter 13 -/
  roleAt : Nat
  /-- GAP_US; R438 of chapter 13 -/
  gapUs : Nat
  /-- Kettle instant the old active stopped driving, as this module saw it; 0 once the gap is measured; R432 of chapter 13 (the model's own field, log 1) -/
  gapFrom : Nat
  /-- SEQ of the next own heartbeat; R419 of chapter 13 -/
  seqTx : Nat
  /-- SEQ and MARK of own heartbeats not yet echoed, oldest first; R423 of chapter 13 -/
  txMark : List (Nat × Nat)
  /-- Kettle instant of the last own heartbeat; R419 of chapter 13 (the model's own field, log 1) -/
  hbTxAt : Nat
  /-- released stamps of the pair channel that wait for their heartbeats; R423 of chapter 13 -/
  evs : List Stamp
  /-- ECHO_SEQ; R419 of chapter 13 -/
  echoSeq : Nat
  /-- ECHO_RX; R419 of chapter 13 -/
  echoRx : Nat
  /-- last 64 two-way means, oldest first; R423 of chapter 13 -/
  means : List Int
  /-- last 1,000 samples s_0; R438 of chapter 13 -/
  align : List Int
  /-- ALIGN_MAX in fs; R438 of chapter 13 -/
  alignMax : Nat
  /-- largest abs s_n of the present second in fs; R438 of chapter 13 -/
  alignSec : Nat
  /-- held snapshot; SNAP_SEQ 0: none; R428 of chapter 13 -/
  snap : PairSnap
  /-- SNAP_SEQ being assembled; R428 of chapter 13 -/
  asmSeq : Nat
  /-- chunks received; R428 of chapter 13 -/
  asmChunks : List (Nat × List (BitVec 8))
  /-- SNAP_SEQ of the next own snapshot; R427 of chapter 13 -/
  snapTx : Nat
  /-- Kettle instant of the last own snapshot; R427 of chapter 13 (the model's own field, log 1) -/
  snapTxAt : Nat
  /-- tag of the PAIR_HANDOVER in flight; R439 of chapter 13 -/
  hoTag : Option (Fin 48)
  /-- HO_T in Metronome seconds; R433 of chapter 13 -/
  hoT : Option Nat
  /-- Kettle instant of the proposal; R439 of chapter 13 (the model's own field, log 1) -/
  hoFrom : Nat
  /-- HO_ACCEPT met or given; R433 of chapter 13 -/
  hoAccepted : Bool
  /-- HO_PROPOSE of own frames; R419 of chapter 13 -/
  hoPropose : Bool
  /-- the last heartbeat sent; R419 of chapter 13 (the model's own field, log 25) -/
  hbSent : Option HbFrame
  /-- octets of the latest heartbeat frame sent; R419 of chapter 13 (the model's own field, log 25) -/
  hbOctets : List (BitVec 8)
  /-- content of the last own snapshot sent; R427 of chapter 13 (the model's own field, log 25) -/
  snapSent : Option SnapIn
  /-- T has come on the active side; R439 of chapter 13 -/
  hoDone : Bool
deriving DecidableEq, Repr

/-- Pair at reset. -/
def Pair.init : Pair where
  en := false
  quiet := false
  initWait := 1000
  asym := 0
  role := .off
  ilkOut := false
  ilkIn := false
  ilkInFrom := 0
  bothFrom := none
  enFrom := 0
  measured := false
  measFrom := 0
  txDelay := 0
  rxDelay := 0
  checkAt := 0
  partner := Partner.init
  frameAt := none
  pinAt := none
  alive := false
  pathFault := false
  bothOkFrom := none
  ilkFault := false
  ilkDisFrom := none
  slotConflict := false
  mismatch := false
  claimFirst := none
  claimCause := 0
  lastCause := 0
  roleAt := 0
  gapUs := 0
  gapFrom := 0
  seqTx := 0
  txMark := []
  hbTxAt := 0
  evs := []
  echoSeq := 0
  echoRx := 0
  means := []
  align := []
  alignMax := 0
  alignSec := 0
  snap := PairSnap.init
  asmSeq := 0
  asmChunks := []
  snapTx := 0
  snapTxAt := 0
  hoTag := none
  hoT := none
  hoFrom := 0
  hoAccepted := false
  hoPropose := false
  hbSent := none
  hbOctets := []
  snapSent := none
  hoDone := false

/-- One fault record. (R458) -/
structure Rec where
  /-- SOURCE; R458 of chapter 14 -/
  source : Nat
  /-- CLASS; R458 of chapter 14 -/
  cls : Cls
  /-- CODE; R458 of chapter 14 -/
  code : Nat
  /-- INJECTED; R458 of chapter 14 -/
  injected : Bool
  /-- TRANSIENT; R458 of chapter 14 -/
  transient : Bool
  /-- REAL_WITH_INJECTED; R458 of chapter 14 -/
  real : Bool
  /-- INDEX; R458 of chapter 14 -/
  index : Nat
  /-- REPEAT; R458 of chapter 14 -/
  rpt : Nat
  /-- REACTION; R458 of chapter 14 -/
  reaction : Nat
  /-- TIME_VALID; R458 of chapter 14 -/
  timeValid : Bool
  /-- LASTING; R458 of chapter 14 -/
  lasting : Bool
  /-- FIRST_AT; R458 of chapter 14 -/
  firstAt : Nat
  /-- DETAIL; R458 of chapter 14 -/
  detail : Word
  /-- SEQ; R458 of chapter 14 -/
  seq : Nat
  /-- LAST_MS; R458 of chapter 14 -/
  lastMs : Nat
  /-- Kettle instant of the first report; R459 of chapter 14 (the model's own field, log 1) -/
  firstK : Nat
  /-- Kettle instant of the latest event; R459 of chapter 14 (the model's own field, log 1) -/
  lastK : Nat
deriving DecidableEq, Repr

/-- Rec at reset. -/
def Rec.init : Rec where
  source := 0
  cls := .none
  code := 0
  injected := false
  transient := false
  real := false
  index := 0
  rpt := 0
  reaction := 0
  timeValid := false
  lasting := false
  firstAt := 0
  detail := 0
  seq := 0
  lastMs := 0
  firstK := 0
  lastK := 0

/-- One source marked unobserved. (R444) -/
structure Unobs where
  /-- source; R444 of chapter 14 -/
  source : Nat
  /-- a pair is still broken; R444 of chapter 14 -/
  broken : Bool
deriving DecidableEq, Repr

/-- Unobs at reset. -/
def Unobs.init : Unobs where
  source := 0
  broken := true

/-- The fault collector. (R443) -/
structure Flt where
  /-- records held, oldest first; R460 of chapter 14 -/
  recs : List Rec
  /-- index of the next record; R460 of chapter 14 -/
  nextIdx : Nat
  /-- WRAPPED; R81 of chapter 02 -/
  wrapped : Bool
  /-- FLT_FIRST; R81 of chapter 02 -/
  first : Option Rec
  /-- COR_ANY; R81 of chapter 02 -/
  corAny : Bool
  /-- CON_ANY; R81 of chapter 02 -/
  conAny : Bool
  /-- FAT_ANY; R81 of chapter 02 -/
  fatAny : Bool
  /-- FLT_COUNT_COR; R81 of chapter 02 -/
  cntCor : Word
  /-- FLT_COUNT_CON; R81 of chapter 02 -/
  cntCon : Word
  /-- FLT_COUNT_FAT; R81 of chapter 02 -/
  cntFat : Word
  /-- unobserved sources; R444 of chapter 14 -/
  unobs : List Unobs
  /-- GONG_N asserted; R448 of chapter 14 -/
  gong : Bool
  /-- codes whose REACT is not the default; R462 of chapter 14 -/
  react : List (Nat × Nat)
  /-- GONG_OUTPUTS DISABLE; R462 of chapter 14 -/
  disable : Bool
  /-- resets of the last 10 s: base and Kettle instant; R453 of chapter 14 -/
  resets : List (Nat × Nat)
  /-- blocks in reset or shadow: base, Kettle instant the reset began, Kettle instant the block reported ready; R452 of chapter 14 -/
  shadows : List (Nat × Nat × Option Nat)
  /-- transient reports of the last second: source, code, Kettle instant; R447 of chapter 14 -/
  transients : List (Nat × Nat × Nat)
  /-- injections in progress: source and tag; R455 of chapter 14 -/
  injs : List (Nat × Nat)
  /-- shadows that ended last: base and Kettle instant; R461 of chapter 14 (the model's own field, log 18) -/
  shadowOff : List (Nat × Nat)
  /-- KETTLE_LOSS has occurred since reset; R451 of chapter 14 -/
  kettleLost : Bool
  /-- records made since reset; R458 of chapter 14 -/
  seq : Nat
  /-- fatal record stored in NVS; R460 of chapter 14 -/
  nvsFirst : Option Rec
  /-- a record was copied since the last FLT_CLEAR with NVS; R460 of chapter 14 -/
  nvsTaken : Bool
deriving DecidableEq, Repr

/-- Flt at reset. -/
def Flt.init : Flt where
  recs := []
  nextIdx := 0
  wrapped := false
  first := none
  corAny := false
  conAny := false
  fatAny := false
  cntCor := 0
  cntCon := 0
  cntFat := 0
  unobs := []
  gong := false
  react := []
  disable := false
  resets := []
  shadows := []
  transients := []
  injs := []
  shadowOff := []
  kettleLost := false
  seq := 0
  nvsFirst := none
  nvsTaken := false

/-- One record as SRAM holds it. (R482) -/
structure NvRec where
  /-- record ID; R480 of chapter 15 -/
  id : Nat
  /-- SEQ of the winning copy; R482 of chapter 15 -/
  seq : Nat
  /-- TAG; R482 of chapter 15 -/
  tag : Nat
  /-- the winning copy is slot B; R483 of chapter 15 -/
  fromB : Bool
  /-- payload; R485 of chapter 15 -/
  payload : List (BitVec 8)
deriving DecidableEq, Repr

/-- NvRec at reset. -/
def NvRec.init : NvRec where
  id := 0
  seq := 0
  tag := 0
  fromB := false
  payload := []

/-- One record assembly. (R494) -/
structure Asm where
  /-- record ID; R494 of chapter 15 -/
  id : Nat
  /-- TOTAL; R494 of chapter 15 -/
  total : Nat
  /-- bytes assembled; R494 of chapter 15 -/
  bytes : List (BitVec 8)
deriving DecidableEq, Repr

/-- Asm at reset. -/
def Asm.init : Asm where
  id := 0
  total := 0
  bytes := []

/-- One record write that waits for its page operations. (R484) -/
structure NvWrite where
  /-- record ID; R484 of chapter 15 -/
  id : Nat
  /-- TAG; R482 of chapter 15 -/
  tag : Nat
  /-- payload; R484 of chapter 15 -/
  payload : List (BitVec 8)
  /-- tag of the NVS_RECORD_WRITE that waits; R494 of chapter 15 -/
  host : Option (Fin 48)
  /-- the write was deferred under WP_N; R488 of chapter 15 -/
  wasDeferred : Bool
deriving DecidableEq, Repr

/-- NvWrite at reset. -/
def NvWrite.init : NvWrite where
  id := 0
  tag := 0
  payload := []
  host := none
  wasDeferred := false

/-- The NVS and its controller. (R479) -/
structure Nvs where
  /-- raw contents, canonical: unlisted bytes read 0; R479 of chapter 15 (reset value: DESIGN CHOICE, log 7) -/
  mem : List Host.Cell
  /-- SRAM copies of the records present; R485 of chapter 15 -/
  recs : List NvRec
  /-- writes deferred under WP_N, one per record; R488 of chapter 15 -/
  deferred : List NvWrite
  /-- record writes in progress, oldest first; R484 of chapter 15 -/
  queue : List NvWrite
  /-- assemblies in progress; R494 of chapter 15 -/
  asm : List Asm
  /-- Kettle instants of the last writes of the host's records; R494 of chapter 15 -/
  lastHost : List (Nat × Nat)
  /-- refreshes of records deferred under WP_N; R488 of chapter 15 -/
  refreshDue : List Nat
  /-- page operations per page, canonical: pages rising, no zero; R491 of chapter 15 -/
  ops : List (Nat × Nat)
  /-- RECALL_DONE; R82 of chapter 02 -/
  recallDone : Bool
  /-- REFRESHING; R495 of chapter 15 -/
  refreshing : Bool
  /-- MARGIN_PASS; R495 of chapter 15 -/
  marginPass : Bool
  /-- Kettle instant of the last full refresh pass; R495 of chapter 15 (the model's own field, log 1) -/
  refreshAt : Nat
  /-- Kettle instant of the last margin pass; R495 of chapter 15 (the model's own field, log 1) -/
  marginAt : Nat
  /-- Kettle instant of the last WEAR save; R491 of chapter 15 (the model's own field, log 1) -/
  wearAt : Nat
  /-- on-chip SRAM as indirect space 2 shows it, canonical; R467 of chapter 15 (reset value: DESIGN CHOICE, log 7) -/
  sram : List Host.Cell
deriving DecidableEq, Repr

/-- Nvs at reset. -/
def Nvs.init : Nvs where
  mem := []
  recs := []
  deferred := []
  queue := []
  asm := []
  lastHost := []
  refreshDue := []
  ops := []
  recallDone := false
  refreshing := false
  marginPass := false
  refreshAt := 0
  marginAt := 0
  wearAt := 0
  sram := []

/-- One event-log entry. (R477) -/
structure LogEnt where
  /-- GROUP; R477 of chapter 15 -/
  group : Nat
  /-- EVENT; R477 of chapter 15 -/
  event : Nat
  /-- UNIT; R477 of chapter 15 -/
  unit : Nat
  /-- SEQ; R477 of chapter 15 -/
  seq : Nat
  /-- AT; R477 of chapter 15 -/
  at_ : Nat
  /-- TIME_VALID; R477 of chapter 15 -/
  valid : Bool
  /-- D0-D9, trailing zeros left out; R477 of chapter 15 -/
  data : List Word
  /-- the entry met an uncorrectable error; R470 of chapter 15 -/
  ecc : Bool
deriving DecidableEq, Repr

/-- LogEnt at reset. -/
def LogEnt.init : LogEnt where
  group := 0
  event := 0
  unit := 0
  seq := 0
  at_ := 0
  valid := false
  data := []
  ecc := false

/-- One DPLL's part of an archive entry. (R473) -/
structure ArcDpll where
  /-- DSTATE; R473 of chapter 15 -/
  dstate : Nat
  /-- CURRENT, 0x7F none; R473 of chapter 15 -/
  cur : Nat
  /-- LOCKED_S; R473 of chapter 15 -/
  lockedS : Nat
  /-- C_MEAN; R473 of chapter 15 -/
  cMean : Int
  /-- E_MEAN; R473 of chapter 15 -/
  eMean : Int
  /-- E_RMS; R473 of chapter 15 -/
  eRms : Nat
  /-- E_MAX; R473 of chapter 15 -/
  eMax : Nat
deriving DecidableEq, Repr

/-- ArcDpll at reset. -/
def ArcDpll.init : ArcDpll where
  dstate := 0
  cur := 127
  lockedS := 0
  cMean := 0
  eMean := 0
  eRms := 0
  eMax := 0

/-- One phase-archive entry. (R473) -/
structure ArcEnt where
  /-- tier; R471 of chapter 15 -/
  tier : Nat
  /-- interval number; R471 of chapter 15 -/
  interval : Nat
  /-- STATE; R473 of chapter 15 -/
  state : Nat
  /-- PARTIAL; R473 of chapter 15 -/
  partialFlag : Bool
  /-- ECC; R473 of chapter 15 -/
  ecc : Bool
  /-- STEPPED; R473 of chapter 15 -/
  stepped : Bool
  /-- TRACEABLE; R473 of chapter 15 -/
  traceable : Bool
  /-- KETTLE_COLD; R473 of chapter 15 -/
  cold : Bool
  /-- COVERED; R473 of chapter 15 -/
  covered : Nat
  /-- CASE_TEMP in 0.01 C; R473 of chapter 15 -/
  caseTemp : Int
  /-- HEATER in mW; R473 of chapter 15 -/
  heater : Nat
  /-- TE_MAX in ps; R473 of chapter 15 -/
  teMax : Nat
  /-- DPLL0-DPLL7; R473 of chapter 15 -/
  dpll : List ArcDpll
  /-- KIND and VALUE of each candidate; R474 of chapter 15 -/
  cands : List (Nat × Int)
deriving DecidableEq, Repr

/-- ArcEnt at reset. -/
def ArcEnt.init : ArcEnt where
  tier := 0
  interval := 0
  state := 0
  partialFlag := false
  ecc := false
  stepped := false
  traceable := false
  cold := false
  covered := 0
  caseTemp := 0
  heater := 0
  teMax := 0
  dpll := []
  cands := []

/-- The archive memory. (R468) -/
structure Arc where
  /-- entries that hold something; R471 of chapter 15 -/
  entries : List ArcEnt
  /-- data of the last complete second, waiting for its roll-up; R472 of chapter 15 -/
  pendEnt : Option ArcEnt
  /-- Metronome second a step ended in, for STEPPED; R472 of chapter 15 -/
  stepAt : Option Nat
  /-- event log, oldest first; R477 of chapter 15 -/
  log : List LogEnt
  /-- SEQ of the next entry; R477 of chapter 15 -/
  logSeq : Nat
  /-- WRAPS; R477 of chapter 15 -/
  logWraps : Nat
  /-- Metronome second of the count below; R477 of chapter 15 -/
  logSecond : Nat
  /-- entries written in that second; R477 of chapter 15 -/
  logCount : Nat
deriving DecidableEq, Repr

/-- Arc at reset. -/
def Arc.init : Arc where
  entries := []
  pendEnt := none
  stepAt := none
  log := []
  logSeq := 0
  logWraps := 0
  logSecond := 0
  logCount := 0

/-- One item of the ageing model. (R500) -/
structure Item where
  /-- start-of-life value; R500 of chapter 16 (reset value: DESIGN CHOICE, log 5) -/
  start : Option Int
  /-- latest daily value; R500 of chapter 16 (reset value: DESIGN CHOICE, log 5) -/
  value : Int
  /-- its limit in the same unit; R500 of chapter 16 (reset value: DESIGN CHOICE, log 5) -/
  limit : Int
  /-- daily values: day, value; R501 of chapter 16 (reset value: DESIGN CHOICE, log 5) -/
  days : List (Nat × Int)
  /-- YEARS_LEFT in 0.1 year; R501 of chapter 16 -/
  yearsLeft : Nat
  /-- USED; R500 of chapter 16 (reset value: DESIGN CHOICE, log 5) -/
  used : Nat
  /-- Kettle instant of the last daily value; R520 of chapter 16 (the model's own field, log 1) -/
  updated : Nat
  /-- alarm; R512 of chapter 16 -/
  alarm : Bool
deriving DecidableEq, Repr

/-- Item at reset. -/
def Item.init : Item where
  start := none
  value := 0
  limit := 0
  days := []
  yearsLeft := 65535
  used := 0
  updated := 0
  alarm := false

/-- The margin plan in force. (R509) -/
structure Plan where
  /-- VCORE_SET in 0.1 mV; R509 of chapter 16 -/
  vcore : Nat
  /-- NVS margin-pass interval; R509 of chapter 16 -/
  marginDays : Nat
  /-- NVS refresh interval (2 years); R509 of chapter 16 -/
  refreshDays : Nat
  /-- SWAP_US; R509 of chapter 16 -/
  swapUs : Nat
  /-- REFRESH_S; R509 of chapter 16 -/
  refreshS : Nat
  /-- SERDES_DAYS; R509 of chapter 16 -/
  serdesDays : Nat
  /-- DERATE; R510 of chapter 16 -/
  derate : Nat
  /-- PLANNED_AT; R521 of chapter 16 -/
  at_ : Nat
deriving DecidableEq, Repr

/-- Plan at reset. -/
def Plan.init : Plan where
  vcore := 7200
  marginDays := 30
  refreshDays := 730
  swapUs := 1000
  refreshS := 10
  serdesDays := 7
  derate := 256
  at_ := 0

/-- One day of the Kettle model's history. (R502) -/
structure DayEnt where
  /-- day; R502 of chapter 16 -/
  day : Nat
  /-- y_D in 10^-15; R502 of chapter 16 -/
  y : Int
  /-- T_D in 0.01 C; R502 of chapter 16 -/
  temp : Int
deriving DecidableEq, Repr

/-- DayEnt at reset. -/
def DayEnt.init : DayEnt where
  day := 0
  y := 0
  temp := 0

/-- Ageing model, margin plan, Roll and telemetry. (R500) -/
structure Age where
  /-- the Kettle model; R502 of chapter 16 (reset value: DESIGN CHOICE, log 5) -/
  model : Model
  /-- the model before the last update; R510 of chapter 16 (reset value: DESIGN CHOICE, log 5) -/
  prev : Model
  /-- y0 of the model before the last update in 10^-15; R510 of chapter 16 (reset value: DESIGN CHOICE, log 5) -/
  prevY0 : Int
  /-- D_now of that model; R510 of chapter 16 (reset value: DESIGN CHOICE, log 5) -/
  prevDay : Nat
  /-- y0 of the fit in 10^-15; R502 of chapter 16 (reset value: DESIGN CHOICE, log 5) -/
  y0 : Int
  /-- D_now of the fit; R502 of chapter 16 (reset value: DESIGN CHOICE, log 5) -/
  y0Day : Nat
  /-- qualifying days of the last 90 days; R502 of chapter 16 (reset value: DESIGN CHOICE, log 5) -/
  days : List DayEnt
  /-- day of the last MODEL_RESET; R525 of chapter 16 -/
  resetDay : Option Nat
  /-- OFFSET in 10^-15; R504 of chapter 16 -/
  offset : Int
  /-- OFFSET_UNC in 10^-15; R504 of chapter 16 -/
  offsetUnc : Nat
  /-- OFFSET_VALID; R504 of chapter 16 -/
  offsetValid : Bool
  /-- mean of -c over the most recent LOCKED hour with traceability, 10^-15; R504 of chapter 16 -/
  hourY : Int
  /-- spread of that hour's 1 s means, 10^-15; R504 of chapter 16 -/
  hourUnc : Nat
  /-- Metronome second of that hour's centre; R504 of chapter 16 -/
  hourSec : Nat
  /-- mean case temperature of that hour, 0.01 C; R504 of chapter 16 -/
  hourTemp : Int
  /-- seconds DPLL0 has been LOCKED with traceability held since power-up; R504 of chapter 16 -/
  lockedS : Nat
  /-- the six items; R500 of chapter 16 (reset value: DESIGN CHOICE, log 5) -/
  items : Vector Item 6
  /-- plan in force; R509 of chapter 16 -/
  plan : Plan
  /-- PLAN_EN; R519 of chapter 16 -/
  planEn : BitVec 5
  /-- ALARM_YEARS; R519 of chapter 16 -/
  alarmYears : Nat
  /-- present ramp value of VCORE_SET in 0.1 mV; R523 of chapter 16 -/
  vcore : Nat
  /-- Kettle instant of the last ramp step; R509 of chapter 16 (the model's own field, log 1) -/
  vcoreRow : Nat
  /-- required core voltage in 0.1 mV; R507 of chapter 16 (reset value: DESIGN CHOICE, log 5) -/
  required : Nat
  /-- RO_MARGIN in 0.01 percent; R523 of chapter 16 (reset value: DESIGN CHOICE, log 5) -/
  roMargin : Int
  /-- NVS retention estimate in days (20 years); R506 of chapter 16 -/
  retention : Nat
  /-- LIFE_HOURS; R518 of chapter 16 (reset value: DESIGN CHOICE, log 5) -/
  lifeHours : Nat
  /-- Kettle instant up to which LIFE_HOURS is counted; R518 of chapter 16 (the model's own field, log 1) -/
  lifeFrom : Nat
  /-- ROLL_LATE; R520 of chapter 16 -/
  late : BitVec 13
  /-- ROLL_LOAD; R520 of chapter 16 (reset value: DESIGN CHOICE, log 5) -/
  load : Nat
  /-- Kettle instant of the last daily update; R508 of chapter 16 (the model's own field, log 1) -/
  planAt : Option Nat
  /-- Kettle instant of each Roll task's last pass; R513 of chapter 16 (the model's own field, log 1) -/
  taskAt : Vector Nat 13
  /-- Kettle instant of the last emergency step; R525 of chapter 16 (the model's own field, log 1) -/
  rushAt : Option Nat
  /-- Kettle instant of the last plan that stepped VCORE_SET down; R525 of chapter 16 (the model's own field, log 1) -/
  lowerAt : Option Nat
  /-- TAI day of the last daily update; R508 of chapter 16 -/
  planDay : Option Nat
  /-- CASE_TEMP in 0.01 C; R523 of chapter 16 (reset value: DESIGN CHOICE, log 5) -/
  caseTemp : Int
  /-- DIE_TEMP in 0.01 C; R523 of chapter 16 (reset value: DESIGN CHOICE, log 5) -/
  dieTemp : Int
  /-- VDD_CORE in mV; R523 of chapter 16 (reset value: DESIGN CHOICE, log 5) -/
  vddCore : Nat
  /-- VDD_SER in mV; R523 of chapter 16 (reset value: DESIGN CHOICE, log 5) -/
  vddSer : Nat
  /-- VDD_18 in mV; R523 of chapter 16 (reset value: DESIGN CHOICE, log 5) -/
  vdd18 : Nat
  /-- VDD_33 in mV; R523 of chapter 16 (reset value: DESIGN CHOICE, log 5) -/
  vdd33 : Nat
  /-- VDD_OVEN in mV; R523 of chapter 16 (reset value: DESIGN CHOICE, log 5) -/
  vddOven : Nat
  /-- POWER in mW; R523 of chapter 16 (reset value: DESIGN CHOICE, log 5) -/
  power : Nat
  /-- AT of the last complete second; R523 of chapter 16 (reset value: DESIGN CHOICE, log 5) -/
  telAt : Nat
  /-- the day's largest DRIFT in fs; R509 of chapter 16 (reset value: DESIGN CHOICE, log 5) -/
  driftMax : Nat
  /-- the day's largest change of p1 between swaps, 0.01 fs; R509 of chapter 16 (reset value: DESIGN CHOICE, log 5) -/
  swapMax : Nat
deriving DecidableEq, Repr

/-- Age at reset. -/
def Age.init : Age where
  model := Model.init
  prev := Model.init
  prevY0 := 0
  prevDay := 0
  y0 := 0
  y0Day := 0
  days := []
  resetDay := none
  offset := 0
  offsetUnc := 0
  offsetValid := false
  hourY := 0
  hourUnc := 0
  hourSec := 0
  hourTemp := 0
  lockedS := 0
  items := Vector.replicate 6 Item.init
  plan := Plan.init
  planEn := 31
  alarmYears := 5
  vcore := 7200
  vcoreRow := 0
  required := 7200
  roMargin := 0
  retention := 7305
  lifeHours := 0
  lifeFrom := 0
  late := 0
  load := 0
  planAt := none
  taskAt := .replicate 13 0
  rushAt := none
  lowerAt := none
  planDay := none
  caseTemp := 0
  dieTemp := 0
  vddCore := 0
  vddSer := 0
  vdd18 := 0
  vdd33 := 0
  vddOven := 0
  power := 0
  telAt := 0
  driftMax := 0
  swapMax := 0

/-- What the records that the firmware writes hold, beside their bytes. (R480) -/
structure FwStore where
  /-- TIME_PROPS: offset and scheduled leap; R126 of chapter 04 (reset value: DESIGN CHOICE, log 11) -/
  props : TimeSrc
  /-- FAULT_FIRST; R460 of chapter 14 (reset value: DESIGN CHOICE, log 11) -/
  fault : Option Rec
  /-- GNSS: fixed position; R397 of chapter 12 (reset value: DESIGN CHOICE, log 11) -/
  fixed : Fix
  /-- GNSS: last NAV position; R397 of chapter 12 (reset value: DESIGN CHOICE, log 11) -/
  nav : Fix
  /-- GNSS: almanacs and ephemerides held; R397 of chapter 12 (reset value: DESIGN CHOICE, log 11) -/
  almanacs : Bool
  /-- WEAR: page operations per page; R491 of chapter 15 (reset value: DESIGN CHOICE, log 11) -/
  ops : List (Nat × Nat)
  /-- AGEING: model, item histories, plan, LIFE_HOURS; R508 of chapter 16 (reset value: DESIGN CHOICE, log 11) -/
  age : Age
deriving DecidableEq, Repr

/-- FwStore at reset. -/
def FwStore.init : FwStore where
  props := TimeSrc.init
  fault := none
  fixed := {}
  nav := {}
  almanacs := false
  ops := []
  age := Age.init

/-- The module. -/
structure State where
  /-- host interface (R50) -/
  hif : Hif
  /-- mailbox (R85) -/
  mb : Mb
  /-- module state, resets, firmware (R9, R526) -/
  sys : Sys
  /-- Metronome and time properties (R118) -/
  time : Time
  /-- Kettle (R179) -/
  kettle : Kettle
  /-- root PLL (R297) -/
  root : Root
  /-- measurement fabric (R142) -/
  meas : MeasU
  /-- qualification (R195) -/
  ref : RefU
  /-- DPLLs with their selection (R226, R254) -/
  loop : LoopU
  /-- Carillon (R297) -/
  out : Out
  /-- message engine and lanes (R341) -/
  ptp : Ptp
  /-- GNSS receiver (R380) -/
  gnss : Gnss
  /-- pair unit (R410) -/
  pair : Pair
  /-- fault collector (R443) -/
  flt : Flt
  /-- NVS and SRAM (R467, R479) -/
  nvs : Nvs
  /-- archive memory (R468) -/
  arc : Arc
  /-- ageing model, plan, Roll, telemetry (R500) -/
  age : Age
  /-- contents of the NVS records the firmware writes (R480) -/
  store : FwStore
  /-- statistics counters by their wide-value item number, only those above zero, items rising (R65, R175) -/
  ctrs : List (Nat × Nat)
  /-- how many free values the steps have drawn (the model's own field, log 2) -/
  freeCtr : Nat
  /-- commands that wait, first in first out (the model's own field, log 1) -/
  pending : List Instr
deriving DecidableEq, Repr

/-- The module at t0 of the boot that follows a power-on (R527): nothing done yet, no command waiting. -/
def State.reset : State where
  hif := Hif.init
  mb := Mb.init
  sys := Sys.init
  time := Time.init
  kettle := Kettle.init
  root := Root.init
  meas := MeasU.init
  ref := RefU.init
  loop := LoopU.init
  out := Out.init
  ptp := Ptp.init
  gnss := Gnss.init
  pair := Pair.init
  flt := Flt.init
  nvs := Nvs.init
  arc := Arc.init
  age := Age.init
  store := FwStore.init
  ctrs := []
  freeCtr := 0
  pending := []

/-- Change the part `hif` alone. -/
def State.onHif (s : State) (f : Hif → Hif) : State := { s with hif := f s.hif }

/-- Change the part `mb` alone. -/
def State.onMb (s : State) (f : Mb → Mb) : State := { s with mb := f s.mb }

/-- Change the part `sys` alone. -/
def State.onSys (s : State) (f : Sys → Sys) : State := { s with sys := f s.sys }

/-- Change the part `time` alone. -/
def State.onTime (s : State) (f : Time → Time) : State := { s with time := f s.time }

/-- Change the part `kettle` alone. -/
def State.onKettle (s : State) (f : Kettle → Kettle) : State := { s with kettle := f s.kettle }

/-- Change the part `root` alone. -/
def State.onRoot (s : State) (f : Root → Root) : State := { s with root := f s.root }

/-- Change the part `meas` alone. -/
def State.onMeas (s : State) (f : MeasU → MeasU) : State := { s with meas := f s.meas }

/-- Change the part `ref` alone. -/
def State.onRef (s : State) (f : RefU → RefU) : State := { s with ref := f s.ref }

/-- Change the part `loop` alone. -/
def State.onLoop (s : State) (f : LoopU → LoopU) : State := { s with loop := f s.loop }

/-- Change the part `out` alone. -/
def State.onOut (s : State) (f : Out → Out) : State := { s with out := f s.out }

/-- Change the part `ptp` alone. -/
def State.onPtp (s : State) (f : Ptp → Ptp) : State := { s with ptp := f s.ptp }

/-- Change the part `gnss` alone. -/
def State.onGnss (s : State) (f : Gnss → Gnss) : State := { s with gnss := f s.gnss }

/-- Change the part `pair` alone. -/
def State.onPair (s : State) (f : Pair → Pair) : State := { s with pair := f s.pair }

/-- Change the part `flt` alone. -/
def State.onFlt (s : State) (f : Flt → Flt) : State := { s with flt := f s.flt }

/-- Change the part `nvs` alone. -/
def State.onNvs (s : State) (f : Nvs → Nvs) : State := { s with nvs := f s.nvs }

/-- Change the part `arc` alone. -/
def State.onArc (s : State) (f : Arc → Arc) : State := { s with arc := f s.arc }

/-- Change the part `age` alone. -/
def State.onAge (s : State) (f : Age → Age) : State := { s with age := f s.age }

/-- Change the part `store` alone. -/
def State.onStore (s : State) (f : FwStore → FwStore) : State := { s with store := f s.store }

/-- Why a step stops with a fault. No meaning of this model raises one: the spec gives every row an effect. -/
inductive Fault where
  /-- Raised by no meaning; a block that had stopped would answer it (safe). -/
  | halted
deriving DecidableEq, Repr

/-- Why a step refuses a command. -/
inductive Refusal where
  /-- Answered by an arm of exec whose command has no meaning yet, by its mnemonic (safe). -/
  | notModelled (mnemonic : String)
deriving DecidableEq, Repr

end Sys2Proof.Machine
end

