-- ==== Sys2Proof/Machine/Ops.lean ====
section
/-!
DEFINITION. The named operations over State that every family uses: reading and writing one unit of a group, the
passage of time, the Chime, the event log, statistics counters, free values, responses of the mailbox, module-state
changes, byte memories.
-/

namespace Sys2Proof.Machine

/-- What a meaning answers. -/
abbrev Res := Host.Outcome State Fault Refusal

/-! ### Units of a group -/

/-- Unit `i` of a group. -/
def vget {α : Type} {n : Nat} (v : Vector α n) (i : Fin n) : α := v[i.val]

/-- The group with unit `i` changed by `f`. -/
def vmod {α : Type} {n : Nat} (v : Vector α n) (i : Fin n) (f : α → α) : Vector α n := v.set i.val (f v[i.val])

/-- The group with every unit changed by `f`. -/
def vmap {α β : Type} {n : Nat} (v : Vector α n) (f : α → β) : Vector β n := ⟨⟨v.toArray.toList.map f⟩, by simp⟩

/-- The same, with the unit's number. -/
def vmapIdx {α β : Type} {n : Nat} (v : Vector α n) (f : Nat → α → β) : Vector β n := ⟨⟨v.toArray.toList.mapIdx f⟩, by simp⟩

/-- Change DPLL `d`. -/
def State.dpllMod (s : State) (d : Fin 8) (f : Dpll → Dpll) : State := s.onLoop fun l => { l with dplls := vmod l.dplls d f }

/-- DPLL `d`. -/
def State.dpll (s : State) (d : Fin 8) : Dpll := vget s.loop.dplls d

/-- Channel `c`. -/
def State.chan (s : State) (c : Fin 66) : Chan := vget s.meas.chans c

/-- Change channel `c`. -/
def State.chanMod (s : State) (c : Fin 66) (f : Chan → Chan) : State := s.onMeas fun m => { m with chans := vmod m.chans c f }

/-- Candidate `r`. -/
def State.cand (s : State) (r : Fin 66) : Cand := vget s.ref.cands r

/-- Change candidate `r`. -/
def State.candMod (s : State) (r : Fin 66) (f : Cand → Cand) : State := s.onRef fun m => { m with cands := vmod m.cands r f }

/-- Domain `d`. -/
def State.dom (s : State) (d : Fin 8) : Domain := vget s.out.doms d

/-- Change domain `d`. -/
def State.domMod (s : State) (d : Fin 8) (f : Domain → Domain) : State := s.onOut fun o => { o with doms := vmod o.doms d f }

/-- CKOUT output `k`. -/
def State.ck (s : State) (k : Fin 24) : Ckout := vget s.out.ck k

/-- Change CKOUT output `k`. -/
def State.ckMod (s : State) (k : Fin 24) (f : Ckout → Ckout) : State := s.onOut fun o => { o with ck := vmod o.ck k f }

/-- PULSE output `p`. -/
def State.pl (s : State) (p : Fin 16) : Pulse := vget s.out.pl p

/-- Change PULSE output `p`. -/
def State.plMod (s : State) (p : Fin 16) (f : Pulse → Pulse) : State := s.onOut fun o => { o with pl := vmod o.pl p f }

/-- Lane `l`. -/
def State.lane (s : State) (l : Fin 48) : Lane := vget s.ptp.lanes l

/-- Change lane `l`. -/
def State.laneMod (s : State) (l : Fin 48) (f : Lane → Lane) : State := s.onPtp fun p => { p with lanes := vmod p.lanes l f }

/-- Tag `i` of the mailbox. -/
def State.tag (s : State) (i : Fin 48) : Tag := vget s.mb.tags i

/-- Change tag `i`. -/
def State.tagMod (s : State) (i : Fin 48) (f : Tag → Tag) : State := s.onMb fun m => { m with tags := vmod m.tags i f }

/-- Port `p`: 0 SPI, 1 service port (R36). -/
def State.port (s : State) (p : Fin 2) : Port := vget s.hif.ports p

/-- Change port `p`. -/
def State.portMod (s : State) (p : Fin 2) (f : Port → Port) : State := s.onHif fun h => { h with ports := vmod h.ports p f }

/-- Indirect pair `n`. -/
def State.ind (s : State) (n : Fin 4) : Ind := vget s.hif.ind n

/-- Change indirect pair `n`. -/
def State.indMod (s : State) (n : Fin 4) (f : Ind → Ind) : State := s.onHif fun h => { h with ind := vmod h.ind n f }

/-- Run `f` over all indices of a group, lowest first. -/
def forFin (n : Nat) (f : Fin n → State → State) (s : State) : State := (List.finRange n).foldl (fun a i => f i a) s

/-! ### Formats (R3, R4, R118, R122) -/

/-- Lower bound, value, upper bound. -/
def clampI (lo hi v : Int) : Int := if v < lo then lo else if hi < v then hi else v

/-- Two's complement pattern of `v` in `n` bits (R4). -/
def twos (n : Nat) (v : Int) : Nat := (v % ((2 : Int) ^ n)).toNat

/-- The signed value of an `n`-bit pattern (R4). -/
def signedOf (n : Nat) (u : Nat) : Int := if 2 * u < 2 ^ n then (u : Int) else (u : Int) - (2 : Int) ^ n

/-- Saturation to a signed 64-bit value (R123). -/
def sat64 (v : Int) : Int := clampI (-(2 : Int) ^ 63) ((2 : Int) ^ 63 - 1) v

/-- Saturation to an unsigned field of `n` bits. -/
def satU (n : Nat) (v : Nat) : Nat := min v (2 ^ n - 1)

/-- Saturation to a signed field of `n` bits. -/
def satS (n : Nat) (v : Int) : Int := clampI (-(2 : Int) ^ (n - 1)) ((2 : Int) ^ (n - 1) - 1) v

/-- A word from a number, modulo 2^32. -/
def wd (n : Nat) : Word := BitVec.ofNat 32 n

/-- Two words of a 64-bit pattern, most significant first (R3). -/
def w64 (n : Nat) : List Word := [wd (n / 2 ^ 32), wd n]

/-- Two words of a signed 64-bit value, saturating (R4, R123). -/
def s64 (v : Int) : List Word := w64 (twos 64 (sat64 v))

/-- Seconds of a reading in 2^-16 ns (R118). -/
def secOf (r : Nat) : Nat := r / secU

/-- The 96-bit pattern of a reading: SECONDS, NS, FRAC (R118). -/
def pat96 (r : Nat) : Nat := (r / secU % 2 ^ 48) * 2 ^ 48 + (r % secU / nsU) * 2 ^ 16 + r % nsU

/-- Three words of a Metronome time, most significant first (R118). -/
def time96 (r : Nat) : List Word := [wd (pat96 r / 2 ^ 64), wd (pat96 r / 2 ^ 32), wd (pat96 r)]

/-- The 96-bit pattern three words carry. -/
def patOf3 (a b c : Word) : Nat := a.toNat * 2 ^ 64 + b.toNat * 2 ^ 32 + c.toNat

/-- NS field of a 96-bit pattern. -/
def nsOfPat (p : Nat) : Nat := p / 2 ^ 16 % 2 ^ 32

/-- A pattern whose NS is 1,000,000,000 or more is not a Metronome time (R118). -/
def patOk (p : Nat) : Bool := decide (nsOfPat p < 1000000000)

/-- The reading a 96-bit pattern stands for, in 2^-16 ns. -/
def readingOfPat (p : Nat) : Nat := (p / 2 ^ 48) * secU + nsOfPat p * nsU + p % 2 ^ 16

/-- Interval from reading `a` to reading `b` without saturation (R123). -/
def ivl (a b : Nat) : Int := (b : Int) - (a : Int)

/-- Nearest integer to `a / b`, halves away from zero (log 16). -/
def rdiv (a : Int) (b : Nat) : Int :=
  if b = 0 then 0
  else if 0 ≤ a then (2 * a + b) / (2 * b) else -((2 * (-a) + b) / (2 * b))

/-- Bits of an integer square root, from bit `b` down. -/
def isqrtGo (n : Nat) : Nat → Nat → Nat
  | 0, r => r
  | b + 1, r => isqrtGo n b (if (r + 2 ^ b) * (r + 2 ^ b) ≤ n then r + 2 ^ b else r)

/-- Integer square root of a number below 2^256, rounded down (log 16). -/
def isqrt (n : Nat) : Nat := isqrtGo n 128 0

/-- Units of 2^-16 ns to picoseconds, rounded down in size. -/
def toPs (v : Nat) : Nat := v * 1000 / 65536

/-- Picoseconds to 2^-16 ns, rounded to nearest. -/
def ofPs (v : Int) : Int := rdiv (v * 65536) 1000

/-! ### Time (R18, log 1, log 6) -/

/-- Kettle time since t0 of the last step, 2^-16 ns. -/
def State.now (s : State) : Nat := s.time.now

/-- The Metronome reading in 2^-16 ns, between ticks interpolated (R18, R19). -/
def State.mt (s : State) : Nat := s.time.metro / accU

/-- TIME_VALID: set under R120 and not invalid under R20. -/
def State.timeValid (s : State) : Bool := s.time.valid && !s.time.invalid

/-- The Metronome second in progress. -/
def State.msec (s : State) : Nat := secOf s.mt

/-- How far a build-out has fallen after `dt`, in 2^-16 ns, and the remainder in 10^-10 of it: SLOPE_LIMIT in 0.1 ns/s
(R244), REC_SLEW in 0.1 us/s while SLEWING (R285). -/
def Dpll.steerBy (dt : Nat) (d : Dpll) : Nat × Nat :=
  let x := dt * (if d.slewing then 1000 * d.recSlew else d.slopeLimit) + d.steerRem
  (x / 10 ^ 10, x % 10 ^ 10)

/-- The build-out after it fell by `v` toward 0 (R244). -/
def towardZero (b : Int) (v : Nat) : Int := if 0 ≤ b then max 0 (b - v) else min 0 (b + v)

/-- A steered build-out falls with time from the moment its loop closes; a new switch stops it where it stands (R244,
R246, R235). -/
def Dpll.steer (dt : Nat) (d : Dpll) : Dpll :=
  if (d.steering || d.slewing) && (decide (d.sw = .none) || decide (d.sw = .settle)) then
    { d with buildOut := towardZero d.buildOut (d.steerBy dt).1, steerRem := (d.steerBy dt).2 }
  else d

/-- A second counts for the holdover average while LOCKED, not bridging and not in a switch (R271). -/
def Dpll.counts (d : Dpll) : Bool := decide (d.dstate = .locked) && !d.bridging && decide (d.sw = .none)

/-- One CLK_AON tick of Kettle time, 50 ns (R18). -/
def tickU : Nat := 50 * nsU

/-- How far a count moves from Kettle instant `a` to `b`, 2^-80 ns: the tick interval in progress at `a` keeps the
increment fixed at its start, by control value `c0`; the ticks after it take `c` (R18, R144). -/
def tickMove (a b : Nat) (c0 c : Int) : Int :=
  let m := min b ((a / tickU + 1) * tickU)
  (m - a : Nat) * ((accU : Int) + c0) + (b - m : Nat) * ((accU : Int) + c)

/-- The control value whose increment is fixed for the tick interval that instant `b` lies in, coming from `a` (R144). -/
def tickC (a b : Nat) (c0 c : Int) : Int := if a / tickU = b / tickU ∨ b ≤ a then c0 else c

/-- A DPLL's domain time moves with (1 + c) (R258, R305), its steered build-out falls (R244), the dwell of its schedule
step grows while it follows a reference (R264), and so do the sums of the present second (R271). -/
def Dpll.pass (a b : Nat) (d : Dpll) : Dpll :=
  let dt := b - a
  { d.steer dt with dwell := if d.cur.isSome then d.dwell + dt else d.dwell, domTime := d.domTime + tickMove a b d.cTick d.c,
                    cTick := tickC a b d.cTick d.c, secC := d.secC + dt * d.c,
                    secAll := d.secAll + dt, secT := if d.counts then d.secT + dt else d.secT }

/-- The Metronome adds the tick's period times (1 + c of DPLL0) at each tick; between ticks a reading interpolates
(R18). -/
def metroAfter (m a b : Nat) (d : Dpll) : Nat := m + (tickMove a b d.cTick d.c).toNat

/-- Interval from the nearest alignment point of the rate n/d to reading `x`, in (-P/2, P/2], rounded down (R131). -/
def phaseAt (x : Int) (n d : Nat) : Int :=
  let r := (x * n) % ((d : Int) * secU)
  if 2 * r ≤ (d : Int) * secU then r / n else (r - (d : Int) * secU) / n

/-- A sample against the Metronome as it would have been after a step of `dv`; a rate candidate's phase wraps. -/
def Sample.shift (dv : Int) (n d : Nat) (x : Sample) : Sample :=
  { at_ := ((x.at_ : Int) + dv).toNat, ph := if n = 0 ∨ d = 0 then x.ph + dv else phaseAt (x.ph + dv) n d }

/-- The step is removed from a candidate's history at its exact size (R203). -/
def Cand.stepped (dv : Int) (r : Nat) (c : Cand) : Cand :=
  let n := if r < 16 then c.num else 0
  let f := Sample.shift dv n c.den
  { c with hist := c.hist.map f, outRun := c.outRun.map f, last64 := c.last64.map f }

/-- The history of a candidate whose phases are taken against a count of its own: only the Metronome readings of its
samples move (R387). -/
def Cand.moved (dv : Int) (c : Cand) : Cand :=
  let f := fun x : Sample => { x with at_ := ((x.at_ : Int) + dv).toNat }
  { c with hist := c.hist.map f, outRun := c.outRun.map f, last64 := c.last64.map f }

/-- Every history after the Metronome moved by `dv` (R203). -/
def State.histStep (dv : Int) (s : State) : State :=
  s.onRef fun r =>
    { r with cands := vmapIdx r.cands fun i c => if i = 64 ∧ s.gnss.countBase.isSome then c.moved dv else c.stepped dv i }

/-- The movement of the Metronome by steering is known exactly and leaves every history as a step does (R203, R236;
log 24). -/
def State.steered (dv : Int) (s : State) : State := if dv = 0 then s else s.histStep dv

/-- Let time pass up to Kettle instant `t`; an instant already past changes nothing (log 1). Without the Kettle
nothing is clocked on (R20). -/
def State.advance (t : Nat) (s : State) : State :=
  let a := s.time.now
  let t := max a t
  if s.kettle.lost then s.onTime fun x => { x with now := t }
  else
    let b := (vget s.loop.dplls 0).buildOut
    let s := (s.onTime fun x => { x with now := t, metro := metroAfter x.metro a t (vget s.loop.dplls 0) }).onLoop
      fun l => { l with dplls := vmap l.dplls (Dpll.pass a t) }
    s.steered ((vget s.loop.dplls 0).buildOut - b)

/-- `span` of Kettle time has passed since `from0`. -/
def State.past (s : State) (from0 span : Nat) : Bool := decide (from0 + span ≤ s.now)

/-- The present cycle still brings the loss of candidate `r`: the event waits in the queue with this instant (R233, R288;
log 18). -/
def State.losing (s : State) (r : Fin 66) : Bool :=
  s.pending.any fun i => match i with
    | .activityLoss t c => decide (c = r ∧ t ≤ s.now)
    | .blockLockLost t l => decide (r.val = 16 + l.val ∧ t ≤ s.now)
    | .partnerLoss t => decide (r.val = 65 ∧ t ≤ s.now)
    | _ => false

/-- The present cycle still brings the end of MEASURE of DPLL `d` (R288; log 18). -/
def State.measureEnding (s : State) (d : Fin 8) : Bool :=
  s.pending.any fun i => match i with | .measureEnd t e => decide (e = d ∧ t ≤ s.now) | _ => false

/-- The present cycle still brings a clearing of KETTLE_WARM (R288; log 18). -/
def State.chilling (s : State) : Bool :=
  s.pending.any fun i => match i with
    | .kettleOven t => decide (t ≤ s.now)
    | .vddOvenFall t => decide (t ≤ s.now)
    | _ => false

/-- The derived clocks run from the fallback ring, or stamps are still INVALID after a loss of the root: before the first
lock as well as after a loss (R23, R24, R164). -/
def State.ringed (s : State) : Bool := s.root.onRing || s.root.inLoss || s.root.invalidSpan

/-! ### Free values (log 2) -/

/-- The number of the next free value, and the state that has drawn it. -/
def State.draw (s : State) : Nat × State := (s.freeCtr, { s with freeCtr := s.freeCtr + 1 })

/-! ### Chime, counters, event log -/

/-- What hardware has done to the shared registers at this instant (R84, log 18). -/
def State.cyc (s : State) : Cyc := if s.hif.cyc.at_ = s.now then s.hif.cyc else { Cyc.init with at_ := s.now }

/-- An event source sets its CHIME_STATUS bit (R78). -/
def State.chime (s : State) (b : Nat) : State :=
  s.onHif fun h => { h with chimeStatus := h.chimeStatus ||| BitVec.ofNat 18 (2 ^ b)
                            cyc := { s.cyc with chime := s.cyc.chime ||| BitVec.ofNat 18 (2 ^ b) } }

/-- Set HIF_ERR bits (R54). -/
def State.hifErr (s : State) (b : Nat) : State :=
  s.onHif fun h => { h with err := h.err ||| BitVec.ofNat 8 (2 ^ b), cyc := { s.cyc with err := s.cyc.err ||| BitVec.ofNat 8 (2 ^ b) } }

/-- The count of a file of counters; one that is not listed is 0. -/
def cntGet : List (Nat × Nat) → Nat → Nat
  | [], _ => 0
  | (k, n) :: r, i => if k = i then n else cntGet r i

/-- The file with counter `i` listed at `v`, in order. -/
def cntPut : List (Nat × Nat) → Nat → Nat → List (Nat × Nat)
  | [], i, v => [(i, v)]
  | (k, n) :: r, i, v => if k = i then (i, v) :: r else if i < k then (i, v) :: (k, n) :: r else (k, n) :: cntPut r i v

/-- The file with counter `i` at `v`; a zero count is not listed. -/
def cntSet (l : List (Nat × Nat)) (i v : Nat) : List (Nat × Nat) :=
  if v = 0 then l.filter fun p => decide (p.1 ≠ i) else cntPut l i v

/-- The limit of a 48-bit statistics counter (R175). -/
def ctrMax : Nat := 2 ^ 48 - 1

/-- Statistics counter `i` (R65). -/
def State.ctr (s : State) (i : Nat) : Nat := cntGet s.ctrs i

/-- Add `n` to statistics counter `i`, which stops at its limit (R175). -/
def State.count (s : State) (i : Nat) (n : Nat := 1) : State :=
  { s with ctrs := cntSet s.ctrs i (min ctrMax (s.ctr i + n)) }

/-- At most this many entries are written in a Metronome second (R477). -/
def logPerSecond : Nat := 4096

/-- Entries the event log holds (R477). -/
def logSize : Nat := 65536

/-- The archive with one more log entry; the ring overwrites its oldest (R477). -/
def Arc.push (a : Arc) (e : LogEnt) : Arc :=
  { a with log := (a.log ++ [e]).drop (a.log.length + 1 - logSize)
           logSeq := (a.logSeq + 1) % 2 ^ 32
           logWraps := if a.logSeq % logSize = 0 && a.log.length ≥ logSize then satU 32 (a.logWraps + 1) else a.logWraps }

/-- Entries written so far in Metronome second `sec` (R477). -/
def Arc.used (a : Arc) (sec : Nat) : Nat := if a.logSecond = sec then a.logCount else 0

/-- Second `sec` has taken all its entries (R477). -/
def Arc.full (a : Arc) (sec : Nat) : Bool := decide (logPerSecond ≤ a.used sec)

/-- The archive with an entry of second `sec` (R477). -/
def Arc.enter (a : Arc) (sec : Nat) (e : LogEnt) : Arc := { a.push e with logSecond := sec, logCount := a.used sec + 1 }

/-- Write an event-log entry, or drop it beyond 4,096 in one second (R477, R498). -/
def State.log (s : State) (group event unit : Nat) (data : List Word) : State :=
  if s.arc.full s.msec then s.count 0x1901
  else
    (s.onArc fun a =>
      a.enter s.msec { LogEnt.init with group := group, event := event, unit := unit, seq := a.logSeq, at_ := s.mt,
                                        valid := s.timeValid, data := data }).count 0x1900

/-- A Roll task has completed: it is not late (R513). -/
def State.rollDone (s : State) (k : Fin 13) : State :=
  s.onAge fun g => { g with late := g.late &&& ~~~ BitVec.ofNat 13 (2 ^ k.val), taskAt := vmod g.taskAt k fun _ => s.now }

/-- No NVS write takes place before the boot's FW_READY; a processor restart bars none (R528). -/
def State.nvsBarred (s : State) : Bool := !s.hif.fwReady && s.sys.restartFrom.isNone

/-- Roll runs: the firmware is up, not restarting, and no loader (R450, R517, R532). -/
def State.rolls (s : State) : Bool := s.hif.fwReady && !s.sys.loader

/-! ### Module state (R9) -/

/-- The code of a module state (R53). -/
def ModState.code : ModState → Nat
  | .cold => 0 | .acquire => 1 | .locked => 2 | .holdover => 3 | .recovery => 4 | .test => 5 | .faultHold => 6

/-- The states in which outputs are slewed into alignment (R10, R11). -/
def ModState.slews : ModState → Bool
  | .cold => true | .acquire => true | .recovery => true | .test => true
  | .locked => false | .holdover => false | .faultHold => false

/-- A build-out exceeds STEP_THR (R245, R280). -/
def Dpll.beyond (d : Dpll) (o : Int) : Bool := decide (d.swThr * 65536 < o.natAbs * 1000)

/-- On entering RECOVERY a pending step is slewed; on leaving it a slew stops: a rest beyond STEP_THR is held, a smaller
one steered (R281, R285). -/
def Dpll.onState (m old : ModState) (d : Dpll) : Dpll :=
  if m = .recovery then (if d.stepPending then { d with stepPending := false, slewing := true, steerRem := 0 } else d)
  else if old = .recovery && d.slewing then
    (if d.beyond d.buildOut then { d with slewing := false, stepPending := true }
     else { d with slewing := false, steering := decide (d.buildOut ≠ 0), steerRem := 0 })
  else d

/-- TIME_STEP_PENDING that sets on leaving RECOVERY counts (R296). -/
def State.countPended (old : LoopU) (s : State) : State :=
  forFin 8 (fun d s => if (vget s.loop.dplls d).stepPending && !(vget old.dplls d).stepPending then s.count (0x0600 + 16 * d.val + 2) else s) s

/-- Slews stop where they stand on entering LOCKED or HOLDOVER (R323). -/
def Out.stopSlews (o : Out) : Out := { o with pl := vmap o.pl fun p => { p with slewing := false, slewReq := false } }

/-- A change of module state: logged, Chime STATE (R9, R78, R478). A state that does not slew stops every slew where it
stands (R11, R323). Entering a slewing state waits for its first
second boundary (R323); RECOVERY begins and ends the slews of the DPLLs (R285). -/
def State.toState (s : State) (m : ModState) : State :=
  if s.sys.mstate = m then s
  else
    let old := s.sys.mstate
    let s := s.onSys fun y => { y with mstate := m, since := s.now }
    let s := if m.slews && !old.slews then s.onOut fun o => { o with slewFrom := false } else s
    let s := if m.slews then s else s.onOut Out.stopSlews
    let l := s.loop
    let s := (s.onLoop fun l => { l with dplls := vmap l.dplls (Dpll.onState m old) }).countPended l
    (s.log 0x01 0x01 0 [wd (old.code * 256 + m.code)]).chime 5

/-! ### Mailbox responses (R98, R102, R103) -/

/-- Status codes (R103). -/
abbrev stOk : BitVec 7 := 0x00
abbrev stBadOpcode : BitVec 7 := 0x02
abbrev stBadLength : BitVec 7 := 0x03
abbrev stBadArg : BitVec 7 := 0x04
abbrev stBusy : BitVec 7 := 0x05
abbrev stNotPermitted : BitVec 7 := 0x06
abbrev stProtected : BitVec 7 := 0x07
abbrev stAborted : BitVec 7 := 0x08
abbrev stTimeout : BitVec 7 := 0x09
abbrev stWrongState : BitVec 7 := 0x0A
abbrev stNotReady : BitVec 7 := 0x0B
abbrev stFatalHold : BitVec 7 := 0x0C
abbrev stTagInUse : BitVec 7 := 0x0D

/-- A failure: its status and the fields of its detail word (R102). -/
structure Fail where
  status : BitVec 7
  word : Nat := 0xFF
  bit : Nat := 0
  detail : Nat := 0
deriving DecidableEq, Repr

/-- The detail word (R102). -/
def Fail.data (f : Fail) : Word := wd (f.word * 2 ^ 24 + f.bit * 2 ^ 16 + f.detail)

/-- The response of a tag becomes held (R85, R100). -/
def State.hold (s : State) (i : Fin 48) (status : BitVec 7) (staged : Bool) (data : List Word) : State :=
  s.tagMod i fun t => { t with st := .held, deferred := false, status := status, staged := staged, reads := 0,
                               data := data, note := 0 }

/-- The response OK with `data` becomes held (R98). -/
def State.holdOk (s : State) (i : Fin 48) (data : List Word) : State := s.hold i stOk false data

/-- The command under a tag was accepted as staged: it is past its acceptance and its header carries STAGED (R98). -/
def Tag.acceptedStaged (t : Tag) : Bool := decide (t.st ≠ .posted) && (t.win.headD 0).getLsbD 9

/-- An error response becomes held: length 1, the detail word; STAGED of a command that had been accepted so (R98,
R102). -/
def State.holdFail (s : State) (i : Fin 48) (f : Fail) : State := s.hold i f.status (s.tag i).acceptedStaged [f.data]

/-! ### Byte memories (NVS, SRAM) -/

/-- A byte of a memory; an unlisted address reads 0 (log 7). -/
def memGet : List Host.Cell → Nat → BitVec 8
  | [], _ => 0
  | (k, b) :: r, a => if k = a then b else if a < k then 0 else memGet r a

/-- The memory with byte `a` at `b`; a zero byte is not listed, so equal memories are equal lists. -/
def memSet : List Host.Cell → Nat → BitVec 8 → List Host.Cell
  | [], a, b => if b = 0 then [] else [(a, b)]
  | (k, c) :: r, a, b =>
    if k = a then (if b = 0 then r else (a, b) :: r)
    else if a < k then (if b = 0 then (k, c) :: r else (a, b) :: (k, c) :: r)
    else (k, c) :: memSet r a b

/-- Every listed address lies above `lo`, addresses rise, and no listed byte is 0. -/
def memAbove : Option Nat → List Host.Cell → Bool
  | _, [] => true
  | lo, (k, b) :: r => (match lo with | none => true | some l => decide (l < k)) && decide (b ≠ 0) && memAbove (some k) r

/-- The canonical form of a byte memory. -/
def Mem.wf (m : List Host.Cell) : Bool := memAbove none m

/-- Consecutive bytes written from `a` up. -/
def memPuts (m : List Host.Cell) (a : Nat) : List (BitVec 8) → List Host.Cell
  | [] => m
  | b :: r => memPuts (memSet m a b) (a + 1) r

/-- `n` bytes from `a` up. -/
def memGets (m : List Host.Cell) (a n : Nat) : List (BitVec 8) := (List.range n).map fun i => memGet m (a + i)

/-- Four bytes as a word, first byte most significant (R71). -/
def wordOf4 (a b c d : BitVec 8) : Word := a ++ b ++ c ++ d

/-- The word of bytes 4a to 4a + 3 (R71). -/
def memWord (m : List Host.Cell) (a : Nat) : Word :=
  wordOf4 (memGet m (4 * a)) (memGet m (4 * a + 1)) (memGet m (4 * a + 2)) (memGet m (4 * a + 3))

/-- The four bytes of a word, most significant first (R71). -/
def bytesOf (w : Word) : List (BitVec 8) :=
  [w.extractLsb' 24 8, w.extractLsb' 16 8, w.extractLsb' 8 8, w.extractLsb' 0 8]

/-- A word written at word address `a`, bytes in the order of R71. -/
def memPutWord (m : List Host.Cell) (a : Nat) (w : Word) : List Host.Cell := memPuts m (4 * a) (bytesOf w)

/-- Words as bytes, most significant first (R3). -/
def bytesOfWords (l : List Word) : List (BitVec 8) := l.flatMap bytesOf

/-- Bytes as words, the last word padded with zero bytes. -/
def wordsOfBytes : List (BitVec 8) → List Word
  | [] => []
  | [a] => [wordOf4 a 0 0 0]
  | [a, b] => [wordOf4 a b 0 0]
  | [a, b, c] => [wordOf4 a b c 0]
  | a :: b :: c :: d :: r => wordOf4 a b c d :: wordsOfBytes r

/-- One step of CRC-32C (reflected polynomial 0x82F63B78) over one bit. -/
def crcBit (c : BitVec 32) : BitVec 32 := if c.getLsbD 0 then (c >>> 1) ^^^ 0x82F63B78 else c >>> 1

/-- CRC-32C of one more byte. -/
def crcByte (c : BitVec 32) (b : BitVec 8) : BitVec 32 :=
  let c := c ^^^ b.setWidth 32
  crcBit (crcBit (crcBit (crcBit (crcBit (crcBit (crcBit (crcBit c)))))))

/-- CRC-32C of a list of bytes (R419, R482). -/
def crc32c (l : List (BitVec 8)) : BitVec 32 := ~~~ (l.foldl crcByte 0xFFFFFFFF)

end Sys2Proof.Machine
end

