-- ==== Sys2Proof/Machine/Flags.lean ====
section
/-!
DEFINITION. Conditions the module computes from its state: eligibility for DPLL0, alignment, the level sources of the
Chime, the quick-view registers, and what every step ends with: the module state follows DPLL0 (R9, R268) and the
level sources set their CHIME_STATUS bits (R78).
-/

namespace Sys2Proof.Machine

/-- A candidate is eligible for a DPLL: its USE bit is set and it is QUALIFIED (R226); on a standby, 65 whatever its USE
bit (R229). -/
def State.eligible (s : State) (d : Fin 8) (r : Fin 66) : Bool :=
  ((vget (s.dpll d).use r).use || (decide (r.val = 65) && decide (s.pair.role = .standby))) && decide ((s.cand r).st = .qualified)

/-- Some candidate is eligible for DPLL `d`. -/
def State.anyEligible (s : State) (d : Fin 8) : Bool := (List.finRange 66).any (s.eligible d)

/-- ALIGNED of a PULSE output: the phase is within 5 ps and no SYNC_IN reset holds (R317). -/
def Pulse.aligned (p : Pulse) : Bool := decide (p.phi.natAbs * 1000 ≤ 5 * 65536) && !p.syncRef

/-- Every enabled PULSE output is aligned (R323). -/
def Out.allAligned (o : Out) : Bool := o.pl.toList.all fun p => !p.enable || p.aligned

/-- GONG_N asserted (R448). -/
def State.gong (s : State) : Bool := s.flt.gong

/-- A spoofing or antenna alarm is active (R382, R395). -/
def State.gnssAlarm (s : State) : Bool := s.gnss.spoof || decide (s.gnss.ant = .antOpen) || decide (s.gnss.ant = .short)

/-- TIME_STEP_PENDING is set on some DPLL (R281). -/
def State.stepPending (s : State) : Bool := s.loop.dplls.toList.any (·.stepPending)

/-- A margin alarm of the ageing model is active (R512). -/
def State.ageAlarm (s : State) : Bool := s.age.items.toList.any (·.alarm)

/-- A response is held for some tag (R85). -/
def State.anyDone (s : State) : Bool := s.mb.tags.toList.any fun t => decide (t.st = .held)

/-- Some tag is free (R85). -/
def State.anyFree (s : State) : Bool := s.mb.tags.toList.any fun t => decide (t.st = .free)

/-- One bit of an 18-bit register. -/
def bit18 (b : Bool) (n : Nat) : BitVec 18 := if b then BitVec.ofNat 18 (2 ^ n) else 0

/-- CHIME_RAW: the present condition of the level sources (R78). -/
def State.chimeRaw (s : State) : BitVec 18 :=
  bit18 s.anyDone 0 ||| bit18 s.gong 4 ||| bit18 s.stepPending 8 ||| bit18 s.gnssAlarm 10 |||
  bit18 (!s.ptp.hostQ.isEmpty) 13 ||| bit18 s.ageAlarm 14 ||| bit18 (decide (s.hif.err ≠ 0)) 16

/-- Every level source whose condition holds sets its CHIME_STATUS bit (R78). -/
def State.latch (s : State) : State := s.onHif fun h => { h with chimeStatus := h.chimeStatus ||| s.chimeRaw }

/-- CHIME_N asserted (R78). -/
def State.chimeOut (s : State) : Bool := decide (s.hif.chimeStatus &&& s.hif.chimeEnable ≠ 0)

/-- DPLL0 counts as locked for leaving RECOVERY (R285, R323). -/
def State.recovered (s : State) : Bool :=
  decide ((s.dpll 0).dstate = .locked) && !(s.dpll 0).slewing && s.out.allAligned

/-- DPLL0 is in HOLDOVER by LOOP_FORCE_HOLDOVER (R268). -/
def State.hoForced (s : State) : Bool := decide ((s.dpll 0).dstate = .holdover) && decide ((s.dpll 0).hoCause = .forced)

/-- DPLL0 is in HOLDOVER for want of a reference and no candidate is eligible for it (R268). -/
def State.hoNoRef (s : State) : Bool :=
  decide ((s.dpll 0).dstate = .holdover) && decide ((s.dpll 0).hoCause = .noRef) && !s.anyEligible 0

/-- The state the module goes to from `m` as DPLL0 and the Kettle stand (R9, R268, R532, R537). RECOVERY with DPLL0 in
FREERUN stays (log 57). -/
def State.nextMode (s : State) (m : ModState) : ModState :=
  match m with
  | .cold => if s.kettle.warm && s.hif.fwReady && !s.sys.loader then .acquire else .cold
  | .acquire =>
    if s.hoForced then .holdover else if decide ((s.dpll 0).dstate = .locked) then .locked else .acquire
  | .locked => if s.hoForced || s.hoNoRef then .holdover else .locked
  | .holdover => if decide ((s.dpll 0).dstate = .locked) then .locked else .holdover
  | .recovery => if s.hoForced || s.hoNoRef then .holdover else if s.recovered then .locked else .recovery
  | .test => .test
  | .faultHold => .faultHold

/-- Slews may run: a slewing state whose first second boundary has come (R322, R323). -/
def State.slewOn (s : State) : Bool := s.sys.mstate.slews && s.out.slewFrom

/-- A PULSE output slews while slews may run, it is enabled, AUTO or OUT_SLEW asks for it, and its phase is beyond 5 ps
(R322). -/
def Pulse.judge (on : Bool) (p : Pulse) : Pulse :=
  let far := decide (5 * 65536 < p.phi.natAbs * 1000)
  { p with slewing := on && p.enable && (p.auto || p.slewReq) && far, slewReq := p.slewReq && p.enable && (!on || far) }

/-- A PULSE output is judged; under a strobe once, after its values (R322, R566). -/
def State.plJudge (s : State) (p : Pulse) : Pulse := if s.mb.applying then p else p.judge s.slewOn

/-- One change of module state, if one is due. Leaving a slewing state for LOCKED or HOLDOVER stops every slew (R323);
leaving RECOVERY for HOLDOVER discards the build-out with the reference (R285). -/
def State.settle1 (s : State) : State :=
  s.toState (s.nextMode s.sys.mstate)

/-- Changes at one edge follow one another: COLD to ACQUIRE to LOCKED or HOLDOVER (R268, R538). -/
def State.settle (s : State) : State := s.settle1.settle1.settle1

/-- The lane of a link candidate (R14). -/
def laneOf (r : Fin 66) : Option (Fin 48) := if h : 16 ≤ r.val ∧ r.val < 64 then some ⟨r.val - 16, by omega⟩ else none

/-- The parent of a port among its foreign masters (R349). -/
def Lane.parent (x : Lane) : Option Foreign := x.foreign.find? fun f => decide (f.id = x.parentId ∧ f.port = x.parentPort)

/-- timeTraceable and frequencyTraceable of a candidate (R134). -/
def State.refTrace (s : State) (r : Fin 66) : Bool × Bool :=
  if r.val = 64 then (true, true)
  else if r.val = 65 then (s.pair.snap.tTrace, s.pair.snap.fTrace)
  else match laneOf r with
    | some l => (match (s.lane l).parent with
      | some f => (decide (f.flags / 16 % 2 = 1), decide (f.flags / 32 % 2 = 1))
      | none => (false, false))
    | none => ((s.cand r).tTrace, (s.cand r).fTrace)

/-- Row 2 of R278: DPLL0 LOCKED to a time-traceable reference, no step pending. -/
def State.traceNow (s : State) : Bool :=
  decide (s.sys.mstate ≠ .faultHold) && s.timeValid && decide ((s.dpll 0).dstate = .locked) && !(s.dpll 0).stepPending &&
  (match (s.dpll 0).cur with | some r => (s.refTrace r).1 | none => false)

/-- Traceability is held from the first moment of row 2 until DPLL0 follows a reference without it or FAULT_HOLD
(R278). -/
def State.trace (s : State) : State :=
  if s.sys.mstate = .faultHold then s.onLoop fun l => { l with traceHeld := false }
  else match (s.dpll 0).cur with
    | some r =>
      let q := s.refTrace r
      if !q.1 then s.onLoop fun l => { l with traceHeld := false, fTraceHeld := q.2 }
      else if s.traceNow then s.onLoop fun l => { l with traceHeld := true, fTraceHeld := q.2 }
      else s.onLoop fun l => { l with fTraceHeld := q.2 }
    | none => s

/-- clockClass (R278). -/
def State.clockClass (s : State) : Nat :=
  if s.sys.mstate = .faultHold || !s.timeValid then 248
  else if s.traceNow then 6
  else if s.loop.traceHeld then (if (s.dpll 0).overBudget then 52 else 7)
  else 248

/-- What every step ends with. -/
def State.commit (s : State) : State := s.settle.trace.latch

/-- The outcome of a meaning. -/
def done (s : State) : Res := .next s.commit

/-- PRIV_FRAME aside, HIF_STATUS (R53). UPD_PENDING: a request is waiting. FREE_ANY reads 1 from reset on, since every tag
is FREE (R63, R85; log 57). -/
def State.hifStatus (s : State) (priv : Bool) : Word :=
  wd (s.hif.fwReady.toNat + s.hif.inRecall.toNat * 2 + (decide (s.hif.err ≠ 0)).toNat * 4 + s.chimeOut.toNat * 8 +
      s.gong.toNat * 16 + s.anyDone.toNat * 32 + s.anyFree.toNat * 64 + priv.toNat * 128 +
      (if s.hif.fwReady || s.sys.restartFrom.isSome then s.sys.mstate.code else 0) * 256 +
      (s.hif.pend.isSome || s.hif.queued.isSome).toNat * 2048)

/-- Set bits of a group of tags, tag 0 lowest. -/
def tagBits (s : State) (p : TagState → Bool) (lo n : Nat) : Nat :=
  (List.finRange 48).foldl
    (fun a i => if lo ≤ i.val ∧ i.val < lo + n ∧ p (s.tag i).st then a + 2 ^ (i.val - lo) else a) 0

/-- UPD_ARM (R57). -/
def State.updArm (s : State) : Word := wd (s.hif.armGroups.toNat * 4 + s.hif.armSecond.toNat * 65536)

/-- UPD_STATUS (R61). -/
def State.updStatus (s : State) : Word :=
  wd (s.hif.pend.isSome.toNat + s.hif.queued.isSome.toNat * 2 +
      (match s.hif.pend with | some r => r.atSecond.toNat | none => 0) * 4 +
      s.hif.applied.toNat * 8 + s.hif.overflow.toNat * 16 + s.hif.applyCount.toNat * 256)

/-- Fault classes as every field encodes them (R80). -/
def Cls.code : Cls → Nat
  | .none => 0 | .corrected => 1 | .contained => 2 | .fatal => 3

/-- Word 0 of a record, laid out as FLT_FIRST (R81, R458). -/
def Rec.head (r : Rec) : Word :=
  wd (r.source * 2 ^ 22 + r.cls.code * 2 ^ 20 + r.code * 2 ^ 12 + 2 ^ 11 + r.injected.toNat * 2 ^ 10 +
      r.transient.toNat * 2 ^ 9 + r.real.toNat * 2 ^ 8 + r.index)

/-- FLT_SUMMARY (R81). -/
def State.fltSummary (s : State) : Word :=
  wd (s.flt.recs.length * 2 ^ 16 + (match s.flt.recs.getLast? with | some r => r.index | none => 0) * 2 ^ 8 +
      s.flt.wrapped.toNat * 32 + (!s.flt.unobs.isEmpty).toNat * 16 + s.flt.gong.toNat * 8 +
      s.flt.fatAny.toNat * 4 + s.flt.conAny.toNat * 2 + s.flt.corAny.toNat)

/-- FW_CTL (R82). -/
def State.fwCtl (s : State) : Word :=
  wd (s.sys.activeB.toNat + s.sys.nextB.toNat * 2 + s.sys.fallback.toNat * 4 + s.sys.staged.toNat * 8)

/-- INJ_CTL (R82, R455). -/
def State.injCtl (s : State) : Word := wd (s.hif.injEnable.toNat + s.flt.injs.length % 256 * 256)

/-- NVS_RAW_CTL (R82). -/
def State.nvsRawCtl (s : State) : Word :=
  wd (s.hif.rawWrEn.toNat + s.sys.wp.toNat * 2 + s.nvs.recallDone.toNat * 4)

/-- TEST_CTL (R82). -/
def State.testCtl (s : State) : Word :=
  wd (s.sys.test.toNat + (decide (s.sys.mstate = .test)).toNat * 2)

/-- A wide-value sticky bit: the counter has reached its limit (R175). -/
def State.ctrSat (s : State) (i : Nat) : Bool := decide (s.ctr i = ctrMax)

end Sys2Proof.Machine
end

