-- ==== Sys2Proof/Machine/Operands.lean ====
section
/-!
DEFINITION. The operand forms of mailbox commands: argument words and their fields, defaults of words COUNT leaves
out, range checks with the detail word they answer, and the shape of responses.
-/

namespace Sys2Proof.Machine

/-- Bits [hi:lo] of a word (R2). -/
def fld (w : Word) (hi lo : Nat) : Nat := w.toNat / 2 ^ lo % 2 ^ (hi + 1 - lo)

/-- Bits [hi:lo] of a word as a signed value (R4). -/
def sfld (w : Word) (hi lo : Nat) : Int := signedOf (hi + 1 - lo) (fld w hi lo)

/-- Bit n of a word. -/
def wbit (w : Word) (n : Nat) : Bool := w.getLsbD n

/-- Argument words of a command (R87). -/
abbrev Args := List Word

/-- Argument word `i`, zero when COUNT leaves it out. -/
def arg (a : Args) (i : Nat) : Word := a.getD i 0

/-- COUNT covers word `i`. -/
def has (a : Args) (i : Nat) : Bool := decide (i < a.length)

/-- Field [hi:lo] of argument word `i`. -/
def af (a : Args) (i hi lo : Nat) : Nat := fld (arg a i) hi lo

/-- Signed field of argument word `i`. -/
def asf (a : Args) (i hi lo : Nat) : Int := sfld (arg a i) hi lo

/-- Bit `n` of argument word `i`. -/
def ab (a : Args) (i n : Nat) : Bool := wbit (arg a i) n

/-- Unsigned 64-bit argument in words i and i + 1 (R3). -/
def au64 (a : Args) (i : Nat) : Nat := (arg a i).toNat * 2 ^ 32 + (arg a (i + 1)).toNat

/-- Signed 64-bit argument in words i and i + 1 (R3, R4). -/
def as64 (a : Args) (i : Nat) : Int := signedOf 64 (au64 a i)

/-- Signed 32-bit argument word. -/
def as32 (a : Args) (i : Nat) : Int := signedOf 32 (arg a i).toNat

/-- 96-bit argument pattern in words i to i + 2 (R118). -/
def a96 (a : Args) (i : Nat) : Nat := patOf3 (arg a i) (arg a (i + 1)) (arg a (i + 2))

/-- The value of a field when COUNT covers its word, else its default or present value (R92, R102). -/
def dflt {α : Type} (a : Args) (i : Nat) (v d : α) : α := if has a i then v else d

/-- A list of checks in order: the first that fails decides (R92). -/
abbrev Checks := List (Bool × Fail)

/-- The first failing check. -/
def firstFail (l : Checks) : Option Fail := (l.find? fun p => p.1).map fun p => p.2

/-- BAD_ARG on the field of word `w` whose lowest bit is `b` (R102). -/
def badArg (w b : Nat) (d : Nat := 0) : Fail := { status := stBadArg, word := w, bit := b, detail := d }

/-- WRONG_STATE with its DETAIL. -/
def wrongState (d : Nat := 0) : Fail := { status := stWrongState, detail := d }

/-- BUSY_RESOURCE with its DETAIL. -/
def busyRes (d : Nat := 0) : Fail := { status := stBusy, detail := d }

/-- NOT_PERMITTED with its DETAIL. -/
def notPermitted (d : Nat := 0) : Fail := { status := stNotPermitted, detail := d }

/-- PROTECTED with its DETAIL. -/
def protectedF (d : Nat := 0) : Fail := { status := stProtected, detail := d }

/-- TIMEOUT with its DETAIL. -/
def timeoutF (d : Nat := 0) : Fail := { status := stTimeout, detail := d }

/-- Reserved bits [hi:lo] of word `i` must be 0 when COUNT covers it (R92). -/
def rsv (a : Args) (i hi lo : Nat) (d : Nat := 0) : Bool × Fail :=
  (has a i && decide (af a i hi lo ≠ 0), badArg i lo d)

/-- Field [hi:lo] of word `i` must lie in [mn, mx] when COUNT covers it (R92). -/
def rng (a : Args) (i hi lo mn mx : Nat) (d : Nat := 0) : Bool × Fail :=
  (has a i && !(decide (mn ≤ af a i hi lo) && decide (af a i hi lo ≤ mx)), badArg i lo d)

/-- Signed field in [mn, mx]. -/
def srng (a : Args) (i hi lo : Nat) (mn mx : Int) (d : Nat := 0) : Bool × Fail :=
  (has a i && !(decide (mn ≤ asf a i hi lo) && decide (asf a i hi lo ≤ mx)), badArg i lo d)

/-- Signed 64-bit value of words i, i + 1 in [mn, mx]; judged when COUNT covers both (R102). -/
def srng64 (a : Args) (i : Nat) (mn mx : Int) (d : Nat := 0) : Bool × Fail :=
  (has a (i + 1) && !(decide (mn ≤ as64 a i) && decide (as64 a i ≤ mx)), badArg i 0 d)

/-- A rate in words i (NUM) and i + 1 (DEN) has neither 0 (R124). -/
def rateOk (a : Args) (i : Nat) (d : Nat := 0) : Checks := [rng a i 31 0 1 (2 ^ 32 - 1) d, rng a (i + 1) 31 0 1 (2 ^ 32 - 1) d]

/-- A condition and the failure it gives. -/
def cond (b : Bool) (f : Fail) : Bool × Fail := (b, f)

/-- A word from fields (value, hi, lo), each cut to its width. -/
def pack (l : List (Nat × Nat × Nat)) : Word :=
  wd (l.foldl (fun acc p => acc + p.1 % 2 ^ (p.2.1 + 1 - p.2.2) * 2 ^ p.2.2) 0)

/-- A Bool as one bit at position n, for `pack`. -/
def pbit (b : Bool) (n : Nat) : Nat × Nat × Nat := (b.toNat, n, n)

/-- What a command's immediate part ends with. -/
inductive Reply where
  /-- OK with data words. -/
  | ok (data : List Word)
  /-- An error. -/
  | fail (f : Fail)
  /-- The command goes on in its deferred part (R94). -/
  | deferred
  /-- An immediate command waits for a unit within its immediate part; its group waits with it (R94). -/
  | wait
deriving DecidableEq, Repr

/-- OPCODE, TAG, STAGED, bit 8 and COUNT of a header (R87). -/
def hdrOpcode (h : Word) : Nat := fld h 31 16
def hdrTag (h : Word) : Nat := fld h 15 10
def hdrStaged (h : Word) : Bool := wbit h 9
def hdrBit8 (h : Word) : Bool := wbit h 8
def hdrCount (h : Word) : Nat := fld h 7 0

/-- Opcode and index entry of a command (R108): opcode, can be staged, privileged, deferred, permitted in FAULT_HOLD,
minimum COUNT. -/
structure CmdInfo where
  op : Nat
  s : Bool
  p : Bool
  d : Bool
  h : Bool
  min : Nat

/-- The opcode index (R108). -/
def Cmd.info : Cmd → CmdInfo
  | .sysIdentify => ⟨0x0100, false, false, false, true, 0⟩
  | .sysStatus => ⟨0x0101, false, false, false, true, 0⟩
  | .sysApply => ⟨0x0102, false, false, true, false, 0⟩
  | .sysResetBlock => ⟨0x0103, false, true, true, false, 1⟩
  | .sysFwStage => ⟨0x0104, false, true, false, true, 2⟩
  | .sysFwCommit => ⟨0x0105, false, true, true, true, 0⟩
  | .sysAbort => ⟨0x0106, false, false, false, true, 1⟩
  | .timeGet => ⟨0x0200, false, false, false, true, 0⟩
  | .timeSet => ⟨0x0201, true, false, false, false, 3⟩
  | .timeLeap => ⟨0x0202, true, false, false, false, 1⟩
  | .timeAlignQuery => ⟨0x0203, false, false, false, true, 2⟩
  | .measConfigCh => ⟨0x0300, true, false, false, false, 1⟩
  | .measArm => ⟨0x0301, false, false, false, false, 1⟩
  | .measRead => ⟨0x0302, false, false, false, true, 1⟩
  | .measInterval => ⟨0x0303, false, false, true, false, 2⟩
  | .measFreq => ⟨0x0304, false, false, true, false, 1⟩
  | .measCalStatus => ⟨0x0305, false, false, false, true, 0⟩
  | .refConfig => ⟨0x0400, true, false, false, false, 1⟩
  | .refLimits => ⟨0x0401, true, false, false, false, 1⟩
  | .refStatus => ⟨0x0402, false, false, false, true, 0⟩
  | .refSelect => ⟨0x0403, true, false, false, false, 1⟩
  | .refPriority => ⟨0x0404, true, false, false, false, 1⟩
  | .refWtr => ⟨0x0405, true, false, false, false, 1⟩
  | .loopConfig => ⟨0x0500, true, false, false, false, 1⟩
  | .loopBwSchedule => ⟨0x0501, true, false, false, false, 1⟩
  | .loopStatus => ⟨0x0502, false, false, false, true, 1⟩
  | .loopHoldoverConfig => ⟨0x0503, true, false, false, false, 1⟩
  | .loopForceHoldover => ⟨0x0504, false, false, false, false, 1⟩
  | .synConfig => ⟨0x0600, true, false, false, false, 1⟩
  | .synRampLoad => ⟨0x0601, true, false, false, false, 1⟩
  | .synRampRun => ⟨0x0602, true, false, false, false, 1⟩
  | .synBandTable => ⟨0x0603, false, false, false, true, 1⟩
  | .synRootStatus => ⟨0x0604, false, false, false, true, 0⟩
  | .outConfig => ⟨0x0700, true, false, false, false, 1⟩
  | .outPulseConfig => ⟨0x0701, true, false, false, false, 1⟩
  | .outRealign => ⟨0x0702, true, false, false, false, 1⟩
  | .outSlew => ⟨0x0703, false, false, false, false, 1⟩
  | .outSyncArm => ⟨0x0704, false, false, false, false, 1⟩
  | .outStatus => ⟨0x0705, false, false, false, true, 0⟩
  | .ptpPortConfig => ⟨0x0800, true, false, false, false, 1⟩
  | .ptpProfile => ⟨0x0801, true, false, false, false, 1⟩
  | .ptpPortStatus => ⟨0x0802, false, false, false, true, 1⟩
  | .ptpClientTable => ⟨0x0803, false, false, false, true, 1⟩
  | .ptpSecurity => ⟨0x0804, false, true, false, false, 1⟩
  | .ptpFrameTx => ⟨0x0805, false, false, false, false, 2⟩
  | .ptpFrameRx => ⟨0x0806, false, false, false, true, 0⟩
  | .ptpSynceConfig => ⟨0x0807, true, false, false, false, 1⟩
  | .gnssConfig => ⟨0x0900, true, false, false, false, 1⟩
  | .gnssStatus => ⟨0x0901, false, false, false, true, 0⟩
  | .gnssPosition => ⟨0x0902, false, false, false, true, 0⟩
  | .gnssCableDelay => ⟨0x0903, true, false, false, false, 2⟩
  | .gnssSnapshot => ⟨0x0904, false, false, true, false, 1⟩
  | .gnssSurvey => ⟨0x0905, false, false, true, false, 1⟩
  | .pairConfig => ⟨0x0A00, true, false, false, false, 1⟩
  | .pairStatus => ⟨0x0A01, false, false, false, true, 0⟩
  | .pairHandover => ⟨0x0A02, false, false, true, false, 0⟩
  | .fltRead => ⟨0x0B00, false, false, false, true, 1⟩
  | .fltInject => ⟨0x0B01, false, true, false, false, 1⟩
  | .fltReaction => ⟨0x0B02, false, true, false, false, 1⟩
  | .fltClear => ⟨0x0B03, false, false, false, true, 0⟩
  | .nvsRecordRead => ⟨0x0C00, false, false, false, true, 1⟩
  | .nvsRecordWrite => ⟨0x0C01, false, false, false, false, 2⟩
  | .nvsStatus => ⟨0x0C02, false, false, false, true, 0⟩
  | .arcQuery => ⟨0x0D00, false, false, false, true, 2⟩
  | .arcLogRead => ⟨0x0D01, false, false, false, true, 1⟩
  | .ageStatus => ⟨0x0E00, false, false, false, true, 0⟩
  | .ageMarginPlan => ⟨0x0E01, false, false, false, false, 0⟩
  | .agePolicy => ⟨0x0E02, false, true, false, false, 1⟩
  | .telSnapshot => ⟨0x0F00, false, false, false, true, 0⟩

/-- Every command of the index. -/
def Cmd.all : List Cmd :=
  [.sysIdentify, .sysStatus, .sysApply, .sysResetBlock, .sysFwStage, .sysFwCommit] ++
  [.sysAbort, .timeGet, .timeSet, .timeLeap, .timeAlignQuery, .measConfigCh] ++
  [.measArm, .measRead, .measInterval, .measFreq, .measCalStatus, .refConfig] ++
  [.refLimits, .refStatus, .refSelect, .refPriority, .refWtr, .loopConfig] ++
  [.loopBwSchedule, .loopStatus, .loopHoldoverConfig, .loopForceHoldover, .synConfig, .synRampLoad] ++
  [.synRampRun, .synBandTable, .synRootStatus, .outConfig, .outPulseConfig, .outRealign] ++
  [.outSlew, .outSyncArm, .outStatus, .ptpPortConfig, .ptpProfile, .ptpPortStatus] ++
  [.ptpClientTable, .ptpSecurity, .ptpFrameTx, .ptpFrameRx, .ptpSynceConfig, .gnssConfig] ++
  [.gnssStatus, .gnssPosition, .gnssCableDelay, .gnssSnapshot, .gnssSurvey, .pairConfig] ++
  [.pairStatus, .pairHandover, .fltRead, .fltInject, .fltReaction, .fltClear] ++
  [.nvsRecordRead, .nvsRecordWrite, .nvsStatus, .arcQuery, .arcLogRead, .ageStatus] ++
  [.ageMarginPlan, .agePolicy, .telSnapshot]

/-- The command of an opcode (R108). -/
def cmdOf (op : Nat) : Option Cmd := Cmd.all.find? fun c => c.info.op = op

/-- Group of a command: the high byte of its opcode (R57, R108). -/
def Cmd.group (c : Cmd) : Nat := c.info.op / 256

/-- Header of a tag's posted window. -/
def Tag.hdr (t : Tag) : Word := t.win.headD 0

/-- The command posted under a tag. -/
def Tag.cmd (t : Tag) : Option Cmd := cmdOf (hdrOpcode t.hdr)

/-- Its argument words: the first COUNT words after the header (R88). -/
def Tag.args (t : Tag) : Args := t.win.tail.take (hdrCount t.hdr)

/-- Group of the command posted under a tag. -/
def Tag.group (t : Tag) : Nat := hdrOpcode t.hdr / 256

/-- A command `c` is in flight under a tag other than `i`: POSTED, QUEUED or RUNNING (R85). -/
def State.inFlight (s : State) (c : Cmd) (i : Option (Fin 48)) : Bool :=
  (List.finRange 48).any fun k =>
    decide (some k ≠ i) && decide ((s.tag k).cmd = some c) &&
    (decide ((s.tag k).st = .posted) || decide ((s.tag k).st = .queued) || decide ((s.tag k).st = .running))

/-- A tag's command is in its immediate part, ready to execute as `c`. -/
def State.runs (s : State) (i : Fin 48) (c : Cmd) : Bool :=
  decide ((s.tag i).st = .running) && !(s.tag i).deferred && decide ((s.tag i).note = 0) && decide ((s.tag i).cmd = some c)

/-- Commands in which an argument word that COUNT omits leaves its fields as they are, so that words buffered for them
before stay buffered (R56, R251, R289, R327, R368, R400, R436). -/
def Cmd.keepsOmitted : Cmd → Bool
  | .refSelect => true | .loopConfig => true | .loopBwSchedule => true | .loopHoldoverConfig => true | .synConfig => true
  | .synRampRun => true | .outConfig => true | .outPulseConfig => true | .ptpPortConfig => true | .ptpProfile => true
  | .ptpSynceConfig => true | .gnssConfig => true | .pairConfig => true
  | _ => false

/-- The bits of word 0 that name the unit a staged command configures, as (hi, lo); none: one unit (R56). -/
def Cmd.unitBits : Cmd → Option (Nat × Nat)
  | .measConfigCh => some (5, 0) | .refConfig => some (6, 0) | .refLimits => some (6, 0) | .refWtr => some (6, 0)
  | .refSelect => some (2, 0) | .refPriority => some (2, 0) | .loopConfig => some (2, 0) | .loopBwSchedule => some (2, 0)
  | .loopHoldoverConfig => some (2, 0) | .synConfig => some (2, 0) | .synRampLoad => some (2, 0) | .synRampRun => some (2, 0)
  | .outConfig => some (4, 0) | .outPulseConfig => some (3, 0) | .ptpPortConfig => some (5, 0) | .ptpSynceConfig => some (5, 0)
  | _ => none

/-- The fields from `p` on, `n` of them, of a command that fills part of a table: REF_PRIORITY's list, the segments of
SYN_RAMP_LOAD (R254, R329). -/
def Cmd.span (c : Cmd) (a : Args) : Nat × Nat :=
  match c with
  | .refPriority => (af a 0 22 16, af a 0 14 8)
  | .synRampLoad => (af a 0 20 16, af a 0 12 8)
  | _ => (0, 0)

/-- The buffered command `y` gives the fields that a later staged one of command `c` gives (R56; log 9). A PTP_PROFILE that
took its profile's defaults stays beside a later one that does not carry word 3. -/
def Cmd.cover (c : Cmd) (a : Args) (y : Staged) : Bool :=
  decide (y.cmd = c) &&
  (match c.unitBits with | some (hi, lo) => decide (af y.args 0 hi lo = af a 0 hi lo) | none => true) &&
  decide ((c.span a).1 ≤ (c.span y.args).1) &&
  decide ((c.span y.args).1 + (c.span y.args).2 ≤ (c.span a).1 + (c.span a).2) &&
  !(decide (c = .ptpProfile) && ab y.args 0 24 && !ab a 0 24 && !has a 3)

/-- A staged command with the words of an earlier one of the same fields that its own COUNT does not reach (R56). WIDTH_HI
is 0 where WIDTH_LO is given without it (R334). -/
def Staged.fuse (x y : Staged) : Staged :=
  if !x.cmd.keepsOmitted then x
  else
    let rest := y.args.drop x.args.length
    let rest := if x.cmd = .outPulseConfig ∧ x.args.length = 4 then rest.take 1 ++ (rest.drop 1).map fun _ => 0
                else if x.cmd = .outPulseConfig ∧ x.args.length = 5 then rest.map fun _ => 0 else rest
    { x with args := x.args ++ rest }

/-- A staged command enters its group's shadow buffer. What it gives replaces what an earlier one of the same command and
unit gives; fields it does not reach stay buffered (R56). -/
def shadowPut (l : List Staged) (cover : Staged → Bool) (x : Staged) : List Staged :=
  l.filter (fun y => !cover y) ++ [(l.filter cover).foldl Staged.fuse x]

/-- The immediate part ends and the deferred part begins (R94); `note` is what it keeps. -/
def State.defer (s : State) (i : Fin 48) : State := s.tagMod i fun t => { t with deferred := true, busy := s.now }

/-- A command executes: its checks of orders 6 to 10 are judged again as the state stands (log 8); staged, its words
enter the shadow buffer (R96); else its body runs. -/
def runCmd (c : Cmd) (i : Fin 48) (checks : Bool → Args → State → Checks)
    (body : Fin 48 → Args → State → State × Reply) (s : State) : Res :=
  if s.runs i c then
    let a := (s.tag i).args
    let priv := (s.tag i).priv
    match firstFail (checks priv a s) with
    | some f => done (s.holdFail i f)
    | none =>
      if hdrStaged (s.tag i).hdr then
        done ((s.onMb fun m => { m with shadow := shadowPut m.shadow (c.cover a) { cmd := c, args := a } }).hold i stOk true [])
      else
        match body i a s with
        | (s', .ok d) => done (s'.holdOk i d)
        | (s', .fail f) => done (s'.holdFail i f)
        | (s', .deferred) => done (if (s'.tag i).st = .running then s'.defer i else s')
        | (s', .wait) => done (s'.tagMod i fun t => { t with note := 1, busy := s'.now })
  else done s

/-- A deferred part still runs under tag `i` for command `c`. -/
def State.defers (s : State) (i : Fin 48) (c : Cmd) : Bool :=
  decide ((s.tag i).st = .running) && (s.tag i).deferred && decide ((s.tag i).cmd = some c)

end Sys2Proof.Machine
end

