-- ==== Sys2Proof/Machine/NvWrite.lean ====
section
/-!
DEFINITION. The NVS below its commands: geometry of the records, twin slots and their validity, the page operations of
a record write, deferral under WP_N (R479 to R491).
-/

namespace Sys2Proof.Machine

/-- Pages per slot, page of slot A, page of slot B of a record (R480). -/
def nvGeom (id : Nat) : Option (Nat × Nat × Nat) :=
  if id = 0x0010 then some (64, 0x004, 0x044)
  else if id = 0x0011 then some (16, 0x084, 0x094)
  else if id = 0x0020 then some (1, 0x0A4, 0x0A5)
  else if id = 0x0030 then some (1, 0x0A6, 0x0A7)
  else if id = 0x0040 then some (64, 0x0A8, 0x0E8)
  else if id = 0x0050 then some (16, 0x128, 0x138)
  else if id = 0x0060 then some (64, 0x148, 0x188)
  else if 0x8000 ≤ id ∧ id ≤ 0x8000 + 486 then some (1, 0x1C8 + 2 * (id - 0x8000), 0x1C9 + 2 * (id - 0x8000))
  else none

/-- A record's capacity: its slot less the 16-byte header (R480). -/
def nvCap (id : Nat) : Nat := match nvGeom id with | some (n, _, _) => 256 * n - 16 | none => 0

/-- First byte of slot A or B of a record. -/
def slotBase (id : Nat) (b : Bool) : Nat :=
  match nvGeom id with | some (_, a, c) => 256 * (if b then c else a) | none => 0

/-- A big-endian number of `n` bytes from `a`. -/
def memNum (m : List Host.Cell) (a n : Nat) : Nat := (memGets m a n).foldl (fun v b => v * 256 + b.toNat) 0

/-- `v` as `n` bytes, most significant first. -/
def numBytes (v : Nat) : Nat → List (BitVec 8)
  | 0 => []
  | n + 1 => BitVec.ofNat 8 (v / 256 ^ n) :: numBytes v n

/-- SEQ of a slot (R482). -/
def slotSeq (m : List Host.Cell) (id : Nat) (b : Bool) : Nat := memNum m (slotBase id b + 8) 4

/-- LENGTH of a slot (R482). -/
def slotLen (m : List Host.Cell) (id : Nat) (b : Bool) : Nat := memNum m (slotBase id b + 4) 2

/-- TAG of a slot (R482). -/
def slotTag (m : List Host.Cell) (id : Nat) (b : Bool) : Nat := memNum m (slotBase id b + 6) 2

/-- Payload of a slot (R482). -/
def slotPayload (m : List Host.Cell) (id : Nat) (b : Bool) : List (BitVec 8) :=
  memGets m (slotBase id b + 16) (slotLen m id b)

/-- A slot is valid: MAGIC, ID, LENGTH within capacity, CRC (R483). -/
def slotValid (m : List Host.Cell) (id : Nat) (b : Bool) : Bool :=
  let a := slotBase id b
  (nvGeom id).isSome && decide (memNum m a 2 = 0x4B58) && decide (memNum m (a + 2) 2 = id) &&
  decide (slotLen m id b ≤ nvCap id) &&
  decide ((crc32c (memGets m a 12 ++ slotPayload m id b)).toNat = memNum m (a + 12) 4)

/-- Between two valid slots slot A is newer when (a - b) mod 2^32 lies in 1 to 2^31 - 1; equal sequences give slot A
(R483). -/
def aWins (a b : Nat) : Bool :=
  let d := (a + 2 ^ 32 - b) % 2 ^ 32
  decide (d = 0) || decide (1 ≤ d ∧ d ≤ 2 ^ 31 - 1)

/-- The copy of one slot. -/
def slotRec (m : List Host.Cell) (id : Nat) (b : Bool) : NvRec :=
  { id := id, seq := slotSeq m id b, tag := slotTag m id b, fromB := b, payload := slotPayload m id b }

/-- The record's copy that the recall selects (R483). -/
def recallOne (m : List Host.Cell) (id : Nat) : Option NvRec :=
  match slotValid m id false, slotValid m id true with
  | true, true => some (slotRec m id (!aWins (slotSeq m id false) (slotSeq m id true)))
  | true, false => some (slotRec m id false)
  | false, true => some (slotRec m id true)
  | false, false => none

/-- Both slots valid with equal sequence and different content: NVS_TWIN (R483). -/
def twinDiffer (m : List Host.Cell) (id : Nat) : Bool :=
  slotValid m id false && slotValid m id true && decide (slotSeq m id false = slotSeq m id true) &&
  !(decide (slotTag m id false = slotTag m id true) && decide (slotPayload m id false = slotPayload m id true))

/-- The fixed record IDs in the order of R480's table. -/
def nvFixed : List Nat := [0x0010, 0x0011, 0x0020, 0x0030, 0x0040, 0x0050, 0x0060]

/-- Every record ID of R480. -/
def nvIds : List Nat := nvFixed ++ (List.range 487).map (0x8000 + ·)

/-- The SRAM copy of a record. -/
def Nvs.rec? (n : Nvs) (id : Nat) : Option NvRec := n.recs.find? fun r => r.id = id

/-- Replace the SRAM copy of a record. -/
def Nvs.putRec (n : Nvs) (r : NvRec) : Nvs := { n with recs := n.recs.filter (fun x => x.id ≠ r.id) ++ [r] }

/-- Page operations on a page (R491, R498). -/
def State.pageOp (s : State) (page : Nat) (k : Nat := 1) : State :=
  (s.onNvs fun n => { n with ops := cntSet n.ops page (min ctrMax (cntGet n.ops page + k)) }).count 0x1902 k

/-- Page operations on consecutive pages. -/
def State.pageOps (s : State) (page : Nat) : Nat → State
  | 0 => s
  | k + 1 => (s.pageOp page).pageOps (page + 1) k

/-- Every NVS event: log entry and Chime NVS (R478, R495). -/
def State.nvsEvent (s : State) (unit id : Nat) (slotB : Bool := false) : State :=
  (s.log 0x0C 0x01 unit [wd id, wd slotB.toNat]).chime 15

/-- SEQ of the next write of a record: the winning copy's + 1, or 1 (R484). -/
def State.nextSeq (s : State) (id : Nat) : Nat :=
  match s.nvs.rec? id with | some r => (r.seq + 1) % 2 ^ 32 | none => 1

/-- The slot of the next write: the one that does not hold the winning copy; slot A for an absent record (R484, log 20). -/
def State.nextSlotB (s : State) (id : Nat) : Bool :=
  match s.nvs.rec? id with | some r => !r.fromB | none => false

/-- Header and payload of a slot, bytes past the payload 0x00 (R482, R484). -/
def slotBytes (id seq tag : Nat) (payload : List (BitVec 8)) : List (BitVec 8) :=
  let h := numBytes 0x4B58 2 ++ numBytes id 2 ++ numBytes payload.length 2 ++ numBytes tag 2 ++ numBytes seq 4
  let crc := crc32c (h ++ payload)
  let l := h ++ numBytes crc.toNat 4 ++ payload
  l ++ List.replicate (nvCap id + 16 - l.length) 0

/-- The order in which a slot's bytes are written: pages from last to first, the first page from byte 16 round to
byte 15 (R484). Offsets within the slot. -/
def slotOrder (pages : Nat) : List Nat :=
  ((List.range (pages - 1)).reverse.flatMap fun p => (List.range 256).map fun i => 256 * (p + 1) + i) ++
  ((List.range 240).map (16 + ·)) ++ List.range 16

/-- The bytes a record write writes, in their order: address and byte. -/
def writeSeq (id : Nat) (slotB : Bool) (seq tag : Nat) (payload : List (BitVec 8)) : List (Nat × BitVec 8) :=
  let b := slotBytes id seq tag payload
  let pages := match nvGeom id with | some (n, _, _) => n | none => 0
  (slotOrder pages).map fun o => (slotBase id slotB + o, b.getD o 0)

/-- Bytes written one after another (R479, R486). -/
def memApply (m : List Host.Cell) : List (Nat × BitVec 8) → List Host.Cell
  | [] => m
  | (a, b) :: r => memApply (memSet m a b) r

/-- The oldest record write stops after `k` of its bytes (R484, R486, R487). -/
def State.partWrite (k : Nat) (s : State) : State :=
  match s.nvs.queue with
  | [] => s
  | w :: _ =>
    s.onNvs fun n =>
      { n with mem := memApply n.mem ((writeSeq w.id (s.nextSlotB w.id) (s.nextSeq w.id) w.tag w.payload).take k) }

/-- The oldest record write stops between two page operations, `k` of them made, never the last (R487, R491). -/
def State.stopWrite (k : Nat) (s : State) : State :=
  match s.nvs.queue with
  | [] => s
  | w :: _ =>
    let pages := match nvGeom w.id with | some (n, _, _) => n | none => 0
    let k := min k (pages - 1)
    (s.partWrite (256 * k)).pageOps (slotBase w.id (s.nextSlotB w.id) / 256 + (pages - k)) k

/-- The offset in force and its schedule as the record keeps them; no source, no offset (R126). -/
def State.utcProps (s : State) : TimeSrc :=
  if s.time.offSource = 7 then TimeSrc.init
  else { utc := some s.time.offset, event := s.time.event, next := if s.time.event = 0 then 0 else s.time.offset + s.time.leap }

/-- What a firmware record's completed write makes the store hold (log 11). -/
def State.storeRec (s : State) (id : Nat) : State :=
  if id = 0x0020 then s.onStore fun x => { x with props := s.utcProps }
  else if id = 0x0030 then s.onStore fun x => { x with fault := s.flt.nvsFirst }
  else if id = 0x0040 then s.onStore fun x => { x with fixed := s.gnss.fixed, nav := s.gnss.nav, almanacs := s.gnss.almanacs }
  else if id = 0x0050 then s.onStore fun x => { x with age := s.age }
  else if id = 0x0060 then s.onStore fun x => { x with ops := s.nvs.ops, age := { x.age with lifeHours := s.age.lifeHours } }
  else s

/-- A record's write has ended: the slot holds it, and so does the SRAM copy (R484, R485, R494). -/
def State.wroteRec (s : State) (w : NvWrite) : State :=
  let b := s.nextSlotB w.id
  let seq := s.nextSeq w.id
  let s := s.onNvs fun n =>
    { n.putRec { id := w.id, seq := seq, tag := w.tag, fromB := b, payload := w.payload } with
      mem := memApply n.mem (writeSeq w.id b seq w.tag w.payload) }
  if w.id = 0x0010 ∨ w.id = 0x0011 then
    s.onNvs fun n => { n with lastHost := n.lastHost.filter (fun p => p.1 ≠ w.id) ++ [(w.id, s.now)] }
  else s.storeRec w.id

/-- Free payload bytes of a record whose layout the firmware keeps to itself (R480, log 11). -/
def State.fwPayload (s : State) (id len : Nat) : List (BitVec 8) × State :=
  let (k, s) := s.draw
  ((List.range len).map fun i => Config.fwPayload id k i, s)

/-- A record write is asked for: deferred while WP_N is asserted, else its page operations follow (R484, R488). -/
def State.nvWrite (s : State) (w : NvWrite) : State :=
  if s.sys.wp then
    ((s.onNvs fun n => { n with deferred := n.deferred.filter (fun x => x.id ≠ w.id) ++ [{ w with host := none, wasDeferred := true }] }).count
      0x1904).nvsEvent 2 w.id (s.nextSlotB w.id)
  else s.onNvs fun n => { n with queue := n.queue ++ [w] }

/-- The firmware writes one of its records with a payload of its own layout (log 11). -/
def State.fwWrite (s : State) (id : Nat) : State :=
  let (p, s) := s.fwPayload id 64
  s.nvWrite { NvWrite.init with id := id, payload := p }

/-- The page counts are saved before a reset that restarts the firmware, unless WP_N holds the write off (R488, R491). -/
def State.saveWear (s : State) : State :=
  if s.sys.wp || s.nvsBarred then s
  else
    let (p, s) := s.fwPayload 0x0060 64
    let b := slotBase 0x0060 (s.nextSlotB 0x0060) / 256
    (s.pageOps b 64).wroteRec { NvWrite.init with id := 0x0060, payload := p }

end Sys2Proof.Machine
end

