-- ==== Sys2Proof/Machine/Times.lean ====
section
/-!
DEFINITION. The Metronome timescale: instants and readings, alignment points, time properties, Metronome steps, and the
TIME commands (R118 to R141).
-/

namespace Sys2Proof.Machine

/-! ### Readings at an instant (R18, R305) -/

/-- Metronome reading at Kettle instant `k`, 2^-16 ns, rounded down (R18, R144). -/
def State.metroAt (s : State) (k : Nat) : Int :=
  ((s.time.metro : Int) - ((s.now : Int) - k) * ((accU : Int) + (s.dpll 0).cTick)) / accU

/-- Kettle instant of a Metronome reading near now. -/
def State.kettleOf (s : State) (x : Int) : Nat :=
  ((s.now : Int) - (((s.mt : Int) - x) * accU) / ((accU : Int) + (s.dpll 0).c)).toNat

/-- Domain time of domain `d` at Kettle instant `k`; domain 0's is the Metronome (R305). -/
def State.domAt (s : State) (d : Fin 8) (k : Nat) : Int :=
  if d.val = 0 then s.metroAt k
  else ((s.dpll d).domTime - ((s.now : Int) - k) * ((accU : Int) + (s.dpll d).cTick)) / accU

/-- Domain time less the Metronome at this instant (R305). -/
def State.domOfs (s : State) (d : Fin 8) : Int := s.domAt d s.now - s.metroAt s.now

/-! ### Alignment points (R131, R132) -/

/-- Index of the last alignment point at or before reading `x` (R132). -/
def pointIndex (x n d : Nat) : Nat := x * n / (d * secU)

/-- Reading of alignment point `k`, rounded down to 2^-16 ns (R132). -/
def pointAt (k n d : Nat) : Nat := k * d * secU / n

/-- The first alignment point at or after reading `x`, rounded down (R132). -/
def nextPoint (x : Int) (n d : Nat) : Int := -(-(x * n) / ((d : Int) * secU)) * d * secU / n

/-- Period of a rate in 2^-16 ns, rounded down (R124). -/
def periodOf (n d : Nat) : Nat := d * secU / n

/-! ### Time properties (R125 to R130, R134) -/

/-- The schedule's change of the offset: +1 insertion, -1 removal, 0 none (R127). -/
def TimeSrc.leap (v : TimeSrc) : Int := match v.utc with | some u => if v.event = 0 then 0 else v.next - u | none => 0

/-- A schedule is held while it changes the offset by one second and its EVENT begins a UTC day under the new offset
(R127). -/
def TimeSrc.schedOk (v : TimeSrc) : Bool :=
  decide (v.leap = 1 ∨ v.leap = -1) && decide (((v.event : Int) - v.next) % 86400 = 0)

/-- A source without the schedule that breaks R127. -/
def TimeSrc.clean (v : TimeSrc) : TimeSrc := if v.event = 0 ∨ v.schedOk then v else { v with event := 0, next := 0 }

/-- The source breaks R127 with the schedule it carries. -/
def TimeSrc.bad (v : TimeSrc) : Bool := decide (v.event ≠ 0) && !v.schedOk

/-- What a source gives, `v`, after what it gave before: a newer schedule replaces the older one, one that breaks R127 is
ignored (R127). -/
def TimeSrc.receive (old v : TimeSrc) : TimeSrc :=
  if v.bad then ({ v with event := old.event, next := old.next } : TimeSrc).clean else v

/-- The source's event is taken once the Metronome second reaches it (R128, R130). -/
def TimeSrc.roll (sec : Nat) (v : TimeSrc) : TimeSrc :=
  if v.event ≠ 0 ∧ v.event ≤ sec then { utc := v.utc.map fun _ => v.next, event := 0, next := 0 } else v

/-- The reference DPLL0 follows carries an offset: its OFFSET_SOURCE and values (R126). -/
def State.refSrc (s : State) : Option (Nat × TimeSrc) :=
  match (s.dpll 0).cur with
  | none => none
  | some r =>
    if r.val = 64 then (if s.time.gnss.utc.isSome then some (1, s.time.gnss) else none)
    else if r.val = 65 then (if s.time.partner.utc.isSome then some (3, s.time.partner) else none)
    else match laneOf r with
      | some l => if (s.lane l).src.utc.isSome then some (2, (s.lane l).src) else none
      | none => none

/-- The source in force (R126). -/
def State.srcInForce (s : State) : Nat × TimeSrc :=
  if s.time.host.utc.isSome && s.time.hostOverride then (0, s.time.host)
  else match s.refSrc with
    | some x => x
    | none =>
      if s.time.host.utc.isSome then (0, s.time.host)
      else if s.time.taken.utc.isSome then (3, s.time.taken)
      else if s.time.recalled.utc.isSome then (4, s.time.recalled)
      else (7, TimeSrc.init)

/-- Every source takes its passed event and drops a schedule that breaks R127. -/
def State.rollSrcs (s : State) : State :=
  let f := fun v : TimeSrc => (v.roll s.msec).clean
  (s.onTime fun x => { x with host := f x.host, gnss := f x.gnss, partner := f x.partner, taken := f x.taken,
                              recalled := f x.recalled }).onPtp
    fun p => { p with lanes := vmap p.lanes fun l => { l with src := f l.src } }

/-- The event-log entry of a UTC_OFFSET or schedule change (R478). -/
def State.logUtc (s : State) (old : Int) : State :=
  s.log 0x02 0x02 s.time.offSource [wd (twos 16 old * 65536 + twos 16 s.time.offset), wd (s.time.event / 2 ^ 32), wd s.time.event]

/-- LEAP61 or LEAP59 is due: the last 12 hours before EVENT (R128). -/
def leapDue (sec event : Nat) (leap want : Int) : Bool := decide (event ≠ 0 ∧ leap = want ∧ event ≤ sec + 43200)

/-- UTC_OFFSET, its source and the schedule in force follow the sources; each change is stored, and one of the offset or
the schedule logged (R126 to R128, R478). The leap flags are those of the present second, also after a step back (log
57). -/
def utcUpdate (s : State) : State :=
  let s := s.rollSrcs
  let old := s.time
  let (src, v) := s.srcInForce
  let off := v.utc.getD 0
  let s := s.onTime fun x =>
    { x with offset := off, offSource := src, event := v.event, leap := v.leap,
             confirmed := x.confirmed || (decide (src ≤ 3) && decide (x.recalled.utc = some off)),
             leap61 := leapDue s.msec v.event v.leap 1, leap59 := leapDue s.msec v.event v.leap (-1) }
  if off = old.offset ∧ src = old.offSource ∧ v.event = old.event ∧ v.leap = old.leap then s
  else
    let s := if off = old.offset ∧ v.event = old.event ∧ v.leap = old.leap then s else s.logUtc old.offset
    s.fwWrite 0x0020

/-- A schedule that R127 does not allow was met: the case is logged, unless the change it brought has been (R127, R478). -/
def State.logBad (s : State) (bad : Bool) (old : State) : State :=
  if bad && decide ((s.time.offset, s.time.event, s.time.leap) = (old.time.offset, old.time.event, old.time.leap)) then
    s.logUtc s.time.offset
  else s

/-- TIME_SOURCE, TIME_TRACEABLE, FREQ_TRACEABLE (R134). The cases its table leaves open are log 57's. -/
def State.timeSource (s : State) : Nat × Bool × Bool :=
  match (s.dpll 0).cur with
  | some r =>
    let q := s.refTrace r
    if r.val = 64 then (0x20, q)
    else if r.val = 65 then (s.pair.snap.source, q)
    else match laneOf r with
      | some l => ((match (s.lane l).parent with | some f => f.src | none => 0xA0), q)
      | none => (0x90, q)
  | none =>
    if (s.dpll 0).dstate = .holdover ∨ (s.dpll 0).bridging then
      let k := decide (s.clockClass = 7)
      (0xA0, k, k && s.loop.fTraceHeld)
    else if s.timeValid then (0x60, false, false) else (0xA0, false, false)

/-- UTC_VALID: sources 1 to 3 and the host's, and the recalled value once a higher source has confirmed it (R126). -/
def State.utcValid (s : State) : Bool :=
  decide (s.time.offSource ≤ 3) || (decide (s.time.offSource = 4) && s.time.confirmed)

/-! ### Steps of the Metronome (R135, R317, R188, R203) -/

/-- A PULSE output's phase after its alignment points moved: `dv` later readings of the edges (R317). -/
def Pulse.shift (dv : Int) (p : Pulse) : Pulse := { p with phi := phaseAt (p.phi + dv) p.num p.den }

/-- The outputs of a domain whose time stepped by `dv` (R317, R312). -/
def State.domStepped (s : State) (d : Fin 8) (dv : Int) : State :=
  if dv = 0 then s
  else s.onOut fun o =>
    { o with pl := vmap o.pl fun p => if p.domain = d then s.plJudge (p.shift dv) else p
             ck := vmap o.ck fun k => if k.domain = d then { k with aligned := false, dphi := k.dphi + dv } else k }

/-- The generator restarts aligned at the apply edge; its first new edge comes at least 50 ns after that edge and after
the pulse in progress (R318, R320). -/
def Pulse.restart (now : Nat) (p : Pulse) : Pulse :=
  { p with phi := 0, slewing := false, slewReq := false, syncRef := false, restartAt := some now, edgeFrom := now }

/-- In START-UP every enabled PULSE output of domain 0 whose phase exceeds JUMP_US after a load or a TIME_SET restarts
aligned; 0xFFFF_FFFF: never (R539). -/
def State.jumpOuts (s : State) : State :=
  let j := s.sys.profileJump
  if (s.sys.mstate = .cold ∨ s.sys.mstate = .acquire) ∧ j ≠ 0xFFFFFFFF ∧ (s.dom 0).running then
    s.onOut fun o =>
      { o with pl := vmap o.pl fun p => if p.enable ∧ p.domain = 0 ∧ j * usU < p.phi.natAbs then p.restart s.now else p }
  else s

/-- The window from `opn` to `close` about the start stamp `x` holds the most recent step of the Metronome (R173): for an
edge before the step by the reading just before it, for one after it by the reading just after. -/
def State.stepIn (s : State) (x : Stamp) (opn close : Int) : Bool :=
  let pre := (s.time.lastStep : Int) - s.time.stepLast - x.time
  decide (s.time.stepSeq ≠ 0) &&
  (if x.edge ≤ s.time.stepK then decide (opn ≤ pre) && decide (pre ≤ close)
   else decide ((x.time : Int) - s.time.lastStep ≤ -opn))

/-- What a step of the Metronome by `dv` from reading `mt` does to measurements in flight (R173, R188). -/
def State.measStepped (s : State) (mt : Nat) (dv : Int) : State :=
  let iv := fun v : Interval => match v.cur with
    | some x => { v with stepped := v.stepped || s.stepIn x v.opn (v.close * usU) }
    | none => v
  let fr := fun g : FreqGate =>
    let x := (mt : Int) - g.stepSum
    if g.start ≤ x then { g with stepSum := g.stepSum + dv, stepped := g.stepped || decide (x < (g.start + g.gate * msU : Nat)) } else g
  s.onMeas fun m => { m with ivs := m.ivs.map iv, freqs := m.freqs.map fr }

/-- The seconds a holdover counts from move with the Metronome, so the spans of R273 and R275 stay as they are (log 40). -/
def Dpll.secStep (dv : Int) (d : Dpll) : Dpll :=
  { d with hoCentre := d.hoCentre + 2 * dv, hoEntry := (d.hoEntry + dv).toNat, followC := d.followC.map fun p => ((p.1 + dv).toNat, p.2) }

/-- The Metronome steps by `dv` (2^-16 ns): LAST_STEP, the log, measurements in flight, histories, and the phase of
domain 0's outputs, which stay where they are (R135, R317, R565). `unit` as R478. R130 is judged by the caller, once
after all that one edge applies (R139). -/
def metroStep (dv : Int) (unit : Nat) (s : State) : State :=
  let sec := s.msec
  let mt := s.mt
  let m := ((s.time.metro : Int) + dv * accU).toNat
  let s := s.onTime fun x =>
    { x with metro := m, lastStep := m / accU, lastSec := secOf (m / accU), stepSeq := x.stepSeq + 1,
             stepSum := x.stepSum + dv, stepK := x.now, stepLast := dv }
  let s := (s.measStepped mt dv).dpllMod 0 fun d => { d with domTime := m }
  let s := (s.histStep dv).onLoop fun l => { l with dplls := vmap l.dplls (Dpll.secStep ((secOf (m / accU) : Int) - sec)) }
  let s := s.onArc fun a => { a with stepAt := some (secOf (m / accU)) }
  let s := s.onHif fun h =>
    { h with pend := h.pend.map (fun q => { q with boundary := none }), queued := h.queued.map (fun q => { q with boundary := none }) }
  let s := s.domStepped 0 dv
  (if unit = 1 then s else s.jumpOuts).log 0x02 0x01 unit (s64 dv)

/-- The build-out of a DPLL that was held is gone: TIME_STEP_PENDING clears; `resolved` counts it (R281, R296). -/
def State.stepDone (s : State) (d : Fin 8) : State :=
  (s.dpllMod d fun x => { x with stepPending := false, steering := false, slewing := false, buildOut := 0 }).count
    (0x0600 + 16 * d.val + 3)

/-- A staged value is not applied at its strobe (R478). -/
def State.notApplied (s : State) (op detail : Nat) : State := s.log 0x01 0x02 0 [wd (op * 65536), wd detail]

/-! ### TIME commands -/

/-- TIME_GET (R133). -/
def timeGetBody (_ : Fin 48) (_ : Args) (s : State) : State × Reply :=
  let (src, tt, ft) := s.timeSource
  let x := s.time
  (s, .ok (time96 s.mt ++
    [pack [pbit s.timeValid 31, pbit s.utcValid 30, pbit x.leap61 29, pbit x.leap59 28, pbit true 27, pbit tt 26, pbit ft 25,
           pbit x.hostOverride 24, (src, 23, 16), (twos 16 x.offset, 15, 0)],
     pack [(if x.event = 0 then 0 else if x.leap = 1 then 1 else 2, 31, 30), (x.offSource, 18, 16), (x.event / 2 ^ 32, 15, 0)],
     wd x.event] ++ time96 x.lastStep))

/-- TIME_GET (R133). -/
def execTimeGet (t : Nat) (tag : Fin 48) (s : State) : Res :=
  runCmd .timeGet tag (fun _ _ _ => []) timeGetBody (s.advance t)

/-- DPLL0 follows, or switches onto, a reference that carries a count of seconds (R136). -/
def State.followsSeconds (s : State) : Bool :=
  let f := fun o : Option (Fin 66) => match o with | some r => decide (16 ≤ r.val) && (s.cand r).time | none => false
  f (s.dpll 0).cur || f (s.dpll 0).target

/-- The signed interval of MODE OFFSET (R135). -/
def timeSetOfs (a : Args) : Int := as64 a 1

/-- A reading after an OFFSET lies within the format (R136). -/
def metroOk (v : Int) : Bool := decide (0 ≤ v) && decide (v < (2 : Int) ^ 48 * secU)

/-- TIME_SET acceptance (R135, R136). -/
def timeSetChecks (_ : Bool) (a : Args) (s : State) : Checks :=
  let mode := af a 3 1 0
  [cond (decide (mode < 2) && s.followsSeconds) (wrongState 0x0001),
   cond (decide (mode = 2) && !(s.dpll 0).stepPending) (wrongState 0x0002),
   rsv a 3 31 2, rng a 3 1 0 0 2,
   cond (decide (mode = 0) && !patOk (a96 a 0)) (badArg 0 0),
   cond (decide (mode = 1) && decide (arg a 0 ≠ 0)) (badArg 0 0),
   cond (decide (mode = 2) && (decide (arg a 0 ≠ 0) || decide (arg a 1 ≠ 0) || decide (arg a 2 ≠ 0))) (badArg 0 0),
   cond (decide (mode = 1) && !metroOk ((s.mt : Int) + timeSetOfs a)) (badArg 0 0 0x0003),
   cond (decide (mode = 2) && !metroOk ((s.mt : Int) - (s.dpll 0).buildOut)) (badArg 0 0 0x0003)]

/-- The Metronome becomes valid by a TIME_SET (R120). A Kettle loss is final until reset (R20). -/
def State.setValid (s : State) : State := s.onTime fun x => { x with valid := true }

/-- The receiver's count of Kettle time gives way to the Metronome; candidate 64's history is then against the Metronome
(R387). -/
def dropCount (s : State) : State :=
  match s.gnss.countBase with
  | none => s
  | some b =>
    let dv := (s.mt : Int) - (b + s.now)
    let f := fun x : Sample => { x with ph := x.ph + dv }
    let s := s.onGnss fun g => { g with countBase := none }
    s.candMod 64 fun c => { c with hist := c.hist.map f, outRun := c.outRun.map f, last64 := c.last64.map f }

/-- TIME_SET at its apply edge (R120, R135, R136, R281). A REFERENCE step out of the format is not applied either
(log 58). -/
def applyTimeSet (a : Args) (s : State) : State :=
  let mode := af a 3 1 0
  if mode = 0 then (metroStep ((readingOfPat (a96 a 0) : Int) - s.mt) 0 (dropCount s)).setValid
  else if mode = 1 then
    if metroOk ((s.mt : Int) + timeSetOfs a) then (metroStep (timeSetOfs a) 0 (dropCount s)).setValid else s.notApplied 0x0201 0x0003
  else if (s.dpll 0).stepPending && !((s.dpll 0).cur.any s.losing) then
    if metroOk ((s.mt : Int) - (s.dpll 0).buildOut) then (metroStep (-(s.dpll 0).buildOut) 0 (s.stepDone 0)).setValid
    else s.notApplied 0x0201 0x0003
  else s

/-- TIME_SET unstaged: the reading without and with the step (R137). -/
def timeSetBody (_ : Fin 48) (a : Args) (s : State) : State × Reply :=
  let before := s.mt
  let s := utcUpdate (applyTimeSet a s)
  (s, .ok (time96 before ++ time96 s.mt))

/-- TIME_SET (R135). -/
def execTimeSet (t : Nat) (tag : Fin 48) (s : State) : Res :=
  runCmd .timeSet tag timeSetChecks timeSetBody (s.advance t)

/-- EVENT of TIME_LEAP. -/
def leapEvent (a : Args) : Nat := af a 1 15 0 * 2 ^ 32 + (arg a 2).toNat

/-- The host value a SCHEDULE builds on: the host's, else the offset in force (R138). -/
def State.hostBase (s : State) : Int := s.time.host.utc.getD s.time.offset

/-- TIME_LEAP acceptance (R138). -/
def timeLeapChecks (_ : Bool) (a : Args) (s : State) : Checks :=
  let act := af a 0 31 28
  let off := asf a 0 15 0
  let ev := leapEvent a
  [cond (decide (act = 2) && decide (s.time.host.event = 0)) (wrongState 0x0003),
   cond (decide (act = 1) && s.time.host.utc.isNone && decide (s.time.offSource = 7)) (wrongState 0x0004),
   rng a 0 31 28 0 3, rsv a 0 27 17, rsv a 1 31 16,
   cond (decide (act = 1) && (decide (a.length < 3) || decide (((ev : Int) - off) % 86400 ≠ 0) || decide (ev * secU < s.mt + 2 * secU)))
     (badArg 1 0 0x0001),
   cond (decide (act = 1) && decide (off ≠ s.hostBase + 1) && decide (off ≠ s.hostBase - 1)) (badArg 0 0 0x0002)]

/-- TIME_LEAP at its apply edge (R138). Applied by a strobe without further checks, a SCHEDULE that R127 does not allow
is not held, which is logged; an older one stays (R97, R127). -/
def applyTimeLeap (a : Args) (s : State) : State :=
  let act := af a 0 31 28
  let off := asf a 0 15 0
  let ovr := ab a 0 16
  if act = 0 then
    let v : TimeSrc := { s.time.host with utc := some off }
    (utcUpdate (s.onTime fun x => { x with host := v.clean, hostOverride := ovr })).logBad v.bad s
  else if act = 1 then
    let v : TimeSrc := { utc := some s.hostBase, event := leapEvent a, next := off }
    let bad := decide (v.event = 0) || v.bad
    let old : TimeSrc := { s.time.host with utc := some s.hostBase }
    (utcUpdate (s.onTime fun x => { x with host := if bad then old.clean else v, hostOverride := ovr })).logBad bad s
  else if act = 2 then utcUpdate (s.onTime fun x => { x with host := { x.host with event := 0, next := 0 } })
  else utcUpdate (s.onTime fun x => { x with host := TimeSrc.init, hostOverride := false })

/-- LEAP_PENDING and the offset, then EVENT (R139). -/
def State.leapWords (s : State) : List Word :=
  [pack [(if s.time.event = 0 then 0 else if s.time.leap = 1 then 1 else 2, 31, 30), (twos 16 s.time.offset, 15, 0)],
   wd (s.time.event / 2 ^ 32 % 65536), wd s.time.event]

/-- TIME_LEAP unstaged (R139). -/
def timeLeapBody (_ : Fin 48) (a : Args) (s : State) : State × Reply :=
  let s := applyTimeLeap a s
  (s, .ok s.leapWords)

/-- TIME_LEAP (R138). A staged SET, SCHEDULE, CANCEL or RELEASE each acts in its order (log 9). -/
def execTimeLeap (t : Nat) (tag : Fin 48) (s : State) : Res :=
  runCmd .timeLeap tag timeLeapChecks timeLeapBody (s.advance t)

/-- TIME_ALIGN_QUERY arguments (R140). -/
def timeAlignChecks (_ : Bool) (a : Args) (s : State) : Checks :=
  cond (!has a 4 && !s.timeValid) (wrongState 0x0001) :: rateOk a 0 ++ [cond (has a 4 && !patOk (a96 a 2)) (badArg 2 0)]

/-- TIME_ALIGN_QUERY (R140, R141). AT given in part counts as omitted, and LAST and NEXT wrap at 2^48 s (log 57). -/
def timeAlignBody (_ : Fin 48) (a : Args) (s : State) : State × Reply :=
  let n := (arg a 0).toNat
  let d := (arg a 1).toNat
  let given := has a 4
  let x := if given then readingOfPat (a96 a 2) else s.mt
  let k := pointIndex x n d
  let per := periodOf n d
  let rem := x * n % (d * secU)
  (s, .ok (w64 (min k (2 ^ 64 - 1)) ++ time96 (pointAt k n d) ++ time96 (pointAt (k + 1) n d) ++ s64 (rem / n : Nat) ++
           s64 per ++
           [pack [pbit (decide (2 ^ 63 ≤ per)) 3, pbit (decide (2 ^ 64 ≤ k)) 2, pbit given 1, pbit (decide (rem = 0)) 0]]))

/-- TIME_ALIGN_QUERY (R140). -/
def execTimeAlignQuery (t : Nat) (tag : Fin 48) (s : State) : Res :=
  runCmd .timeAlignQuery tag timeAlignChecks timeAlignBody (s.advance t)

/-! ### Leap events (R128) -/

/-- LEAP_FLAG_SET: the flag sets at EVENT - 43,200 (R128). -/
def execLeapFlagSet (t : Nat) (s : State) : Res :=
  let s := s.advance t
  if s.time.event ≠ 0 ∧ s.time.event ≤ s.msec + 43200 then
    done (s.onTime fun x => { x with leap61 := leapDue s.msec x.event x.leap 1, leap59 := leapDue s.msec x.event x.leap (-1) })
  else done s

/-- LEAP_EVENT: at the boundary of second EVENT the offset changes and the flag clears (R128). -/
def execLeapEvent (t : Nat) (s : State) : Res :=
  let s := s.advance t
  if s.time.event ≠ 0 ∧ s.time.event ≤ s.msec then done (utcUpdate s) else done s

end Sys2Proof.Machine
end

