-- ==== Sys2Proof/Machine/Regression.lean ====
section
/-!
DEFINITION. The regression engine's accumulator sets: indexing of stamps, the sums and the fitted period (R182 to R185,
R190, R201).
-/

namespace Sys2Proof.Machine

/-- Determinant of the fit: n Σn² - (Σn)². -/
def Acc.det (a : Acc) : Int := a.n * a.snn - a.sn * a.sn

/-- Fitted period b times the determinant (R182). -/
def Acc.bNum (a : Acc) : Int := a.n * a.snt - a.sn * a.st

/-- Fitted intercept a times the determinant (R182). -/
def Acc.aNum (a : Acc) : Int := a.st * a.snn - a.sn * a.snt

/-- A kept stamp of index `i` at time `t` relative to the first (R182). -/
def Acc.put (i t : Int) (a : Acc) : Acc :=
  { a with n := a.n + 1, sn := a.sn + i, snn := a.snn + i * i, st := a.st + t, snt := a.snt + i * t, stt := a.stt + t * t }

/-- Unrounded index of a time relative to the first stamp, as a quotient: by the nominal period for the first 64 kept
stamps, then by the running fit (R184). The stamped rate is `num` / `den`. -/
def Acc.index (num den : Nat) (a : Acc) (t : Int) : Int × Nat :=
  if a.n < 64 ∨ a.det ≤ 0 ∨ a.bNum ≤ 0 then (t * num, den * secU) else (t * a.det - a.aNum, a.bNum.toNat)

/-- An unrounded index lies more than 0.25 from the nearest integer (R184). -/
def isSlip (p : Int) (q : Nat) : Bool := decide ((q : Int) < 4 * ((p - rdiv p q * q).natAbs : Nat))

/-- y = T_s / b - 1 in 2^-64, rounded to nearest (R182, R189). -/
def Acc.y (num den : Nat) (a : Acc) : Option Int :=
  if a.det ≤ 0 ∨ a.bNum ≤ 0 ∨ num = 0 then none
  else some (rdiv (((den : Int) * secU * a.det - num * a.bNum) * 2 ^ 64) (num * a.bNum.toNat))

/-- One valid stamp at time `t`: indexed, dropped as a slip, else added (R184). -/
def Acc.stamp (num den : Nat) (t : Int) (a : Acc) : Acc :=
  let a := { a with seen := a.seen + 1 }
  if a.n = 0 then { a with t0 := t }.put 0 0
  else
    let (p, q) := a.index num den (t - a.t0)
    if isSlip p q then a else a.put (rdiv p q) (t - a.t0)

/-- One sample of a source whose own time is `tau` when the Kettle reads `k`: its index is its own time, both counted
from the first sample's Kettle time (R196, R201). -/
def Acc.sample (tau k : Int) (a : Acc) : Acc :=
  let a := { a with seen := a.seen + 1, t0 := if a.n = 0 then k else a.t0 }
  a.put (tau - a.t0) (k - a.t0)

end Sys2Proof.Machine
end

