-- ==== Sys2Proof/Machine/Loops.lean ====
section
/-!
DEFINITION. The eight DPLLs below selection: nominal rates, the holdover value and its estimates, entering holdover,
DSTATE changes, and the detector update (R183, R258 to R279).
-/

namespace Sys2Proof.Machine

/-- DSTATE codes (R266). -/
def DState.code : DState → Nat
  | .disabled => 0 | .freerun => 1 | .acquiring => 2 | .locked => 3 | .holdover => 4

/-- Reference field: the candidate, 0x7F none (R253, R473). -/
def refCode (r : Option (Fin 66)) : Nat := match r with | some x => x.val | none => 0x7F

/-! ### Rates (R159, R162, R183) -/

/-- Frame rate, line rate, interlaced, of a video format (R159). -/
def videoRates : Nat → Option ((Nat × Nat) × (Nat × Nat) × Bool)
  | 1 => some ((30000, 1001), (15750000, 1001), true)
  | 2 => some ((25, 1), (15625, 1), true)
  | 3 => some ((25, 1), (28125, 1), true)
  | 4 => some ((30000, 1001), (33750000, 1001), true)
  | 5 => some ((30, 1), (33750, 1), true)
  | 6 => some ((24000, 1001), (27000000, 1001), false)
  | 7 => some ((24, 1), (27000, 1), false)
  | 8 => some ((25, 1), (28125, 1), false)
  | 9 => some ((30000, 1001), (33750000, 1001), false)
  | 10 => some ((30, 1), (33750, 1), false)
  | 11 => some ((50, 1), (56250, 1), false)
  | 12 => some ((60000, 1001), (67500000, 1001), false)
  | 13 => some ((60, 1), (67500, 1), false)
  | 14 => some ((50, 1), (37500, 1), false)
  | 15 => some ((60000, 1001), (45000000, 1001), false)
  | 16 => some ((60, 1), (45000, 1), false)
  | _ => none

/-- Lines of a format's frame, and whether its sync is tri-level (R159). -/
def videoLines (f : Nat) : Nat × Bool := (if f = 1 then 525 else if f = 2 then 625 else if f ≤ 13 then 1125 else 750, decide (3 ≤ f))

/-- The rate of a video channel's stamps under EVENT (R183). -/
def videoRate (fmt event : Nat) : Option (Nat × Nat) :=
  match videoRates fmt with
  | some (f, l, i) => some (if event = 0 then l else if event = 1 ∧ i then (2 * f.1, f.2) else f)
  | none => none

/-- The format a video channel's rate follows: the one recognised, else the one permitted (R183, R192). -/
def Chan.fmtNow (c : Chan) : Nat := if c.videoFmt ≠ 0 then c.videoFmt else c.format

/-- Recovered receive clock of a lane rate (R162). -/
def linkClock (rate : Nat) : Nat × Nat :=
  if rate = 0 then (125000000, 1) else if rate = 1 then (322265625, 2) else (390625000, 1)

/-- Rate of the divided clock of a link channel (R183). -/
def State.linkRate (s : State) (l : Fin 48) : Nat × Nat :=
  let c := linkClock (s.lane l).rate
  (c.1, c.2 * (s.chan ⟨16 + l.val, by omega⟩).clkDiv)

/-- The rate a channel's phase is judged against, given the NUM and DEN that a candidate or a command names (R183). -/
def State.phaseRateOf (s : State) (ch : Fin 66) (num den : Nat) : Option (Nat × Nat) :=
  if num ≠ 0 ∧ den ≠ 0 then some (num, den)
  else match laneOf ch with
    | some l => some (s.linkRate l)
    | none => if (s.chan ch).mode = 2 then videoRate (s.chan ch).fmtNow (s.chan ch).event else none

/-- The rate of a channel's stamps, 1 / T_s (R183). -/
def State.stampRateOf (s : State) (ch : Fin 66) (num den : Nat) : Option (Nat × Nat) :=
  if ch.val < 16 ∧ (s.chan ch).mode ≠ 2 ∧ num ≠ 0 ∧ den ≠ 0 then some (num, den * (s.chan ch).div)
  else s.phaseRateOf ch num den

/-- The rate a candidate's phase wraps at: candidates that carry a count of seconds have none (R197, R198). -/
def State.refRate (s : State) (r : Fin 66) : Option (Nat × Nat) :=
  if r.val < 16 then s.phaseRateOf r (s.cand r).num (s.cand r).den
  else if (s.cand r).time then none
  else match laneOf r with | some l => some (s.linkRate l) | none => none

/-- Nominal rate of a candidate's stamps or samples (R196, R199, R262). A PTP port's samples come at its Sync rate. -/
def State.updRate (s : State) (r : Fin 66) : Nat × Nat :=
  if r.val < 16 then (s.stampRateOf r (s.cand r).num (s.cand r).den).getD (1, 1)
  else if r.val = 64 then (1, 1)
  else if r.val = 65 then (1000, 1)
  else match laneOf r with
    | some l =>
      if (s.cand r).time then
        let g := (s.lane l).parSync.getD s.ptp.syncLog
        (if g < 0 then (2 ^ g.natAbs, 1) else (1, 2 ^ g.natAbs))
      else s.linkRate l
    | none => (1, 1)

/-- A phase reduced to the candidate's period (R131, R260). -/
def State.wrapRef (s : State) (r : Fin 66) (x : Int) : Int :=
  match s.refRate r with | some (n, d) => phaseAt x n d | none => x

/-- Domain time less the Metronome at Kettle instant `k`, and for candidate 65 less the partner's for the same domain
(R260, R424). -/
def State.phaseOfs (s : State) (d : Fin 8) (r : Fin 66) (k : Nat) : Int :=
  s.domAt d k - s.metroAt k - (if r.val = 65 then s.pair.partner.ofs.getD d.val 0 else 0)

/-- A target's phase against DPLL `d`: its phase against the Metronome at Kettle instant `k`, with the domain's time in
the Metronome's place (R236, R260). -/
def State.dpllPhase (s : State) (d : Fin 8) (r : Fin 66) (k : Nat) (ph : Int) : Int :=
  if d.val = 0 then ph else s.wrapRef r (ph + s.phaseOfs d r k)

/-- A target is treated as a frequency reference by DPLL `d` (R242). -/
def State.asFreq (s : State) (d : Fin 8) (r : Fin 66) : Bool := !(s.cand r).time || (decide (d.val ≠ 0) && (s.dpll d).taf)

/-! ### Bandwidth (R262, R264) -/

/-- Bandwidth of the step in force, or the final one, in uHz (R264). -/
def Dpll.bwNow (d : Dpll) : Nat :=
  match d.steps[d.stepIdx]? with | some (b, _) => max b d.bw | none => d.bw

/-- A twentieth of the nominal update rate in uHz (R262). -/
def State.bwClamp (s : State) (d : Fin 8) : Option Nat :=
  (s.dpll d).cur.map fun r => let u := s.updRate r; u.1 * 50000 / u.2

/-- BW_EFF in uHz as the next detector update takes it (R262, R263). -/
def State.bwEff (s : State) (d : Fin 8) : Nat :=
  match s.bwClamp d with | some b => min (s.dpll d).bwNow b | none => (s.dpll d).bwNow

/-- BW_CLAMPED as the next detector update takes it (R262). -/
def State.bwClamped (s : State) (d : Fin 8) : Bool :=
  match s.bwClamp d with | some b => decide (b < (s.dpll d).bwNow) | none => false

/-- The time within LOCK_THR that makes LOCKED, in 2^-16 ns (R267). -/
def Dpll.lockSpan (d : Dpll) : Nat :=
  if d.lockTime ≠ 0 then d.lockTime * secU else max secU (2000000 * secU / max 1 d.bwUse)

/-! ### The Kettle model (R266, R275) -/

/-- c in FREERUN: the negative of the Kettle offset estimate, 0 while it is not valid (R266, R504). -/
def State.freerunC (s : State) : Int := if s.age.offsetValid then rdiv (-s.age.offset * 2 ^ 64) (10 ^ 15) else 0

/-- The model's uncertainties ud, uk, sk; the limits of R177 while it is not valid (R275). -/
def State.modelUnc (s : State) (m : Model) : Nat × Nat × Nat :=
  if m.valid then (m.ud, m.uk, m.sk)
  else (if decide (30 * 86400 * secU ≤ s.kettle.ran + s.now) then 20000 else 200000, 2000, 3000)

/-- The model in force for a DPLL: frozen from its entry edge while it holds (R505). -/
def State.modelOf (s : State) (d : Fin 8) : Model :=
  let x := s.dpll d
  if x.dstate = .holdover ∨ x.bridging then x.hoModel else s.age.model

/-- The terms of R273 that apply to an update now: drift, temperature. -/
def State.termsNow (s : State) (d : Fin 8) : Bool × Bool :=
  let x := s.dpll d
  let m := s.modelOf d
  (x.driftEn && m.valid, x.tempEn && m.valid)

/-- c(t) of R273 at Metronome second `sec`: the average less the ageing and temperature terms that apply. -/
def State.holdC (s : State) (d : Fin 8) (sec : Int) : Int :=
  let x := s.dpll d
  let m := s.modelOf d
  let drift := if (s.termsNow d).1 then m.dK * (2 * sec - x.hoCentre) * 100 else 0
  let temp := if (s.termsNow d).2 then m.kK * (s.age.caseTemp - x.hoTc) * 86400 * 2 else 0
  x.hoAvg - rdiv ((drift + temp) * 2 ^ 64) (2 * 86400 * 100 * 10 ^ 15)

/-! ### The holdover average (R270 to R272) -/

/-- Seconds or minutes that counted: weight, mean c, case temperature, twice the middle second. -/
structure AvgIn where
  w : Nat
  c : Int
  temp : Int
  mid2 : Int

/-- What counted within [lo, hi] of the 1 s tier, or of the 1 min tier with the minutes wholly inside (R271). -/
def Arc.window (a : Arc) (d : Nat) (tier : Nat) (lo hi : Int) : List AvgIn :=
  let per : Int := if tier = 0 then 1 else 60
  a.entries.filterMap fun e =>
    let x := e.dpll.getD d ArcDpll.init
    if e.tier = tier ∧ lo ≤ e.interval * per ∧ (e.interval + 1) * per ≤ hi ∧ x.lockedS ≠ 0 ∧ !e.ecc then
      some { w := x.lockedS, c := x.cMean, temp := e.caseTemp, mid2 := (2 * e.interval + 1) * per }
    else none

/-- Weighted mean, rounded to nearest (log 16). -/
def avgBy (l : List AvgIn) (f : AvgIn → Int) : Int :=
  rdiv (l.foldl (fun a x => a + x.w * f x) 0) (l.foldl (fun a x => a + x.w) 0)

/-- Standard uncertainty of the mean of `l` in 10^-18 (R275, log 17). -/
def avgUnc (l : List AvgIn) : Nat :=
  let m := avgBy l (·.c)
  let q : Nat := l.foldl (fun a x => a + (x.c - m).natAbs ^ 2) 0
  let n := l.length
  if n < 2 then 0 else isqrt (q * 10 ^ 36 / (n * (n - 1))) / 2 ^ 64

/-- The value that would apply if the DPLL stopped following now: window, then the last 60 s followed, then FREERUN
(R270 to R272). -/
def State.prepare (d : Fin 8) (s : State) : State :=
  let x := s.dpll d
  let l : Int := s.msec
  let hi := l - x.guard
  let win := s.arc.window d.val (if x.guard + x.window ≤ 7200 then 0 else 1) (hi - x.window) hi
  let used := win.foldl (fun a v => a + v.w) 0
  let last := x.followC.map fun p => { w := 1, c := p.2.1, temp := p.2.2, mid2 := 2 * (p.1 : Int) + 1 : AvgIn }
  s.dpllMod d fun y =>
    if 60 ≤ used then
      { y with hoAvg := avgBy win (·.c), hoCentre := 2 * hi - x.window, hoTc := avgBy win (·.temp),
               hoUavg := avgUnc win, windowUsed := used, hoShort := false }
    else if 60 ≤ last.length then
      { y with hoAvg := avgBy last (·.c), hoCentre := avgBy last (·.mid2), hoTc := avgBy last (·.temp),
               hoUavg := avgUnc last, windowUsed := used, hoShort := true }
    else
      { y with hoAvg := s.freerunC, hoCentre := 2 * l, hoTc := s.age.caseTemp,
               hoUavg := if s.age.offsetValid then s.age.offsetUnc * 1000 else 0, windowUsed := used, hoShort := true }

/-- The load of the holdover register that is in force. -/
def Dpll.hoLoad (d : Dpll) : HoLoad :=
  { avg := d.hoAvg, reg := d.hoReg, centre := d.hoCentre, tc := d.hoTc, uavg := d.hoUavg, used := d.windowUsed, short := d.hoShort,
    terms := d.regTerms }

/-- A holdover entered in the cycle of a load uses the one before (R288). -/
def Dpll.unload (now : Nat) (d : Dpll) : Dpll :=
  if d.hoAt = some now then
    let o := d.hoOld
    { d with hoAvg := o.avg, hoReg := o.reg, hoCentre := o.centre, hoTc := o.tc, hoUavg := o.uavg, windowUsed := o.used,
             hoShort := o.short, regTerms := o.terms, hoAt := none }
  else d

/-- The holdover register is loaded once each second while the DPLL does not hold (R270). -/
def State.loadHold (d : Fin 8) (s : State) : State :=
  let x := s.dpll d
  if x.dstate = .disabled ∨ x.dstate = .holdover ∨ x.bridging then s
  else
    let s := (s.dpllMod d fun y => { y with hoOld := y.hoLoad, hoAt := some s.now }).prepare d
    s.dpllMod d fun y => { y with hoReg := s.holdC d s.msec, regTerms := s.termsNow d }

/-! ### Estimated errors (R274, R275, R277) -/

/-- The reference's own time uncertainty in ps; of candidate 65 the TE_EST of the partner's same DPLL as the held
snapshot has it, before the first that of the heartbeat (R274, R427; log 55). -/
def State.teRef (s : State) (d : Fin 8) (r : Fin 66) : Nat :=
  if r.val = 64 then s.gnss.timeUnc.getD s.gnss.uncLast
  else if r.val = 65 then s.pair.snap.teEst.getD d.val s.pair.partner.teEst + 50
  else match laneOf r with | some l => (s.lane l).teRef | none => 0

/-- rms of the last 64 errors in ps (R274). -/
def Dpll.errRms (d : Dpll) : Nat :=
  let n := d.errs.length
  if n = 0 then 0 else toPs (isqrt (d.errs.foldl (fun a e => a + e.natAbs ^ 2) 0 / n))

/-- Seconds since the entry edge (R275). -/
def State.hoT (s : State) (d : Fin 8) : Nat := (s.now - (s.dpll d).hoFrom) / secU

/-- TE_EST in holdover `t` seconds after the entry edge, the integrals given, in ps; `tc` in half seconds (R275). -/
def teHold (u uk ud sk te0 t tempInt cold : Nat) (tc : Int) : Nat :=
  te0 + (u + 1000 * sk) * t / 10 ^ 6 + ((ud : Int) * (t * t + tc * t) / 172800000).toNat + uk * tempInt / 100000 + 1000000 * cold

/-- TE_EST at this instant, in ps (R274, R275). -/
def State.teNow (s : State) (d : Fin 8) : Nat :=
  let x := s.dpll d
  match x.cur with
  | some r => s.teRef d r + toPs x.buildOut.natAbs + x.errRms
  | none =>
    if x.dstate = .holdover ∨ x.bridging then
      let (ud, uk, sk) := s.modelUnc x.hoModel
      teHold x.hoUavg uk ud sk x.te0 (s.hoT d) x.hoTempInt x.hoCold (2 * x.hoEntry - x.hoCentre)
    else 0

/-- FE_EST at this instant, in 10^-15; outside HOLDOVER at t = 0 (R274, R275). -/
def State.feNow (s : State) (d : Fin 8) : Nat :=
  let x := s.dpll d
  if x.dstate = .disabled then 0xFFFFFFFF
  else
    let hold := decide (x.dstate = .holdover)
    let (ud, uk, sk) := s.modelUnc (if hold then x.hoModel else s.age.model)
    let tau : Int := if hold then 2 * s.hoT d + (2 * x.hoEntry - x.hoCentre) else 2 * (s.msec : Int) - x.hoCentre
    satU 32 (x.hoUavg / 1000 + sk + ((ud : Int) * tau / 172800).toNat + uk * (s.age.caseTemp - x.hoTc).natAbs / 100 +
             (if s.kettle.warm then 0 else 10 ^ 9))

/-- The budget in force in ps: BUDGET lowered by the plan's DERATE (R277, R510). -/
def State.budgetPs (s : State) (d : Fin 8) : Nat := (s.dpll d).budget * 1000 * s.age.plan.derate / 256

/-- TE_EST, FE_EST and HO_OVER_BUDGET as they stand now (R274, R277). -/
def State.refreshTe (d : Fin 8) (s : State) : State :=
  let te := satU 32 (s.teNow d)
  let fe := s.feNow d
  let x := s.dpll d
  let clear := decide (x.dstate = .locked) && !x.stepPending
  let isOver := x.teValid && decide (s.budgetPs d < te)
  let s := if isOver && !x.overBudget then s.count (0x0600 + 16 * d.val + 5) else s
  s.dpllMod d fun y => { y with teEst := te, feEst := fe, overBudget := isOver || (y.overBudget && !clear) }

/-- A change of budget is judged at once for every DPLL (R277, R510). -/
def budgetAll (s : State) : State := forFin 8 State.refreshTe s

/-- TE_EST would reach the budget within `t` seconds of now, |T - Tc| as it stands (R276). -/
def State.reaches (s : State) (d : Fin 8) (t : Nat) : Bool :=
  let x := s.dpll d
  let hold := decide (x.dstate = .holdover)
  let (ud, uk, sk) := s.modelUnc (s.modelOf d)
  let t0 := if hold then s.hoT d else 0
  let te0 := if hold then x.te0 else x.teEst
  let tc : Int := if hold then 2 * x.hoEntry - x.hoCentre else 2 * (s.msec : Int) - x.hoCentre
  let int := (if hold then x.hoTempInt else 0) + t * (s.age.caseTemp - x.hoTc).natAbs
  let cold := (if hold then x.hoCold else 0) + (if s.kettle.warm then 0 else t)
  decide (s.budgetPs d ≤ teHold x.hoUavg uk ud sk te0 (t0 + t) int cold tc)

/-- The least t below 2^b that reaches the budget, added to `lo`. -/
def State.reachGo (s : State) (d : Fin 8) : Nat → Nat → Nat
  | 0, lo => lo
  | b + 1, lo => s.reachGo d b (if s.reaches d (lo + 2 ^ b - 1) then lo else lo + 2 ^ b)

/-- TO_BUDGET (R276). -/
def State.toBudget (s : State) (d : Fin 8) : Nat :=
  if !(s.dpll d).teValid then 0xFFFFFFFF else satU 32 (s.reachGo d 32 0)

/-! ### DSTATE and holdover (R266, R269) -/

/-- HO_CAUSE codes (R269, R295). -/
def HoCause.code : HoCause → Nat
  | .none => 0 | .noRef => 1 | .forced => 2 | .root => 3 | .reset => 4

/-- A change of DSTATE, logged (R268, R295, R296). -/
def State.setDState (d : Fin 8) (n : DState) (s : State) : State :=
  let x := s.dpll d
  if x.dstate = n then s
  else
    let s := if n = .holdover then s.count (0x0600 + 16 * d.val) else s
    let s := if x.dstate = .locked ∧ n = .acquiring then s.count (0x0600 + 16 * d.val + 1) else s
    let s := s.dpllMod d fun y => { y with dstate := n, stFrom := s.now, since := s.mt, lockFrom := none, badRun := 0 }
    s.log 0x05 0x01 d.val [wd (x.dstate.code * 256 + n.code + x.hoCause.code * 65536)]

/-- Feeding stops: the entry edge of a holdover, te0 and the model taken, the output on the holdover value; the step
pending, the steering and the build-out go with the reference (R233, R269, R281, R505). -/
def State.feedStop (d : Fin 8) (s : State) : State :=
  let x := s.dpll d
  if x.dstate = .disabled ∨ x.dstate = .holdover ∨ x.bridging then s.dpllMod d fun y => { y with cur := none }
  else
    let follows := decide (x.dstate = .acquiring) || decide (x.dstate = .locked)
    let te := satU 32 (s.teNow d)
    let s := s.dpllMod d fun y =>
      let y := y.unload s.now
      { y with cur := none, bridging := follows, bridgeFrom := s.now, hoFrom := s.now, hoEntry := s.msec, te0 := te,
               hoTempInt := 0, hoCold := 0, hoModel := s.age.model, stepPending := false, steering := false,
               slewing := false, buildOut := 0, lastErr := none, lockFrom := none, badRun := 0,
               pullLimited := false }
    if follows then s.dpllMod d fun y => { y with c := y.hoReg, terms := y.regTerms } else s

/-- The offset follows the reference of DPLL0 (R126; log 56). -/
def State.utcFollow (d : Fin 8) (s : State) : State := if d.val = 0 then utcUpdate s else s

/-- Feeding stops; without its reference DPLL0 loses that source of the offset (R126, R233, R269). -/
def State.holdStart (d : Fin 8) (s : State) : State := (s.feedStop d).utcFollow d

/-- From FREERUN c_avg is the FREERUN value, with HO_SHORT (R294). -/
def State.freerunHold (d : Fin 8) (s : State) : State :=
  s.dpllMod d fun y =>
    { y with hoReg := s.freerunC, c := s.freerunC, hoAvg := s.freerunC, hoShort := true, hoCentre := 2 * s.msec,
             terms := (false, false), hoTc := s.age.caseTemp, hoUavg := if s.age.offsetValid then s.age.offsetUnc * 1000 else 0 }

/-- A DPLL that bridges meets an entry edge of its own: t, te0 and the model start from it (R269). -/
def State.entryEdge (d : Fin 8) (s : State) : State :=
  let te := satU 32 (s.teNow d)
  s.dpllMod d fun y => { y with hoFrom := s.now, hoEntry := s.msec, te0 := te, hoTempInt := 0, hoCold := 0, hoModel := s.age.model }

/-- The DPLL enters HOLDOVER with a cause: NO_REF at the edge at which its feeding stopped, the others now; one that holds
already takes the cause (R269, R286, R287, R294). -/
def State.enterHold (d : Fin 8) (cause : HoCause) (s : State) : State :=
  let x := s.dpll d
  if x.dstate = .disabled then s
  else if x.dstate = .holdover then s.dpllMod d fun y => { y with cur := none, hoCause := cause }
  else
    let s := if x.bridging ∧ cause ≠ .noRef then s.entryEdge d else s
    let s := s.holdStart d
    let s := s.dpllMod d fun y => { y with bridging := false, hoCause := cause }
    let s := if x.dstate = .freerun then s.freerunHold d else s
    (s.setDState d .holdover).refreshTe d

/-- FREERUN begins, with the holdover register loaded (R266, R270, R290). -/
def State.toFreerun (d : Fin 8) (s : State) : State :=
  ((s.setDState d .freerun).dpllMod d fun y =>
    { y with c := s.freerunC, followed := false, teValid := false, errs := [], followC := [], stepIdx := 8, dwell := 0 }).loadHold d

/-! ### The detector update (R243, R260, R261, R267) -/

/-- The clamp of PULL_LIMIT in 2^-64 (R261). -/
def Dpll.pullMax (d : Dpll) : Int := (d.pullLimit * 2 ^ 64 / 10 ^ 6 : Nat)

/-- A phase hit: the change of the error goes into the build-out, so the loop sees no step (R243). -/
def State.absorb (d : Fin 8) (r : Fin 66) (e : Int) (s : State) : Int × State :=
  let x := s.dpll d
  match x.lastErr with
  | some l =>
    if s.asFreq d r && decide (x.hitLimit ≠ 0) && decide (x.hitLimit * 65536 < (s.wrapRef r (e - l)).natAbs * 1000) then
      let dv := s.wrapRef r (e - l)
      (l, ((s.dpllMod d fun y => { y with buildOut := y.buildOut + dv }).count (0x0500 + 16 * d.val + 5)).log 0x04 0x05 d.val (s64 dv))
    else (e, s)
  | none => (e, s)

/-- Bandwidth, damping and schedule step take effect at a detector update (R263, R295). -/
def State.takeBw (d : Fin 8) (s : State) : State :=
  s.dpllMod d fun y =>
    { y with bwUse := s.bwEff d, clampUse := s.bwClamped d, dampUse := y.damping,
             stepUse := if y.stepIdx < y.steps.length then y.stepIdx else 8 }

/-- A gain times the error, in 2^-64. -/
def gained (g e : Int) : Int := rdiv (g * e) (2 ^ 32)

/-- The loop filter's step on error `e`, proportional plus integral: c is the integrator and the proportional term,
within the clamp, and the integrator stops while c is at the clamp. The gains are the module's own (R261, log 10). -/
def State.filter (d : Fin 8) (e : Int) (s : State) : State :=
  let x := s.dpll d
  let i := x.integ + gained (Config.gainI x.bwUse x.dampUse (match x.cur with | some r => s.updRate r | none => (1, 1))) e
  let c := clampI (-x.pullMax) x.pullMax (i + gained (Config.gainP x.bwUse x.dampUse) e)
  let lim := decide (c.natAbs = x.pullMax.natAbs)
  let s := if lim && !x.pullLimited then s.count (0x0600 + 16 * d.val + 4) else s
  s.dpllMod d fun y => { y with c := c, integ := if lim then y.integ else i, pullLimited := lim, pullFrom := if lim && !y.pullLimited then s.now else y.pullFrom }

/-- Lock is judged at an update, but not in MEASURE and HANDOVER (R267). -/
def State.judgeLock (d : Fin 8) (e : Int) (s : State) : State :=
  let x := s.dpll d
  if x.sw = .measure ∨ x.sw = .handover then s
  else if x.dstate = .acquiring then
    if e.natAbs * 1000 ≤ x.lockThr * 65536 then
      let f := x.lockFrom.getD s.now
      let s := s.dpllMod d fun y => { y with lockFrom := some f }
      if s.past f x.lockSpan then s.setDState d .locked else s
    else s.dpllMod d fun y => { y with lockFrom := none }
  else if x.dstate = .locked then
    if 4 * x.lockThr * 65536 < e.natAbs * 1000 then
      if x.badRun + 1 ≥ 4 then s.setDState d .acquiring else s.dpllMod d fun y => { y with badRun := y.badRun + 1 }
    else s.dpllMod d fun y => { y with badRun := 0 }
  else s

/-- One detector update on a valid sample: `ph` is the target's phase against the Metronome at Kettle instant `k`
(R260). In HANDOVER the output frequency is held (R235). -/
def State.update (d : Fin 8) (r : Fin 66) (k : Nat) (ph : Int) (s : State) : State :=
  let e := s.wrapRef r (s.dpllPhase d r k ph - (s.dpll d).buildOut)
  let (e, s) := (s.takeBw d).absorb d r e
  let s := s.dpllMod d fun y =>
    { y with err := sat64 e, lastErr := some e, errs := ((y.errs ++ [e]).drop (y.errs.length + 1 - 64)),
             secE := y.secE + e, secEE := y.secEE + e.natAbs ^ 2, secEMax := max y.secEMax e.natAbs, secN := y.secN + 1 }
  let s := if (s.dpll d).sw = .handover then s else s.filter d e
  (s.judgeLock d e).refreshTe d

end Sys2Proof.Machine
end

