-- ==== Sys2Proof/Machine/Select.lean ====
section
/-!
DEFINITION. Selection and hitless switching: the wanted reference and NEXT, the three-phase switch, what a lost
reference does in each phase, and the samples a DPLL takes (R226 to R248, R264, R265, R280 to R290).
-/

namespace Sys2Proof.Machine

/-! ### Lines through samples (R203, R236) -/

/-- Value at `x` of the least-squares line through points, rounded to nearest (log 16). -/
def lineAt (l : List (Int × Int)) (x : Int) : Int :=
  let x0 := (l.headD (0, 0)).1
  let n : Int := l.length
  let sx := l.foldl (fun a p => a + (p.1 - x0)) 0
  let sy := l.foldl (fun a p => a + p.2) 0
  let sxx := l.foldl (fun a p => a + (p.1 - x0) * (p.1 - x0)) 0
  let sxy := l.foldl (fun a p => a + (p.1 - x0) * p.2) 0
  let det := n * sxx - sx * sx
  if det ≤ 0 then rdiv sy l.length else rdiv (sy * sxx - sx * sxy + (x - x0) * (n * sxy - sx * sy)) det.toNat

/-- A candidate's samples with each phase next to the one before it, not reduced to the period (R236). -/
def State.unwrap (s : State) (r : Fin 66) : Option Int → List Sample → List (Int × Int)
  | _, [] => []
  | none, x :: l => ((x.at_ : Int), x.ph) :: s.unwrap r (some x.ph) l
  | some p, x :: l =>
    let y := p + s.wrapRef r (x.ph - p)
    ((x.at_ : Int), y) :: s.unwrap r (some y) l

/-- Mean of phases, taken beside the first (R236). -/
def State.meanPhase (s : State) (r : Fin 66) : List Int → Int
  | [] => 0
  | p :: l => s.wrapRef r (p + rdiv ((p :: l).foldl (fun a v => a + s.wrapRef r (v - p)) 0) (l.length + 1))

/-! ### What a DPLL wants (R226 to R230) -/

/-- `r` is eligible for DPLL `d` and is not the one passed over. -/
def State.may (s : State) (d : Fin 8) (skip : Option (Fin 66)) (r : Fin 66) : Bool :=
  decide (some r ≠ skip) && s.eligible d r

/-- PRIORITY of a candidate for DPLL `d`. -/
def State.prio (s : State) (d : Fin 8) (r : Fin 66) : Nat := (vget (s.dpll d).use r).prio

/-- The best eligible candidate: lowest PRIORITY, then lowest ID (R227). -/
def State.best (s : State) (d : Fin 8) (skip : Option (Fin 66)) : Option (Fin 66) :=
  (List.finRange 66).foldl
    (fun b r => if s.may d skip r then (match b with
      | none => some r
      | some x => if s.prio d r < s.prio d x then some r else some x) else b) none

/-- The wanted reference, with `skip` treated as not eligible (R228, R229, R230, R294). -/
def State.want (s : State) (d : Fin 8) (skip : Option (Fin 66)) : Option (Fin 66) :=
  let x := s.dpll d
  let ok := fun o : Option (Fin 66) => match o with | some r => s.may d skip r | none => false
  let keep := if ok x.cur then x.cur else none
  if x.forced then none
  else if decide (s.pair.role = .standby) && decide (skip ≠ some 65) && decide ((s.cand 65).st = .qualified) then some 65
  else if x.forcedMode then (if ok x.manual then x.manual else none)
  else if ok x.manual && (x.revert || keep.isNone) then x.manual
  else match keep, s.best d skip with
    | some k, some b => if !x.revert || decide (s.prio d k ≤ s.prio d b) then some k else some b
    | _, b => b

/-- NEXT is formed with the present reference treated as not eligible; no other candidate is wanted where a standby follows
candidate 65 and that stays QUALIFIED (R229, R230). -/
def State.setNext (d : Fin 8) (s : State) : State :=
  let cur := (s.dpll d).cur
  let n := s.want d cur
  let stay := decide (s.pair.role = .standby) && decide (cur = some 65) && decide ((s.cand 65).st = .qualified)
  s.dpllMod d fun y => { y with next := if stay then none else n }

/-! ### The start and the end of a switch (R235, R237, R240) -/

/-- A switch to `r` starts with MEASURE (R235, R240, R251, R257). -/
def State.startSwitch (d : Fin 8) (r : Fin 66) (s : State) : State :=
  let x := s.dpll d
  if x.dstate = .disabled then s
  else
    let s := s.count (0x0500 + 16 * d.val)
    let s := if x.manual = some r ∧ x.cur.isSome ∧ x.cur ≠ some r then s.count (0x0500 + 16 * d.val + 2) else s
    let s := s.dpllMod d fun y =>
      { y with sw := .measure, target := some r, swFrom := s.now, phFrom := s.now, swOld := y.cur, swO := 0,
               swLost := false, swAct := false, swSamples := [], swUpdates := 0, pendingEval := false,
               swTaf := y.timeAsFreq, swThr := y.stepThr }
    (s.chime 7).log 0x04 0x02 d.val [wd (refCode x.cur * 256 + r.val)]

/-- The DPLL becomes DISABLED; its domain keeps its present c (R250, R290). -/
def State.disable (d : Fin 8) (s : State) : State :=
  let c := (s.dpll d).c
  let s := s.holdStart d
  let s := s.dpllMod d fun y =>
    { y with c := c, cur := none, target := none, next := none, sw := .none, bridging := false, enable := false,
             offDue := false, pendingEval := false, evalDue := false, teValid := false, hoCause := .none, forced := false }
  s.setDState d .disabled

/-- A switch ends: counted, LAST_OUTCOME, Chime and log; the evaluation of R231 becomes due. An ENABLE 0 that waited for
the end acts (R237, R240, R257, R291). -/
def State.endSwitch (d : Fin 8) (outcome : Nat) (s : State) : State :=
  let x := s.dpll d
  if x.sw = .none then s
  else
    let s := s.dpllMod d fun y =>
      { y with sw := .none, target := none, lastOutcome := outcome, pendingEval := false, evalDue := true, swSamples := [] }
    let s := if outcome < 2 then s else s.count (0x0500 + 16 * d.val + outcome + 1)
    let s := (s.chime 7).log 0x04 0x03 d.val
      (wd (refCode x.swOld * 256 + refCode x.target + outcome * 65536) :: s64 x.swO)
    if x.offDue then s.disable d else s

/-! ### Loss of a reference (R32, R233, R234, R238) -/

/-- Activity follows a condition, not edges: VIDEO and TIME link sources (R199, R200). -/
def State.actByCond (s : State) (r : Fin 66) : Bool :=
  if r.val < 16 then decide ((s.chan r).mode = 2) else decide (r.val < 64) && (s.cand r).time

/-- Nominal rate of what the frequency monitor takes: stamps, or phase samples (R196). -/
def State.freqRate (s : State) (r : Fin 66) : Nat × Nat :=
  match laneOf r with
  | some l => if (s.chan r).enable then s.linkRate l else s.updRate r
  | none => s.updRate r

/-- The loss limit after the last stamp or mark, 2^-16 ns (R199); none where partner loss or a condition decides. -/
def State.actSpan (s : State) (r : Fin 66) : Option Nat :=
  if s.actByCond r ∨ r.val = 65 then none
  else
    let u := if r.val = 64 then (1, 1) else s.freqRate r
    some ((s.cand r).actMult * u.2 * secU / (10 * u.1))

/-- Candidate `r` has activity: a loss that falls due at this very instant has taken it (R199, R241). -/
def State.hasAct (s : State) (r : Fin 66) : Bool :=
  (s.cand r).act &&
  match s.actSpan r, (if (s.cand r).lastAt.isSome then (s.cand r).lastAt else (s.cand r).winFrom) with
  | some p, some a => decide (s.now < a + p)
  | _, _ => true

/-- The hardware turns to NEXT if it has activity; else the DPLL enters HOLDOVER and is to be evaluated (R233). A DPLL
in FREERUN stays there (R266). -/
def State.fallback (d : Fin 8) (s : State) : State :=
  let x := s.dpll d
  if x.dstate = .disabled then s
  else
    match x.next with
    | some n =>
      if s.hasAct n ∧ s.losing n = false then s.startSwitch d n
      else (if x.dstate = .freerun then s else s.enterHold d .noRef).dpllMod d fun y => { y with evalDue := true }
    | none => (if x.dstate = .freerun then s else s.enterHold d .noRef).dpllMod d fun y => { y with evalDue := true }

/-- What DPLL `d` does in the cycle in which candidate `r` loses activity (R233, R238, R241). -/
def State.lostOne (r : Fin 66) (d : Fin 8) (s : State) : State :=
  let x := s.dpll d
  if x.dstate = .disabled then s
  else
    let s := if x.sw = .measure ∧ x.target = some r then s.dpllMod d fun y => { y with swLost := true, swAct := true } else s
    if x.cur ≠ some r then s
    else
      let s := s.count (0x0500 + 16 * d.val + 1)
      match x.sw with
      | .measure => s.holdStart d
      | .none => (s.holdStart d).fallback d
      | _ => ((s.endSwitch d 3).holdStart d).fallback d

/-- Candidate `r` has lost activity: the selectors act in the same cycle (R200, R233). -/
def State.lostAct (r : Fin 66) (s : State) : State := forFin 8 (State.lostOne r) s

/-- What DPLL `d` does when candidate `r` leaves QUALIFIED and keeps its activity (R234, R238). -/
def State.unqualOne (r : Fin 66) (d : Fin 8) (s : State) : State :=
  let x := s.dpll d
  if x.dstate = .disabled then s
  else
    let s := if x.sw = .measure ∧ x.target = some r then s.dpllMod d fun y => { y with swLost := true } else s
    if x.cur ≠ some r then s
    else
      let s := if x.sw = .none ∨ x.sw = .measure then s else s.endSwitch d 3
      (s.holdStart d).dpllMod d fun y => { y with evalDue := decide (y.dstate ≠ .disabled) }

/-- Candidate `r` has left QUALIFIED without a loss of activity (R234). -/
def State.unqualified (r : Fin 66) (s : State) : State := forFin 8 (State.unqualOne r) s

/-- The unit of candidate `r` is powered down: a DPLL in a switch lets it end first (R32). -/
def State.removed (r : Fin 66) (s : State) : State :=
  forFin 8 (fun d s => if (s.dpll d).sw = .none then s.lostOne r d else s) s

/-- A switch has ended of itself; a reference removed meanwhile is now a lost one (R32). -/
def State.ended (d : Fin 8) (outcome : Nat) (s : State) : State :=
  let s := s.endSwitch d outcome
  match (s.dpll d).cur with
  | some r => if (s.cand r).st = .off then s.lostOne r d else s
  | none => s

/-! ### Evaluation (R231, R286, R287) -/

/-- An evaluation point of every DPLL (R231). -/
def evalAll (s : State) : State := forFin 8 (fun d s => s.dpllMod d fun y => { y with evalDue := decide (y.dstate ≠ .disabled) }) s

/-- The firmware evaluates the DPLL now: it is enabled, the root is locked and its INVALID span over, no reset shadow
of the DPLL runs, and the processor is up (R250, R286, R287, R450). -/
def State.canEval (s : State) (d : Fin 8) : Bool :=
  decide ((s.dpll d).dstate ≠ .disabled) && !s.ringed && s.sys.restartFrom.isNone &&
  !(s.flt.shadows.any fun x => decide (x.1 = 0x200 + 16 * d.val))

/-- Cause of a HOLDOVER without a reference wanted (R286, R287, R294). -/
def Dpll.noRefCause (d : Dpll) : HoCause := if d.forced then .forced else .noRef

/-- One evaluation: a switch starts, HOLDOVER begins or takes its cause, NEXT is formed; while a switch runs the result
is set aside (R230, R231, R232, R286). -/
def State.evaluate (d : Fin 8) (s : State) : State :=
  let x := s.dpll d
  let s := s.dpllMod d fun y => { y with evalDue := false }
  if x.sw ≠ .none then (s.dpllMod d fun y => { y with pendingEval := true }).setNext d
  else
    match s.want d none with
    | some r => (if x.cur = some r then s else s.startSwitch d r).setNext d
    | none =>
      if x.cur.isSome ∨ x.bridging ∨ x.dstate = .holdover then (s.enterHold d x.noRefCause).setNext d else s.setNext d

/-- EVALUATION (R231). -/
def execEvaluation (t : Nat) (d : Fin 8) (s : State) : Res :=
  let s := s.advance t
  if (s.dpll d).evalDue && s.canEval d then done (s.evaluate d) else done s

/-! ### MEASURE, HANDOVER, SETTLE (R235, R236, R242, R244, R245, R282) -/

/-- The offset O of the target: the mean of 16 or more samples of MEASURE, else the line through its last 64 (R236). -/
def State.measured (s : State) (d : Fin 8) (r : Fin 66) : Option Int :=
  let x := s.dpll d
  let h := if (s.cand r).time then (s.cand r).hist else (s.cand r).last64
  if 16 ≤ x.swSamples.length then some (s.meanPhase r x.swSamples)
  else match h, x.swSamples with
    | [], [] => none
    | [], l => some (s.meanPhase r l)
    | [_], [v] => some v
    | l, _ =>
      let o := lineAt (s.unwrap r none l) s.mt
      some (s.wrapRef r (if d.val = 0 then o else o + s.phaseOfs d r s.now))

/-- The schedule restarts at the first edge of HANDOVER (R265). -/
def State.restarts (s : State) (d : Fin 8) : Bool :=
  let x := s.dpll d
  decide (x.dstate = .freerun) || (decide (x.dstate = .holdover) && s.past x.hoFrom (x.restartAfter * secU)) || x.restartDue

/-- The first HANDOVER of DPLL0 that loads the Metronome (R120, R282). -/
def State.loads (s : State) (d : Fin 8) (r : Fin 66) : Bool :=
  decide (d.val = 0) && !s.timeValid && decide (16 ≤ r.val) && (s.cand r).time &&
  (decide (s.sys.mstate = .cold) || decide (s.sys.mstate = .acquire))

/-- The step that loads the Metronome with the reference's time: against the receiver's count for candidate 64 (R282,
R387). -/
def State.loadBy (s : State) (r : Fin 66) (o : Int) : Int :=
  match s.gnss.countBase with
  | some b => if r.val = 64 then b + s.now - o - s.mt else -o
  | none => -o

/-- The build-out at the first edge of HANDOVER (R242, R244, R245, R282, R285). -/
def State.buildOut (d : Fin 8) (r : Fin 66) (o : Int) (s : State) : State :=
  let x := s.dpll d
  if s.asFreq d r then s.dpllMod d fun y => { y with buildOut := o }
  else if s.loads d r then utcUpdate (metroStep (s.loadBy r o) 2 (dropCount s)).setValid
  else if !x.beyond o then s.dpllMod d fun y => { y with buildOut := o, steering := decide (o ≠ 0), steerRem := 0 }
  else if s.sys.mstate = .recovery then s.dpllMod d fun y => { y with buildOut := o, slewing := true, steerRem := 0 }
  else (s.dpllMod d fun y => { y with buildOut := o, stepPending := true }).count (0x0600 + 16 * d.val + 2)

/-- The phase detector moves to the target with O applied (R235, R246, R265, R266). SINCE is the reading after a load
(R565). -/
def State.moveTo (d : Fin 8) (r : Fin 66) (o : Int) (s : State) : State :=
  let x := s.dpll d
  let again := s.restarts d
  let s := s.dpllMod d fun y =>
    { y with sw := .handover, phFrom := s.now, cur := some r, bridging := false, swO := o, followed := true, taf := y.swTaf,
             hoCause := .none, steering := false, slewing := false, stepPending := false, buildOut := 0, lastErr := none,
             lockFrom := none, badRun := 0, stepIdx := if again then 0 else y.stepIdx, dwell := if again then 0 else y.dwell,
             restartDue := if again then false else y.restartDue, integ := if x.cur.isSome then y.integ else y.c }
  let s := (s.buildOut d r o).dpllMod d fun y => { y with teValid := !s.asFreq d r }
  ((if x.dstate = .locked then s else s.setDState d .acquiring).utcFollow d).refreshTe d

/-- MEASURE ends after 64 ms: with O the detector moves, else the DPLL bridges on (R235, R236, R238). -/
def execMeasureEnd (t : Nat) (d : Fin 8) (s : State) : Res :=
  let s := s.advance t
  let x := s.dpll d
  if x.sw = .measure ∧ s.past x.phFrom (64 * msU) then
    match x.target with
    | some r =>
      (match (if x.swLost then none else s.measured d r) with
       | some o => done (s.moveTo d r o)
       | none =>
         let s := s.dpllMod d fun y => { y with sw := .handover, phFrom := s.now, swLost := true }
         if x.cur.isSome then done (s.holdStart d) else done s)
    | none => done s
  else done s

/-- SETTLE ends 10 s after it began (R235, R239). -/
def execSettleTimeout (t : Nat) (d : Fin 8) (s : State) : Res :=
  let s := s.advance t
  let x := s.dpll d
  if x.sw = .settle ∧ s.past x.phFrom (10 * secU) then done (s.ended d 2) else done s

/-- A steered or slewed build-out is 0: STEERING or SLEWING clears; a RECOVERY slew is a step taken (R244, R285, R296). -/
def execSteeringEnd (t : Nat) (d : Fin 8) (s : State) : Res :=
  let s := s.advance t
  let x := s.dpll d
  if (x.steering || x.slewing) && decide (x.buildOut = 0) then
    let s := s.dpllMod d fun y => { y with steering := false, slewing := false, steerRem := 0 }
    done (if x.slewing then s.count (0x0600 + 16 * d.val + 3) else s)
  else done s

/-- PULL_LIMITED held for 1 s loses lock (R267). -/
def execPullLimitedTimeout (t : Nat) (d : Fin 8) (s : State) : Res :=
  let s := s.advance t
  let x := s.dpll d
  if x.pullLimited ∧ x.dstate = .locked ∧ (x.sw = .none ∨ x.sw = .settle) ∧ s.past x.pullFrom secU then
    done (s.setDState d .acquiring)
  else done s

/-- The dwell of the schedule step in force is over: the next step, or the final bandwidth (R264). -/
def execScheduleStepEnd (t : Nat) (d : Fin 8) (s : State) : Res :=
  let s := s.advance t
  let x := s.dpll d
  match x.steps[x.stepIdx]? with
  | some (_, w) =>
    if w * secU ≤ x.dwell then
      done (s.dpllMod d fun y =>
        { y with stepIdx := if y.stepIdx + 1 < y.steps.length then y.stepIdx + 1 else 8, dwell := 0 })
    else done s
  | none => done s

/-! ### Samples reach the DPLLs (R235, R260) -/

/-- SETTLE ends OK at the fourth consecutive update within SETTLE_THR (R235). -/
def State.settling (d : Fin 8) (s : State) : State :=
  let x := s.dpll d
  if x.sw ≠ .settle then s
  else
    let n := if x.err.natAbs * 100 ≤ x.settleThr * 65536 then x.swUpdates + 1 else 0
    let s := s.dpllMod d fun y => { y with swUpdates := n }
    if 4 ≤ n then s.ended d 1 else s

/-- A valid sample of candidate `r`: its phase `ph` against the Metronome at Kettle instant `k` (R236, R260). -/
def State.feedOne (r : Fin 66) (k : Nat) (ph : Int) (d : Fin 8) (s : State) : State :=
  let x := s.dpll d
  if x.dstate = .disabled then s
  else
    let s := if x.sw = .measure ∧ x.target = some r then
        (let v := s.dpllPhase d r k ph
         s.dpllMod d fun y => { y with swSamples := y.swSamples ++ [v] })
      else s
    if x.cur = some r then (s.update d r k ph).settling d else s

/-- A valid sample reaches every DPLL (R260). -/
def State.feed (r : Fin 66) (k : Nat) (ph : Int) (s : State) : State := forFin 8 (State.feedOne r k ph) s

/-! ### Root loss and block reset (R237, R238, R286, R287) -/

/-- Every DPLL that is enabled enters HOLDOVER with cause ROOT; switches end with TARGET_LOST (R238, R286). -/
def loopsRootLost (s : State) : State := forFin 8 (fun d s => (s.endSwitch d 3).enterHold d .root) s

/-- A block reset of a DPLL: its switch ends, c holds on the holdover value, a pending step clears; it is evaluated at
the end of the shadow. The integrator is reloaded from that value (R237, R287). -/
def dpllReset (d : Fin 8) (s : State) : State :=
  if (s.dpll d).dstate = .disabled then s
  else
    let s := (s.endSwitch d 3).enterHold d .reset
    s.dpllMod d fun y =>
      { y with pullLimited := false, evalDue := decide (y.dstate ≠ .disabled), integ := y.c,
               hoCause := if y.dstate = .disabled then .none else .reset }

end Sys2Proof.Machine
end

