-- ==== Sys2Proof/Machine/Refs.lean ====
section
/-!
DEFINITION. Reference qualification: activity, frequency and phase monitors, the candidate state machine, wait-to-restore,
discontinuity holds and the equal-rank cross-check (R195 to R216).
-/

namespace Sys2Proof.Machine

/-! ### The candidate's unit and the conditions of R199 -/

/-- The unit of a candidate is powered up; 65 exists on a pair module that is not active (R199, R206). -/
def State.refUp (s : State) (r : Fin 66) : Bool :=
  if r.val < 16 then (s.chan r).enable
  else if r.val = 64 then s.gnss.en
  else if r.val = 65 then s.pair.en && decide (s.pair.role ≠ .active)
  else match laneOf r with | some l => (s.lane l).en | none => false

/-- The condition of R199 of a VIDEO or TIME link source holds. -/
def State.actCond (s : State) (r : Fin 66) : Bool :=
  if r.val < 16 then
    let c := s.chan r
    decide (c.video = .frameLock) || (decide (c.video = .lineLock) && decide (c.event = 0))
  else match laneOf r with | some l => decide ((s.lane l).lstate = .up) && (s.lane l).timeAct | none => false

/-- The frequency monitor of `r` takes stamps (R196). -/
def State.freqByStamps (s : State) (r : Fin 66) : Bool :=
  decide (r.val < 16) || (decide (r.val < 64) && (s.chan r).enable)

/-- Length of a frequency window (R201, R220). -/
def State.fmLen (s : State) (r : Fin 66) : Nat :=
  let u := s.freqRate r
  let ts := (u.2 * secU + u.1 - 1) / max 1 u.1
  let w := (s.cand r).fmWindow
  max (if w = 0 then max secU (16 * ts) else w * msU) (3 * ts)

/-! ### The state word and the state machine (R206, R223) -/

/-- Codes of STATE (R206). -/
def QState.code : QState → Nat
  | .off => 0 | .lost => 1 | .qualifying => 2 | .qualified => 3 | .rejected => 4 | .restoring => 5

/-- A reject cause is set (R206). -/
def Cand.cause (c : Cand) : Bool := c.freqRej || c.phaseDisc || c.disagree || c.extRej

/-- Length of the discontinuity hold in s (R209). -/
def Cand.holdS (c : Cand) : Nat := max c.wtrTime 10

/-- Seconds left of a span that began at `f`. -/
def State.left (s : State) (f span : Nat) : Nat := (f + span * secU - s.now) / secU

/-- WTR_LEFT (R223). -/
def State.wtrLeft (s : State) (c : Cand) : Nat :=
  match c.st, c.wtrFrom, c.discFrom with
  | .restoring, some f, _ => s.left f c.wtrTime
  | _, _, some f => if c.phaseDisc then s.left f c.holdS else 0
  | _, _, none => 0

/-- The state word of a candidate (R223). -/
def State.refWord (s : State) (r : Fin 66) : Word :=
  let c := s.cand r
  pack [(c.st.code, 31, 29), pbit c.time 28, pbit c.act 27, pbit c.freqOk 26, pbit c.freqRej 25, pbit c.phaseDisc 24,
        pbit c.disagree 23, pbit c.extRej 22, pbit c.wtrEn 21, pbit c.noVerdict 20, pbit c.fmRaw 19, (s.wtrLeft c, 11, 0)]

/-- The state a candidate is in once its events are taken in (R206, R208, R209): `direct` after a discontinuity hold. -/
def Cand.judge (up direct : Bool) (c : Cand) : QState :=
  if !c.enable || !up then .off
  else if !c.act then .lost
  else if c.cause then .rejected
  else if c.st = .qualified then .qualified
  else if c.st = .restoring then .restoring
  else if c.freqAcc && (!c.time || decide (4 ≤ c.hist.length)) then
    (if c.wtrEn && c.everQual && !direct then .restoring else .qualified)
  else .qualifying

/-- The candidate in state `n`: SINCE, counts and the wait-to-restore (R206, R208, R225). -/
def Cand.enter (n : QState) (at_ now : Nat) (c : Cand) : Cand :=
  if c.st = n then c
  else
    { c with st := n, since := at_, wtrFrom := if n = .restoring then some now else none,
             everQual := c.everQual || decide (n = .qualified),
             qualCount := if n = .qualified then satU 16 (c.qualCount + 1) else c.qualCount,
             rejCount := if n = .rejected then satU 16 (c.rejCount + 1) else c.rejCount }

/-- REF_DISAGREE follows the pairs that disagree without an arbiter (R214, R216). -/
def State.disOne (d : Fin 8) (s : State) : State :=
  let on := s.ref.xruns.any fun x => decide (x.dpll = d) && decide (3 ≤ x.n)
  if on = s.ref.refDisagree.getLsbD d.val then s
  else ((s.onRef fun u => { u with refDisagree := u.refDisagree ^^^ BitVec.ofNat 8 (2 ^ d.val) }).log 0x04 0x04 d.val [wd on.toNat]).chime 6

/-- Every DPLL's REF_DISAGREE (R214). -/
def State.disAll (s : State) : State := forFin 8 State.disOne s

/-- A candidate that is no longer a member ends its pairs (R211). -/
def State.dropPairs (r : Fin 66) (s : State) : State :=
  (s.onRef fun u => { u with xruns := u.xruns.filter fun x => decide (x.a ≠ r.val) && decide (x.b ≠ r.val) }).disAll

/-- A candidate's record changes by `f`; its state is judged, the change logged with Chime REF, the DPLLs told (R206,
R216, R231, R234). -/
def State.candSet (r : Fin 66) (f : Cand → Cand) (direct : Bool) (s : State) : State :=
  let o := s.cand r
  let w := s.refWord r
  let s := s.candMod r f
  let n := (s.cand r).judge (s.refUp r) direct
  let s := s.candMod r (Cand.enter n s.mt s.now)
  let c := s.cand r
  let moved := decide (o.st ≠ n)
  let s :=
    if moved || decide ((o.freqRej, o.phaseDisc, o.disagree, o.extRej) ≠ (c.freqRej, c.phaseDisc, c.disagree, c.extRej)) then
      (s.log 0x04 0x01 r.val [s.refWord r, w]).chime 6
    else s
  let s := if moved && decide (n ≠ .qualified) && decide (n ≠ .restoring) then s.dropPairs r else s
  let s := if moved && decide (o.st = .qualified) && decide (n = .rejected) then s.unqualified r else s
  if moved then evalAll s else s

/-! ### Activity (R199, R200) -/

/-- What a loss of activity, or the removal of its unit, does to a candidate's monitors: the history is kept across the
gap, wait-to-restore and hold are discarded (R204, R207). -/
def Cand.inactive (now te : Nat) (c : Cand) : Cand :=
  { c with act := false, actRun := 0, condFrom := none, freqAcc := false, discFrom := none, winFrom := none,
           acc := Acc.init, firstWin := true, gapFrom := if c.act then some now else c.gapFrom,
           gapTe := if c.act then te else c.gapTe, lossCount := if c.act then satU 16 (c.lossCount + 1) else c.lossCount }

/-- Loss of activity of candidate `r`: LOST, and the selectors act in the same cycle (R200, R233). -/
def refLoss (r : Fin 66) (s : State) : State :=
  let c := s.cand r
  let te := satU 32 (s.teNow 0)
  if c.act then (s.candSet r (Cand.inactive s.now te) false).lostAct r
  else s.candMod r fun c => { c with actRun := 0, condFrom := none }

/-- The unit of candidate `r` is powered down: OFF (R32, R206). -/
def refOff (r : Fin 66) (s : State) : State :=
  let te := satU 32 (s.teNow 0)
  if (s.cand r).st = .off then s
  else (s.candSet r (fun c => { c.inactive s.now te with lastAt := none }) false).removed r

/-- Activity of candidate `r` returns: a frequency window begins, a hold not yet served starts in full (R200, R201,
R207). -/
def refGained (r : Fin 66) (s : State) : State :=
  s.candSet r (fun c =>
    { c with act := true, winFrom := some s.now, acc := Acc.init, firstWin := true,
             winRoot := s.ringed,
             discFrom := if c.phaseDisc && c.discFrom.isNone then some s.now else c.discFrom }) false

/-- The condition of a VIDEO or TIME link source is looked at again (R199, R200). -/
def refCond (r : Fin 66) (s : State) : State :=
  if (s.cand r).st = .off then s
  else if s.actByCond r then
    if s.actCond r then s.candMod r fun c => { c with condFrom := if c.condFrom.isSome then c.condFrom else some s.now }
    else refLoss r s
  else s

/-- The unit of candidate `r` is powered up: OFF to LOST (R206). -/
def refOn (r : Fin 66) (s : State) : State :=
  refCond r (s.candSet r (fun c => { c with lastAt := none, actRun := 0 }) false)

/-- A link candidate whose lane had no block lock at Kettle instant `k` or has none now: no activity (R199, R343). -/
def State.noLock (s : State) (r : Fin 66) (k : Nat) : Bool :=
  match laneOf r with
  | some l => decide ((s.lane l).lstate ≠ .up) || decide (k < (s.lane l).upFrom)
  | none => false

/-- An edge, mark or sample at Kettle instant `k`; INVALID ones count. Activity returns at the fourth in a row (R199,
R200, R164). -/
def refTick (r : Fin 66) (k : Nat) (s : State) : State :=
  let c := s.cand r
  if c.st = .off ∨ s.actByCond r ∨ s.noLock r k then s
  else
    let near := match c.lastAt, s.actSpan r with
      | some a, some p => decide (k ≤ a + p)
      | some _, none => true
      | none, _ => false
    let n := if near then min 4 (c.actRun + 1) else 1
    let s := s.candMod r fun c => { c with lastAt := some k, actRun := n }
    if !c.act && decide (4 ≤ n) then refGained r s else s

/-- ACTIVITY_LOSS: the loss limit has passed since the last stamp or mark (R199, R200). -/
def execActivityLoss (t : Nat) (r : Fin 66) (s : State) : Res :=
  let s := s.advance t
  let c := s.cand r
  if c.act && !s.hasAct r then done (refLoss r s) else done s

/-- ACTIVITY_CONDITION_HELD: a VIDEO or TIME link source's condition has held for 1 s (R200). -/
def execActivityConditionHeld (t : Nat) (r : Fin 66) (s : State) : Res :=
  let s := s.advance t
  let c := s.cand r
  match c.condFrom with
  | some f => if !c.act && decide (c.st ≠ .off) && s.actByCond r && s.actCond r && s.past f secU then done (refGained r s) else done s
  | none => done s

/-- An EXT_REJ condition begins or ends (R205). -/
def refExtRej (r : Fin 66) (on : Bool) (s : State) : State :=
  if (s.cand r).extRej = on then s else s.candSet r (fun c => { c with extRej := on }) false

/-! ### Frequency monitor (R201, R202) -/

/-- A valid stamp of the frequency monitor with its edge at Kettle instant `k` (R196). -/
def refFreqStamp (r : Fin 66) (k : Nat) (s : State) : State :=
  let u := s.freqRate r
  match (s.cand r).winFrom with
  | some f =>
    if f ≤ k ∧ k < f + s.fmLen r then s.candMod r fun c => { c with acc := c.acc.stamp u.1 u.2 k } else s
  | none => s

/-- A valid phase sample of the frequency monitor: at Kettle instant `k` the source's own time is `tau` (R196). -/
def refFreqSample (r : Fin 66) (k : Nat) (tau : Int) (s : State) : State :=
  match (s.cand r).winFrom with
  | some f =>
    if f ≤ k ∧ k < f + s.fmLen r then s.candMod r fun c => { c with acc := c.acc.sample tau k } else s
  | none => s

/-- y on FM_BASE 1 from y on FM_BASE 0, by the Kettle offset estimate (R201). -/
def State.yBase1 (s : State) (y : Int) : Int := y + rdiv (s.age.offset * (2 ^ 64 + y)) (10 ^ 15)

/-- y of the window that ends, on FM_BASE 0 (R201). -/
def State.windowY (s : State) (r : Fin 66) : Option Int :=
  let u := if s.freqByStamps r then s.freqRate r else (secU, 1)
  (s.cand r).acc.y u.1 u.2

/-- The window gives a verdict: half the expected stamps or samples were valid and no root loss was met (R202). -/
def State.windowOk (s : State) (r : Fin 66) : Bool :=
  let u := s.freqRate r
  !(s.cand r).winRoot && decide (s.fmLen r * u.1 ≤ 2 * (s.cand r).acc.seen * u.2 * secU)

/-- |y| of a 2^-64 value is at most `lim` x 10^-12. -/
def within12 (y : Int) (lim : Nat) : Bool := decide (y.natAbs * 10 ^ 12 ≤ lim * 2 ^ 64)

/-- A candidate after the verdict of a window (R202). -/
def Cand.verdict (y0 y : Int) (raw : Bool) (c : Cand) : Cand :=
  let c := { c with yRaw := y0, y := y, fmRaw := raw, noVerdict := false }
  if within12 y c.accept then { c with freqOk := true, freqRej := false, freqAcc := true, firstWin := false }
  else if !within12 y c.reject then { c with freqOk := false, freqRej := true, firstWin := false }
  else { c with freqOk := c.freqOk && !c.firstWin, firstWin := false }

/-- The next window begins where the last ended (R201). -/
def Cand.nextWindow (f : Nat) (root : Bool) (c : Cand) : Cand := { c with winFrom := some f, acc := Acc.init, winRoot := root }

/-! ### Cross-check (R211 to R215) -/

/-- A candidate by its number. -/
def refOf (v : Nat) : Option (Fin 66) := if h : v < 66 then some ⟨v, h⟩ else none

/-- A candidate may be in a group (R211). -/
def Cand.member (c : Cand) : Bool := (decide (c.st = .qualified) || decide (c.st = .restoring)) && decide (c.xchk ≠ 0)

/-- `a` and `b` are in one group of DPLL `d`. -/
def State.sameGroup (s : State) (d : Fin 8) (a b : Fin 66) : Bool :=
  (s.cand a).member && (s.cand b).member && (vget (s.dpll d).use a).use && (vget (s.dpll d).use b).use &&
  decide (s.prio d a = s.prio d b)

/-- The limit L of a pair (R212). -/
def State.pairLimit (s : State) (a b : Fin 66) : Nat := max (s.cand a).xchk (s.cand b).xchk

/-- An arbiter's y decides when exactly one member lies within L of it: the outlier (R213). -/
def decides (l : Nat) (y ya yb : Int) (a b : Fin 66) : Option (Fin 66) :=
  let ia := within12 (ya - y) l
  let ib := within12 (yb - y) l
  if ia = ib then none else if ia then some b else some a

/-- Outlier and arbiter of a pair in disagreement, none undecided (R213). -/
def State.arbitrate (s : State) (d : Fin 8) (a b : Fin 66) : Option (Fin 66 × Nat) :=
  let l := s.pairLimit a b
  let ya := (s.cand a).yRaw
  let yb := (s.cand b).yRaw
  let others := (List.finRange 66).filter fun k => decide (k ≠ a) && decide (k ≠ b)
  let grp := others.filter fun k => s.sameGroup d a k
  let q := others.filter fun k => decide ((s.cand k).st = .qualified)
  let order := grp ++ q.filter (fun k => decide (k.val = 64)) ++ q
  match order.findSome? fun k => (decides l (s.cand k).yRaw ya yb a b).map fun o => (o, k.val) with
  | some x => some x
  | none =>
    if s.age.offsetValid && decide (s.age.offsetUnc ≤ 250 * l) then
      (decides l 0 (s.yBase1 ya) (s.yBase1 yb) a b).map fun o => (o, 0x7E)
    else none

/-- One more evaluation of a pair: consecutive disagreements, kept at three (R212). -/
def bump (l : List Xrun) (d : Fin 8) (a b : Fin 66) : List Xrun :=
  if l.any fun x => decide (x.dpll = d ∧ x.a = a.val ∧ x.b = b.val) then
    l.map fun x => if x.dpll = d ∧ x.a = a.val ∧ x.b = b.val then { x with n := min 3 (x.n + 1) } else x
  else l ++ [{ dpll := d, a := a.val, b := b.val, n := 1 }]

/-- Consecutive disagreements of a pair. -/
def xrunOf (l : List Xrun) (d : Fin 8) (a b : Fin 66) : Nat :=
  match l.find? fun x => decide (x.dpll = d ∧ x.a = a.val ∧ x.b = b.val) with | some x => x.n | none => 0

/-- One pair of a group of DPLL `d` is judged (R212 to R214). -/
def State.xPair (d : Fin 8) (a b : Fin 66) (s : State) : State :=
  if !s.sameGroup d a b then
    s.onRef fun u => { u with xruns := u.xruns.filter fun x => !decide (x.dpll = d ∧ x.a = a.val ∧ x.b = b.val) }
  else if within12 ((s.cand a).yRaw - (s.cand b).yRaw) (s.pairLimit a b) then
    s.onRef fun u => { u with xruns := u.xruns.filter fun x => !decide (x.dpll = d ∧ x.a = a.val ∧ x.b = b.val) }
  else
    let s := s.onRef fun u => { u with xruns := bump u.xruns d a b }
    if xrunOf s.ref.xruns d a b < 3 then s
    else match s.arbitrate d a b with
      | some (o, k) =>
        s.candSet o (fun c => { c with disagree := true, disWith := some (if o = a then b.val else a.val), arbiter := some k,
                                       agreeFrom := none }) false
      | none => s

/-- Pairs of DPLL `d` that are no longer in one group no longer count (R211, R214). -/
def State.prunePairs (d : Fin 8) (s : State) : State :=
  let keep := fun x : Xrun =>
    decide (x.dpll ≠ d) || (match refOf x.a, refOf x.b with | some a, some b => s.sameGroup d a b | _, _ => false)
  s.onRef fun u => { u with xruns := u.xruns.filter keep }

/-- The groups have changed: REF_DISAGREE clears where no pair of the DPLL's groups disagrees (R211, R214). -/
def State.regroup (s : State) : State := forFin 8 (fun d s => (s.prunePairs d).disOne d) s

/-- The groups of DPLL `d` that hold `r` are evaluated: every pair of them (R211). -/
def State.xGroup (r : Fin 66) (d : Fin 8) (s : State) : State :=
  let s := s.prunePairs d
  if !(vget (s.dpll d).use r).use then s.disOne d
  else
    let m := (List.finRange 66).filter fun k => decide (k = r) || s.sameGroup d r k
    let ps := m.flatMap fun a => (m.filter fun b => decide (a < b)).map fun b => (a, b)
    (ps.foldl (fun s p => s.xPair d p.1 p.2) s).disOne d

/-- The window of `r` is an evaluation of its groups (R211). -/
def State.xCheck (r : Fin 66) (s : State) : State := if (s.cand r).member then forFin 8 (State.xGroup r) s else s

/-- The marked candidate lies within L / 2 of the member it disagreed with or of its arbiter (R215). -/
def State.agrees (s : State) (r : Fin 66) : Bool :=
  let c := s.cand r
  match c.disWith with
  | some w =>
    if h : w < 66 then
      let l := s.pairLimit r ⟨w, h⟩
      let near := fun y : Int => decide (2 * (y.natAbs * 10 ^ 12) ≤ l * 2 ^ 64)
      near (c.yRaw - (s.cand ⟨w, h⟩).yRaw) ||
      (match c.arbiter with
       | some k => if h : k < 66 then near (c.yRaw - (s.cand ⟨k, h⟩).yRaw) else near (s.yBase1 c.yRaw)
       | none => false)
    else false
  | none => false

/-- A verdict's window, which ended at Kettle instant `e`, counts toward the end of DISAGREE (R215). -/
def State.undisagree (r : Fin 66) (e : Nat) (s : State) : State :=
  let c := s.cand r
  if !c.disagree then s
  else if !s.agrees r then s.candMod r fun c => { c with agreeFrom := none }
  else match c.agreeFrom with
    | none => s.candMod r fun c => { c with agreeFrom := some e }
    | some f =>
      if f + 60 * secU ≤ e then
        s.candSet r (fun c => { c with disagree := false, disWith := none, arbiter := none, agreeFrom := none }) false
      else s

/-- FREQ_WINDOW_END: the verdict, then the cross-check (R202, R207, R211, R215). -/
def execFreqWindowEnd (t : Nat) (r : Fin 66) (s : State) : Res :=
  let s := s.advance t
  let c := s.cand r
  match c.winFrom with
  | none => done s
  | some f =>
    if !s.past f (s.fmLen r) || !c.act then done s
    else
      let next := Cand.nextWindow (f + s.fmLen r) s.ringed
      match (if s.windowOk r then s.windowY r else none) with
      | none =>
        done ((s.candMod r fun c => { next c with noVerdict := true, noVerdicts := satU 16 (c.noVerdicts + 1) }).xCheck r)
      | some y0 =>
        let b1 := c.fmBase && s.age.offsetValid
        let y := if b1 then s.yBase1 y0 else y0
        let s := (s.candMod r next).candSet r (Cand.verdict y0 y (c.fmBase && !b1)) false
        done ((s.undisagree r (f + s.fmLen r)).xCheck r)

/-! ### Phase monitor (R203, R204, R209) -/

/-- E_gap in 2^-16 ns: the growth of DPLL0's TE_EST over the gap, 0 if DPLL0 stayed LOCKED (R204). -/
def State.eGap (s : State) (c : Cand) : Nat :=
  match c.gapFrom with
  | some f =>
    if (s.dpll 0).dstate = .locked ∧ (s.dpll 0).stFrom ≤ f then 0
    else (ofPs ((satU 32 (s.teNow 0) : Nat) - c.gapTe)).toNat
  | none => 0

/-- The history is discarded after a gap beyond 86,400 s (R204). -/
def Cand.gapOver (now : Nat) (c : Cand) : Cand :=
  match c.gapFrom with
  | some f => if f + 86400 * secU < now then { c with hist := [], outRun := [], gapFrom := none } else c
  | none => c

/-- A sample beyond the limit: excluded and counted; the run of them on one side grows (R203). `up` tells the side of a
sample. -/
def Cand.outlier (x : Sample) (up : Sample → Bool) (c : Cand) : Cand :=
  let run := match c.outRun.getLast? with | some p => if up p = up x then c.outRun ++ [x] else [x] | none => [x]
  { c with outRun := run, outliers := satU 16 (c.outliers + 1) }

/-- A discontinuity is declared: the history restarts with the run (R203, R209). -/
def Cand.discontinuity (now : Nat) (c : Cand) : Cand :=
  { c with hist := c.outRun, outRun := [], gapFrom := none, phaseDisc := true, discFrom := some now,
           discCount := satU 16 (c.discCount + 1) }

/-- A phase sample of a TIME candidate: `ph` against the Metronome at Kettle instant `k` (R196, R203, R204). -/
def refPhase (r : Fin 66) (k : Nat) (ph : Int) (s : State) : State :=
  if (s.cand r).st = .off then s
  else
    let s := s.candMod r (Cand.gapOver s.now)
    let c := s.cand r
    let x : Sample := { at_ := (s.metroAt k).toNat, ph := ph }
    let line := s.unwrap r none c.hist
    let res := fun y : Sample => s.wrapRef r (y.ph - lineAt line y.at_)
    let predicts := decide (4 ≤ c.hist.length)
    let s := s.candMod r fun c => { c with phase := sat64 ph, resid := if predicts then sat64 (res x) else 0 }
    if predicts && decide ((c.phaseLimit * 65536 + s.eGap c * 1000 : Nat) < (res x).natAbs * 1000) then
      let s := s.candMod r (Cand.outlier x fun y => decide (0 < res y))
      if c.pmConfirm ≤ (s.cand r).outRun.length then s.candSet r (Cand.discontinuity s.now) false else s
    else
      let s := s.candSet r (fun c => { c with hist := (c.hist ++ [x]).drop (c.hist.length + 1 - 64), outRun := [], gapFrom := none }) false
      s.feed r k ph

/-- A valid stamp of a FREQ candidate with phase `ph` reaches the selector's history and the DPLLs (R236, R260). -/
def refStamp (r : Fin 66) (k : Nat) (ph : Int) (s : State) : State :=
  if (s.cand r).st = .off then s
  else
    let x : Sample := { at_ := (s.metroAt k).toNat, ph := ph }
    (s.candMod r fun c => { c with last64 := (c.last64 ++ [x]).drop (c.last64.length + 1 - 64) }).feed r k ph

/-- A sample of a source that carries its own time: activity (unless a condition decides it), frequency by slope, phase
(R196, R199). Its own time is the Metronome less its phase. -/
def refSample (r : Fin 66) (k : Nat) (ph : Int) (s : State) : State :=
  let s := refTick r k s
  let s := if s.freqByStamps r then s else refFreqSample r k (s.metroAt k - ph) s
  refPhase r k ph s

/-- PHASE_DISC_CLEAR: the hold has run out (R209). -/
def execPhaseDiscClear (t : Nat) (r : Fin 66) (s : State) : Res :=
  let s := s.advance t
  let c := s.cand r
  match c.discFrom with
  | some f =>
    if c.phaseDisc ∧ c.act ∧ s.past f (c.holdS * secU) then
      done (s.candSet r (fun c => { c with phaseDisc := false, discFrom := none }) true)
    else done s
  | none => done s

/-- PHASE_HISTORY_DISCARD: a gap longer than 86,400 s (R204). -/
def execPhaseHistoryDiscard (t : Nat) (r : Fin 66) (s : State) : Res :=
  let s := s.advance t
  done (s.candMod r (Cand.gapOver s.now))

/-- RESTORING to QUALIFIED (R208). -/
def refRestored (r : Fin 66) (s : State) : State :=
  if (s.cand r).st = .restoring then s.candSet r (fun c => { c with st := .qualifying }) true else s

/-- WTR_END: wait-to-restore ends with no cause set (R206, R208). -/
def execWtrEnd (t : Nat) (r : Fin 66) (s : State) : Res :=
  let s := s.advance t
  let c := s.cand r
  match c.wtrFrom with
  | some f =>
    if c.st = .restoring ∧ s.past f (c.wtrTime * secU) then done (refRestored r s) else done s
  | none => done s

end Sys2Proof.Machine
end

