-- ==== Sys2Proof/Machine/Meas.lean ====
section
/-!
DEFINITION. The measurement fabric: edges, stamps and their release to the consumers, captures, interval attempts and
frequency gates (R142 to R176, R182 to R188).
-/

namespace Sys2Proof.Machine

/-! ### Work of a tag (R94, R104) -/

/-- A fixed position is in force: POS_MODE FIXED, one held, and no survey runs (R390; log 28). -/
def Gnss.fixedNow (g : Gnss) : Bool := g.posFixed && decide (g.fixed.fix = 2) && g.survey.isNone

/-- NAV and TIMING follow the fixed position (R383). -/
def gnssMode (s : State) : State :=
  s.onGnss fun g =>
    if g.rstate = .nav ∧ g.fixedNow then { g with rstate := .timing, pos60 := [], lostFrom := none }
    else if g.rstate = .timing ∧ !g.fixedNow then { g with rstate := .nav, pos60 := [], lostFrom := none }
    else g

/-- A survey of this tag is dropped, and the fixed position is in force again (R383, R390). -/
def State.dropSurvey (s : State) (i : Fin 48) : State :=
  match s.gnss.survey with
  | some v => if v.tag = i then gnssMode (s.onGnss fun g => { g with survey := none }) else s
  | none => s

/-- The fields a tag's deferred work holds in its unit are dropped (R94, R104, R117). -/
def State.dropWork (s : State) (i : Fin 48) : State :=
  let s := s.onMeas fun m => { m with ivs := m.ivs.filter (fun v => decide (v.tag ≠ i)),
                                      freqs := m.freqs.filter (fun v => decide (v.tag ≠ i)) }
  let s := (s.dropSurvey i).onGnss fun g =>
    let keep := fun o : Option (Fin 48) => if o = some i then none else o
    { g with snap := { g.snap with capTag := keep g.snap.capTag, procTag := keep g.snap.procTag } }
  let s := s.onPair fun p =>
    if p.hoTag = some i then { p with hoTag := none, hoPropose := false, hoT := none, hoAccepted := false, hoDone := false }
    else p
  let s := s.onSys fun y =>
    { y with resetBlocks := y.resetBlocks.filter (fun b => decide (b.2 ≠ i))
             commitTag := if y.commitTag = some i then none else y.commitTag
             commitWriting := if y.commitTag = some i then false else y.commitWriting }
  let s := s.onNvs fun n =>
    { n with queue := n.queue.map (fun w => if w.host = some i then { w with host := none } else w)
             deferred := n.deferred.map (fun w => if w.host = some i then { w with host := none } else w) }
  s.onHif fun h =>
    let clr := fun (o : Option StrobeReq) => o.map fun r => if r.tag = some i then { r with tag := none } else r
    { h with pend := clr h.pend, queued := clr h.queued }

/-- A command in flight ends with an error and its work is dropped. -/
def State.endFail (s : State) (i : Fin 48) (f : Fail) : State := (s.dropWork i).holdFail i f

/-! ### Conversion (R144, R149) -/

/-- One CLK_CORE period, 2.5 ns, in 2^-16 ns. -/
def coreU : Nat := 163840

/-- The look-back of a stamp, 1.25 us, in 2^-16 ns (R146). -/
def lookU : Nat := 81920000

/-- Period pair of the active line in 1/1024 bin. -/
def Chan.pair (c : Chan) : Nat × Nat := if c.line1 then (c.p1b, c.p2b) else (c.p1a, c.p2a)

/-- Table of the active line. -/
def Chan.table (c : Chan) : List Nat := if c.line1 then c.tableB else c.tableA

/-- The fine interval f less one period, as a quotient x / q of a period: the position of the middle of bin `b` from p1,
over p2 - p1; bins are as wide as their share of the table's hits, or one apart under CAL LIN (R144, R148, R149). -/
def Chan.fine (c : Chan) (b : Nat) : Nat × Nat :=
  let (p1, p2) := c.pair
  let n := c.table.foldl (· + ·) 0
  let a := 2 * (c.table.take b).foldl (· + ·) 0 + c.table.getD b 0
  let (x, q) := if c.cal = .lin ∨ n = 0 then (((1024 * b + 512 : Nat) : Int) - p1, p2 - p1) else ((a * 393216 : Nat) - (p1 * n : Nat), (p2 - p1) * n)
  let q := max 1 q
  ((clampI 0 ((q : Int) - 1) x).toNat, q)

/-- 2^16: an input path delay is held in 2^-32 ns. -/
def delayU : Nat := 65536

/-- Picoseconds as an input path delay in 2^-32 ns. -/
def delayOfPs (v : Int) : Int := rdiv (v * 4294967296) 1000

/-- Metronome reading and Kettle instant of an edge latched at Kettle instant `t` in bin `b` (R144): the Metronome at the
last tick plus t_k at that tick's increment, exact up to the rounding down. -/
def State.convert (s : State) (ch : Fin 66) (t b : Nat) : Nat × Nat :=
  let c := s.chan ch
  let (x, q) := c.fine b
  let tick := t / tickU * tickU
  let step : Int := (accU : Int) + (s.dpll 0).cTick
  let m : Int := (s.time.metro : Int) - ((s.now : Int) - tick) * step
  let back : Int := c.dIn * q + (coreU * delayU * (q + x) : Nat)
  let tk : Int := ((t : Int) - tick) * delayU * q - back
  (((m * delayU * q + tk * step) / (accU * delayU * q)).toNat, (((t * delayU * q : Nat) - back) / (delayU * q)).toNat)

/-! ### Captures (R168) -/

/-- DURATION has passed since the start instant. -/
def Capture.ended (p : Capture) (mt now : Nat) : Bool :=
  if p.start = 0 then decide (p.from_ + p.duration * msU ≤ now) else decide (p.startAt + p.duration * msU ≤ mt)

/-- A released stamp reaches the capture of its channel (R168). -/
def Capture.take (p : Capture) (mt now : Nat) (x : Stamp) : Capture :=
  if p.st = .idle ∨ p.st = .done ∨ p.ended mt now ∨ (p.start ≠ 0 ∧ x.time < p.startAt) then p
  else
    let p := if p.skip = 0 then { p with stamps := p.stamps ++ [x], st := .capturing } else p
    let p := { p with skip := (p.skip + 1) % max 1 p.decim }
    if p.limit ≤ p.stamps.length then { p with st := .done } else p

/-- The channel powers down: the capture ends and its stamps are kept (R168). -/
def Capture.down (p : Capture) : Capture := if p.st = .armed ∨ p.st = .capturing then { p with st := .done } else p

/-- Stamps reserved by all captures (R169). -/
def State.capUse (s : State) : Nat := s.meas.chans.toList.foldl (fun a c => a + c.capture.limit) 0

/-! ### Intervals (R172 to R174) -/

/-- One microsecond in 2^-16 ns. -/
def Interval.early1 : Int := usU

/-- A stamp matches START_SEL or STOP_SEL by its SLOPE or KIND (R172, R173). -/
def selects (sel : Nat) (x : Stamp) : Bool :=
  if x.kind = 1 then true
  else sel == 2 || ((sel == 1) == (if x.kind = 0 then x.falling else decide (x.kind = 3)))

/-- An attempt ends at Kettle instant `k` (R173). -/
def Interval.next (k : Nat) (v : Interval) : Interval :=
  { v with done := v.done + 1, cur := none, stepped := false, waitFrom := k }

/-- Stop-channel edges lost in the window of the attempt that began with `x`, up to reading `last` (R173). -/
def Interval.tally (x : Stamp) (last : Int) (v : Interval) : Interval :=
  let n := (v.losses.filter fun t : Nat => decide (v.opn ≤ (t : Int) - x.time) && decide ((t : Int) - x.time ≤ v.close * usU) &&
                                     decide ((t : Int) ≤ last)).length
  { v with lost := satU 16 (v.lost + n) }

/-- A stop stamp `p` of the present attempt, whose start is `x`: early, passed over, or the one measured (R173). -/
def Interval.stop (v : Interval) (p : Stamp) : Interval :=
  match v.cur with
  | none => v
  | some x =>
    let d : Int := (p.time : Int) - x.time
    if d < -Interval.early1 then v
    else if d < v.opn then { v with early := v.early + 1 }
    else if (v.close : Int) * usU < d then v
    else if v.recent.length < v.skip then { v with recent := v.recent ++ [p] }
    else
      let w := (v.tally x p.time).next p.edge
      let w := { w with recent := v.recent ++ [p] }
      if p.invalid then { w with invalid := v.invalid + 1 }
      else
        { w with results := v.results ++ [d], order := if d < 0 then v.order + 1 else v.order
                 firstOrder := if v.results.isEmpty then decide (d < 0) else v.firstOrder }

/-- The start stamp of an attempt: what was stamped just before it is looked at again (R146, R173). `stepped` tells of a
Metronome step in the window already: like an INVALID start it ends the attempt. -/
def Interval.start (stepped : Bool) (v : Interval) (x : Stamp) : Interval :=
  let v := { v with firstStart := if v.done = 0 then x.time else v.firstStart }
  if x.invalid || stepped then { (v.next x.edge) with invalid := v.invalid + 1 }
  else v.recent.foldl Interval.stop { v with cur := some x, recent := [] }

/-- The attempt met a step of the Metronome at Kettle instant `k`: it is discarded there (R173; log 59). -/
def Interval.shed (k : Nat) (v : Interval) : Interval :=
  if v.cur.isSome && v.stepped then { (v.next k) with invalid := v.invalid + 1 } else v

/-- A released stamp of channel `ch` reaches an interval: a start lies within START_WAIT of the end of the attempt before
(R173). -/
def Interval.see (stepped : Bool) (ch : Nat) (x : Stamp) (v : Interval) : Interval :=
  if v.cur.isNone ∧ v.startCh.val = ch ∧ selects v.startSel x ∧ v.waitFrom < x.edge ∧ x.edge ≤ v.waitFrom + v.startWait * msU then
    v.start stepped x
  else if v.stopCh.val = ch ∧ selects v.stopSel x then
    (match v.cur with
     | some _ => v.stop x
     | none => { v with recent := (v.recent ++ [x]).filter fun p => decide ((x.time : Int) - p.time ≤ Interval.early1) })
  else v

/-- An edge of channel `ch` was lost in dead time at reading `t`: intervals that stop on it keep it (R173). -/
def State.ivLost (ch : Fin 66) (t : Nat) (s : State) : State :=
  s.onMeas fun m => { m with ivs := m.ivs.map fun v =>
    if v.stopCh.val = ch.val then
      { v with losses := (v.losses.filter fun u => v.cur.isSome || decide (t ≤ u + 4 * usU)) ++ [t] }
    else v }

/-- The statistics response (R174). -/
def Interval.reply (v : Interval) : List Word :=
  let n := v.results.length
  let sum := v.results.foldl (· + ·) 0
  let sq : Int := v.results.foldl (fun a x => a + x * x) 0
  let lo := v.results.foldl min (v.results.headD 0)
  let hi := v.results.foldl max (v.results.headD 0)
  let dev : Int := if n < 2 then 0 else (isqrt ((n * sq - sum * sum).toNat / (n * (n - 1))) : Nat)
  let vals := [v.results.headD 0, sum / (n : Int), lo, hi, dev]
  [pack [(v.done, 31, 16), (n, 15, 0)], pack [(v.order, 31, 16), (v.timeouts, 15, 0)], pack [(satU 16 v.early, 31, 16), (v.invalid, 15, 0)],
   pack [pbit v.noStart 31, pbit v.firstOrder 30, pbit (vals.any fun x => decide (sat64 x ≠ x)) 29, (v.lost, 15, 0)]] ++
  vals.flatMap s64 ++ time96 v.firstStart

/-- The lines of the channels of an interval swap at the start of its next attempt (R147). -/
def State.swapBoth (v : Interval) (s : State) : State :=
  s.onMeas fun m => { m with chans := vmapIdx m.chans fun i c => if i = v.startCh.val ∨ i = v.stopCh.val then { c with swapDue := true } else c }

/-- The interval of tag `v.tag` was `o` and is `v` now: it goes on, an ended attempt with a new one, or its last attempt has
ended (R174). -/
def State.ivPut (o : Interval) (last : Bool) (v : Interval) (s : State) : State :=
  if last ∨ v.attempts ≤ v.done then
    let s := s.onMeas fun m => { m with ivs := m.ivs.filter fun w => decide (w.tag ≠ o.tag) }
    if v.results.isEmpty then s.holdFail o.tag (timeoutF 0x0005) else s.holdOk o.tag v.reply
  else
    let s := s.onMeas fun m => { m with ivs := m.ivs.map fun w => if w.tag = o.tag then v else w }
    if o.done = v.done then s else s.swapBoth v

/-- A released stamp reaches every interval (R173). -/
def State.ivStamp (ch : Fin 66) (x : Stamp) (s : State) : State :=
  s.meas.ivs.foldl (fun s v =>
    let w := (v.shed s.time.stepK).see (s.stepIn x v.opn (v.close * usU)) ch.val x
    let s := if v.early < w.early then s.count (16 * v.stopCh.val + 4) (w.early - v.early) else s
    s.ivPut v false w) s

/-! ### Frequency gates (R182 to R188) -/

/-- A stamp is an outlier by R186: beyond k times the running residual rms (R189) and beyond 4 units. -/
def Acc.isOutlier (a : Acc) (k : Nat) (i t : Int) : Bool :=
  let c := a.det
  let r := (t * c - a.aNum - a.bNum * i).natAbs
  let rss := (a.n * a.stt - a.st * a.st) * c - a.bNum * a.bNum
  decide (0 < c) && decide ((k * k : Nat) * rss * c < (100 * r * r * a.n * (a.n - 2) : Nat)) && decide (4 * c < r)

/-- A cold spell of the Kettle from Kettle instant `a` to `b` meets the gate (R193). -/
def FreqGate.coldSpell (s : State) (a b : Nat) (g : FreqGate) : Bool :=
  decide (s.metroAt a - g.stepSum < (g.start + g.gate * msU : Nat)) && decide ((g.start : Int) < s.metroAt b - g.stepSum)

/-- A released stamp of the gate's channel (R182 to R188): `t` is its time without the steps of the Metronome. -/
def FreqGate.stamp (g : FreqGate) (x : Stamp) (t : Int) : FreqGate :=
  if t < g.start ∨ (g.start + g.gate * msU : Nat) ≤ t then g
  else
    let g := { g with gaps := if x.gap then g.gaps + 1 else g.gaps }
    if x.invalid then { g with invalid := g.invalid + 1 }
    else
      let t0 := if g.acc.n = 0 ∧ g.acc.seen = 0 then t else g.acc.t0
      let k0 : Int := if g.acc.n = 0 ∧ g.acc.seen = 0 then x.edge else g.accK.t0
      let first := decide (g.acc.seen = 0)
      let (p, q) := if first then ((0 : Int), 1) else g.acc.index g.num g.den (t - t0)
      let g := { g with acc := { g.acc with seen := g.acc.seen + 1, t0 := t0 }, accK := { g.accK with t0 := k0 } }
      if isSlip p q then { g with slips := g.slips + 1 }
      else
        let i := rdiv p q
        if i % g.d ≠ 0 then g
        else if decide (g.ksigma ≠ 0) && !g.stepSeen && decide (64 ≤ g.acc.n) && g.acc.isOutlier g.ksigma i (t - t0) then
          { g with outliers := g.outliers + 1, outRun := if g.outRun + 1 < 64 then g.outRun + 1 else 0,
                   stepSeen := decide (64 ≤ g.outRun + 1) }
        else
          { g with acc := g.acc.put i (t - t0), accK := g.accK.put i (x.edge - k0), outRun := 0,
                   linUsed := g.linUsed || x.lin }

/-- A stamp's time as the present Metronome counts: one converted before a step and released after it takes the step in
(R188, R203). -/
def State.nowTime (s : State) (x : Stamp) : Int :=
  if s.time.stepSeq ≠ 0 ∧ x.edge < s.time.stepK then (x.time : Int) + s.time.stepLast else x.time

/-- A released stamp reaches the gates of its channel; of a link the divided clock only (R183). -/
def State.gateStamp (ch : Fin 66) (x : Stamp) (s : State) : State :=
  let t := s.nowTime x
  let ok := s.timeValid
  s.onMeas fun m =>
    { m with freqs := m.freqs.map fun g =>
        if g.ch.val = ch.val ∧ x.kind ≠ 3 then { g.stamp x (t - g.stepSum) with phaseValid := g.phaseValid && ok } else g }

/-! ### Release of a stamp (R146, R153, R164, R165) -/

/-- Phase of a stamp of candidate `r` against the Metronome (R198). -/
def State.stampPhase (s : State) (r : Fin 66) (t : Int) : Option Int :=
  let c := s.cand r
  let rate := if r.val < 16 then s.refRate r else match laneOf r with | some l => some (s.linkRate l) | none => none
  rate.map fun u => phaseAt (t - (if r.val < 16 then c.extDelay else 0)) u.1 u.2

/-- A released stamp reaches the monitors and the DPLLs: with SLOPE 2 only rising stamps do; link events go to the PTP
engine or the pair unit, where each waits for its message (R142, R146, R162, R164, R196, R198, R423). -/
def State.monStamp (ch : Fin 66) (x : Stamp) (s : State) : State :=
  if x.kind = 3 then
    match laneOf ch with
    | some l => s.laneMod l fun n => { n with evs := (n.evs ++ [x]).drop (n.evs.length + 1 - 64) }
    | none => if ch.val = 65 then s.onPair fun p => { p with evs := (p.evs ++ [x]).drop (p.evs.length + 1 - 64) } else s
  else if 64 ≤ ch.val ∨ (x.kind = 0 ∧ (s.chan ch).slope = 2 ∧ x.falling) then s
  else
    let s := refTick ch x.edge s
    if x.invalid then s
    else
      let s := if s.freqByStamps ch then refFreqStamp ch x.edge s else s
      match s.stampPhase ch (s.nowTime x) with
      | none => s
      | some ph =>
        if !(s.cand ch).time then refStamp ch x.edge ph s
        else if ch.val < 16 then refPhase ch x.edge ph s
        else s

/-- A stamp leaves the look-back stage and reaches every consumer (R146, R165, R175). -/
def State.deliver (ch : Fin 66) (x : Stamp) (s : State) : State :=
  let x := { x with seq := (s.chan ch).seq }
  let s := s.chanMod ch fun c => { c with seq := (c.seq + 1) % 4096, capture := c.capture.take s.mt s.now x }
  let s := s.count (16 * ch.val)
  let s := if x.invalid then s.count (16 * ch.val + 3) else s
  ((s.ivStamp ch x).gateStamp ch x).monStamp ch x

/-- Stamps whose look-back has passed wait in the channel's FIFO of 64; one that finds it full is dropped, and the next
stamp carries GAP (R153). -/
def Chan.fifoFit (now : Nat) (c : Chan) : Chan × Nat :=
  let due := c.lookback.takeWhile fun x => decide (x.edge + lookU ≤ now)
  if due.length ≤ 64 then (c, 0)
  else match c.lookback.drop due.length with
    | [] => ({ c with lookback := due.take 64, gapPending := true }, due.length - 64)
    | x :: r => ({ c with lookback := due.take 64 ++ { x with gap := true } :: r }, due.length - 64)

/-- The FIFO of a channel is looked at. -/
def State.fifo (ch : Fin 66) (s : State) : State :=
  let (c, n) := (s.chan ch).fifoFit s.now
  if n = 0 then s else (s.chanMod ch fun _ => c).count (16 * ch.val + 2) n

/-! ### Edges (R152, R154, R158 to R163) -/

/-- The stamping point is powered: pin, lane, loopback, pair (R143). -/
def State.chanLive (s : State) (ch : Fin 66) : Bool :=
  if ch.val < 16 then (s.chan ch).enable
  else if ch.val = 65 then s.pair.en
  else match laneOf ch with | some l => (s.lane l).en | none => (s.chan ch).enable

/-- A lane receive path is not valid (R164). -/
def State.pathBad (s : State) (ch : Fin 66) : Bool :=
  if ch.val = 65 then !s.pair.measured
  else match laneOf ch with | some l => decide ((s.lane l).lstate ≠ .up) | none => false

/-- 1.6 ns have not passed between two edges (R152). -/
def tooClose (a b : Nat) : Bool := decide ((b - a) * 10 < 1048576)

/-- The next stamp of the channel carries GAP. -/
def State.gapNext (ch : Fin 66) (s : State) : State := s.chanMod ch fun c => { c with gapPending := true }

/-- The clock edge stamped last gives way to an event within 1.6 ns of it (R163). -/
def Chan.skipClock (k : Nat) (c : Chan) : Option Chan :=
  match c.lookback.getLast? with
  | some x => if x.kind = 2 ∧ tooClose x.edge k then some { c with lookback := c.lookback.dropLast, clkGap := true } else none
  | none => none

/-- Some stamp of the channel waits at the fabric: its look-back has passed (R153). -/
def Chan.due (now : Nat) (c : Chan) : Bool := match c.lookback with | x :: _ => decide (x.edge + lookU ≤ now) | [] => false

/-- Places from the channel served last to channel `k` (R153). -/
def State.after (s : State) (k : Nat) : Nat := (k + 63 - s.meas.servedCh.val) % 64

/-- The fabric takes a stamp of channel `ch` now: one stamp in a CLK_CORE cycle, 400 M/s, the channels that have stamps in
turn, so that each is served at 6.25 M/s at least; the two internal points are not counted (R151, R153; log
59). -/
def State.inTurn (s : State) (ch : Fin 66) : Bool :=
  decide (64 ≤ ch.val) ||
  (decide (s.meas.served ≠ some (s.now / coreU)) &&
   (List.finRange 64).all fun k => !(s.chan ⟨k.val, by omega⟩).due s.now || decide (s.after ch.val ≤ s.after k.val))

/-- The fabric has taken a stamp of channel `ch` (R153). -/
def State.serve (ch : Fin 66) (s : State) : State :=
  if h : ch.val < 64 then s.onMeas fun m => { m with served := some (s.now / coreU), servedCh := ⟨ch.val, h⟩ } else s

/-- A new table of the line that becomes active takes effect (R148). -/
def Chan.takeTable (c : Chan) : Chan :=
  if c.line1 then (if c.newB.isEmpty then c else { c with tableB := c.newB, newB := [] })
  else (if c.newA.isEmpty then c else { c with tableA := c.newA, newA := [] })

/-- CAL of a channel whose pair is good: FULL once both lines have tables (R149). -/
def Chan.calNow (c : Chan) : CalState := if c.tableA.isEmpty || c.tableB.isEmpty then .lin else .full

/-- The capture starts now: its channel's lines are to swap (R147, R168). -/
def Capture.starts (mt : Nat) (p : Capture) : Bool :=
  decide (p.st = .armed) && !p.swapped && (decide (p.start = 0) || decide (p.startAt ≤ mt))

/-- The lines swap at the start of a capture or of an interval attempt, before its first edge, on the period pair that the
standby line holds; a line that holds none stays on standby (R147; log 59). -/
def State.swapStart (ch : Fin 66) (s : State) : State :=
  let c := s.chan ch
  let now := c.capture.starts s.mt
  if !c.swapDue && !now then s
  else
    let held := if c.line1 then c.p2a else c.p2b
    s.chanMod ch fun c =>
      let c := { c with swapDue := false, capture := { c.capture with swapped := c.capture.swapped || now } }
      if c.pairOk && decide (c.cal ≠ .failed) && decide (held ≠ 0) then
        let n := { c with line1 := !c.line1 }.takeTable
        { n with cal := n.calNow }
      else c

/-- An edge that passed the prescaler or the slicer is stamped, or lost within the dead time (R144, R152, R163, R164,
R165). -/
def State.stampIn (t : Nat) (ch : Fin 66) (kind : Nat) (x : Stamp) (bin : Nat) (bad : Bool) (s : State) : State :=
  let s := s.swapStart ch
  let (time, edge) := s.convert ch t bin
  let c := s.chan ch
  let close : Bool := match c.lastEdge with | some a => tooClose a edge | none => false
  if !c.pairOk then s
  else if close ∧ kind = 2 then (s.chanMod ch fun c => { c with clkGap := true }).count (16 * ch.val + 6)
  else
    let sk := if close ∧ kind = 3 then c.skipClock edge else none
    if close ∧ sk.isNone then ((s.gapNext ch).ivLost ch time).count (16 * ch.val + 1)
    else
      let s := match sk with | some c => (s.chanMod ch fun _ => c).count (16 * ch.val + 6) | none => s
      let c := s.chan ch
      let gap := c.gapPending || (c.clkGap && decide (kind ≠ 3))
      let inv := bad || decide (c.cal = .failed) || (c.settling && decide (edge < c.settleAt + 2 * usU)) ||
        s.ringed || s.pathBad ch
      let x := { x with time := time, edge := edge, kind := kind, invalid := inv, lin := decide (c.cal = .lin), gap := gap, latch := t }
      s.chanMod ch fun c =>
        { c with lookback := c.lookback ++ [x], lastEdge := some edge, gapPending := false, clkGap := c.clkGap && decide (kind = 3) }

/-- The prescaler of a pin channel counts an edge of a selected slope, one count for each slope, and passes every DIV-th
(R154). -/
def Chan.prescale (falling : Bool) (c : Chan) : Chan × Bool :=
  if !(decide (c.slope = 2) || decide (c.slope = 1) == falling) then (c, false)
  else if falling then
    if c.preFall + 1 < c.div then ({ c with preFall := c.preFall + 1 }, false) else ({ c with preFall := 0 }, true)
  else
    if c.preRise + 1 < c.div then ({ c with preRise := c.preRise + 1 }, false) else ({ c with preRise := 0 }, true)

/-- FORMAT permits a format of R159, and its sync has the polarity of the edge: falling for bi-level, rising for tri-level
(R158, R160). -/
def Chan.permits (falling : Bool) (c : Chan) : List Nat :=
  (List.range 17).filter fun f => decide (f ≠ 0) && (decide (c.format = 0) || decide (c.format = f)) && decide ((videoLines f).2 ≠ falling)

/-- The channel takes a sync: 150 to 450 mV, the DC offset within 1 V (R158). -/
def EdgeIn.amplitudeOk (e : EdgeIn) : Bool := decide (150 ≤ e.amp) && decide (e.amp ≤ 450) && decide (e.offset.natAbs ≤ 1000)

/-- The slicer's level below blanking in half millivolts: 50 % of the mean amplitude of the last 16 lines (R158). -/
def Chan.slicer (c : Chan) : Nat := c.amps.foldl (· + ·) 0 / max 1 c.amps.length

/-- A spacing matches the line period of format `f` within 500 ppm (R160). -/
def spacingFits (d f : Nat) : Bool :=
  match videoRates f with
  | some (_, l, _) => decide (((d * l.1 : Nat) - ((l.2 * secU : Nat) : Int)).natAbs * 2000 ≤ l.2 * secU)
  | none => false

/-- Line period of the format the lines are locked to, 2^-16 ns (R160). -/
def Chan.lineSpan (c : Chan) : Nat :=
  match videoRates (if c.videoFmt ≠ 0 then c.videoFmt else c.videoCands.headD 0) with
  | some (_, l, _) => l.2 * secU / max 1 l.1
  | none => 0

/-- When the next line sync is expected (R160). -/
def Chan.syncDue (c : Chan) : Nat := c.syncAt.getD 0 + (c.videoMiss + 1) * c.lineSpan

/-- An edge lies within 2 % of the expected time of the next sync (R160). -/
def Chan.onTime (k : Nat) (c : Chan) : Bool := decide (((k : Int) - c.syncDue).natAbs * 50 ≤ c.lineSpan)

/-- A sync at Kettle instant `k` while SEARCH runs: its spacing goes on with the run of a permitted format's period, or
begins another; 16 give LINE_LOCK (R160). -/
def Chan.search (k : Nat) (falling : Bool) (c : Chan) : Chan :=
  let all := c.permits falling
  match c.syncAt with
  | none => { c with syncAt := some k, videoRun := 0, videoCands := all }
  | some a =>
    let run := (if c.videoRun = 0 then all else c.videoCands).filter (spacingFits (k - a))
    let new := all.filter (spacingFits (k - a))
    let c := if run.isEmpty then { c with syncAt := some k, videoRun := min 1 new.length, videoCands := new }
             else { c with syncAt := some k, videoRun := c.videoRun + 1, videoCands := run }
    if c.videoRun < 16 then c else { c with video := .lineLock, videoRun := 0, videoMiss := 0, lineNo := 0, framed := false }

/-- The lines are locked, the frames not: the formats of the same line period stay possible (R160). -/
def Chan.toLines (falling : Bool) (c : Chan) : Chan :=
  let same := (c.permits falling).filter fun f => decide ((videoRates f).map (·.2.1) = (videoRates c.videoFmt).map (·.2.1))
  { c with video := .lineLock, videoRun := 0, videoFmt := 0, videoCands := same }

/-- A line sync in lock: the lines of the frame are counted; two frames of a format's line count give FRAME_LOCK, one of a
wrong count ends it (R160). -/
def Chan.line (e : EdgeIn) (c : Chan) : Chan :=
  match c.video with
  | .lineLock =>
    if !e.frame then c
    else
      let ok := c.framed && c.videoCands.contains e.format && decide (c.lineNo = (videoLines e.format).1)
      let n := { c with lineNo := 0, framed := true, videoRun := if ok then c.videoRun + 1 else 0
                        videoCands := if ok then [e.format] else (if c.videoRun = 0 then c.videoCands else { c with videoFmt := c.videoCands.headD 0 }.toLines e.falling |>.videoCands) }
      if n.videoRun < 2 then n else { n with video := .frameLock, videoRun := 0, videoFmt := e.format }
  | .frameLock =>
    let full := decide (c.lineNo = (videoLines c.videoFmt).1)
    if e.frame && full then { c with lineNo := 0 }
    else if e.frame || full then { c.toLines e.falling with lineNo := 0, framed := e.frame }
    else c
  | _ => c

/-- An edge of the feed at Kettle instant `k`: whether it is a line sync, and the video state after it (R158, R160; log
59). -/
def Chan.sync (k : Nat) (e : EdgeIn) (c : Chan) : Chan × Bool :=
  if !e.amplitudeOk || (c.permits e.falling).isEmpty then (c, false)
  else
    let heard := { c with amps := (c.amps ++ [e.amp]).drop (c.amps.length + 1 - 16) }
    match c.video with
    | .none => (c, false)
    | .search => (heard.search k e.falling, true)
    | _ =>
      if !c.onTime k || decide ((videoLines (if c.videoFmt ≠ 0 then c.videoFmt else c.videoCands.headD 0)).2 = e.falling) then (c, false)
      else ({ heard with syncAt := some k, lineNo := c.lineNo + c.videoMiss + 1, videoMiss := 0 }.line e, true)

/-- The video channel's state changes: relocks are counted, its candidate's activity follows (R160, R199). -/
def State.videoTo (ch : Fin 66) (n : Chan) (s : State) : State :=
  let o := s.chan ch
  let s := s.chanMod ch fun _ => n
  let s := if o.video = .frameLock ∧ n.video ≠ .frameLock then s.count (16 * ch.val + 8) else s
  if o.video = n.video then s else refCond ch s

/-- EVENT selects the sync (R161). -/
def Chan.videoStamps (e : EdgeIn) (c : Chan) : Bool :=
  match c.video with
  | .frameLock => if c.event = 0 then true else if c.event = 1 then e.first else e.frame
  | .lineLock => decide (c.event = 0)
  | _ => false

/-- REFERENCE_EDGE: an edge of a channel, latched at Kettle instant `t` (R144, R154, R161, R162). -/
def State.edge (t : Nat) (ch : Fin 66) (e : EdgeIn) (s : State) : State :=
  if !s.chanLive ch then s
  else if ch.val < 16 then
    if (s.chan ch).mode = 2 then
      let (n, isSync) := (s.chan ch).sync (s.convert ch t e.bin).2 e
      let s := s.videoTo ch n
      let c := s.chan ch
      let f := decide (c.video = .frameLock)
      if isSync && c.videoStamps e then
        s.stampIn t ch 1 { Stamp.init with frame := f && e.frame, field2 := f && e.field2, line := if f then e.line else 0 }
          e.bin e.invalid
      else s
    else
      let (c, pass) := (s.chan ch).prescale e.falling
      let s := s.chanMod ch fun _ => c
      if pass then s.stampIn t ch 0 { Stamp.init with falling := e.falling } e.bin e.invalid else s
  else if ch.val < 64 then
    if e.kind = 3 then s.stampIn t ch 3 Stamp.init e.bin e.invalid
    else if (s.chan ch).enable then s.stampIn t ch 2 Stamp.init e.bin e.invalid else s
  else s.stampIn t ch e.kind Stamp.init e.bin e.invalid

/-! ### Power, configuration changes and resets of a channel (R156, R157, R168, R174, R176, R188) -/

/-- A gate of the channel ends (R188, R192). -/
def State.gatesEnd (ch : Fin 66) (s : State) : State :=
  s.meas.freqs.foldl (fun s g => if g.ch.val = ch.val then s.endFail g.tag (wrongState 0x000A) else s) s

/-- Intervals that use the channel end (R174). -/
def State.ivsEnd (ch : Fin 66) (s : State) : State :=
  s.meas.ivs.foldl (fun s v => if v.startCh.val = ch.val ∨ v.stopCh.val = ch.val then s.endFail v.tag (wrongState 0x0007) else s) s

/-- Nothing is known of a video signal; a channel in video mode searches for one (R160). -/
def Chan.noVideo (c : Chan) : Chan :=
  { c with videoRun := 0, videoMiss := 0, videoFmt := 0, videoCands := [], syncAt := none, lineNo := 0, framed := false, amps := [],
           video := if c.mode = 2 then .search else .none }

/-- A channel starts from nothing: no stamps held, delays and period pairs to be taken; tables kept (R157, R176). -/
def Chan.fresh (now : Nat) (c : Chan) : Chan :=
  { c with lookback := [], lastEdge := none, preRise := 0, preFall := 0, cal := .lin, pairOk := false, upAt := now,
           clkGap := false, settling := false }.noVideo

/-- The channel leaves FRAME_LOCK, which is counted (R160, R175). -/
def State.unlock (ch : Fin 66) (s : State) : State :=
  if (s.chan ch).video = .frameLock then s.count (16 * ch.val + 8) else s

/-- A channel powers up (R157). -/
def State.chanUp (ch : Fin 66) (s : State) : State := s.chanMod ch (Chan.fresh s.now)

/-- A channel powers down (R149, R168, R174, R188). -/
def State.chanDown (ch : Fin 66) (s : State) : State :=
  let s := (s.unlock ch).chanMod ch fun c =>
    { c.fresh s.now with cal := .off, video := .none, capture := c.capture.down, gapPending := false }
  (s.gatesEnd ch).ivsEnd ch

/-- A channel reset; `more` is how much longer than the 20 us of R157 its stamps stop (R176). A channel that is powered
down has only its capture to lose. -/
def chanResetFor (more : Nat) (ch : Fin 66) (s : State) : State :=
  if !s.chanLive ch then s.chanMod ch fun c => { c with capture := Capture.init }
  else
    let s := (s.unlock ch).chanMod ch fun c => { c.fresh (s.now + more) with gapPending := true, capture := Capture.init }
    let s := s.meas.ivs.foldl (fun s v =>
      if v.startCh.val = ch.val ∨ v.stopCh.val = ch.val then
        s.ivPut v false { (v.next s.now) with invalid := v.invalid + 1, recent := [] }
      else s) s
    refCond ch s

/-- A channel reset (R176). -/
def chanReset (ch : Fin 66) (s : State) : State := chanResetFor 0 ch s

/-- A reset of the fabric core: every channel and the two internal points; stamps stop for 25 us (R176). -/
def fabricReset (s : State) : State := forFin 66 (chanResetFor (5 * usU)) s

/-- A root loss is declared: stamps with edges from 1 us before are marked (R164). -/
def measRootLost (s : State) : State :=
  s.onMeas fun m =>
    { m with chans := vmap m.chans fun c =>
        { c with lookback := c.lookback.map fun x => if s.now ≤ x.edge + usU then { x with invalid := true } else x } }

/-- A frequency window that meets a root loss gives no verdict (R202). -/
def refsRootLost (s : State) : State := s.onRef fun u => { u with cands := vmap u.cands fun c => { c with winRoot := true } }

end Sys2Proof.Machine
end

