-- ==== Sys2Proof/Machine/Carillon.lean ====
section
/-!
DEFINITION. The Carillon below its commands: the root PLL, the domain PLLs and their bands, ramps, dividers and edge
generators, alignment, stops, the SYNC_IN arm, and what gates the pins (R297 to R326, R412, R430, R431).
-/

namespace Sys2Proof.Machine

/-! ### The root PLL (R297 to R300, R332, R339) -/

/-- RING_MS grows by the whole milliseconds spent on the ring (R339). -/
def State.ringCount (s : State) : State :=
  if s.root.onRing then
    let n := (s.now - s.root.ringMs) / msU
    (s.count 0x0902 n).onRoot fun r => { r with ringMs := r.ringMs + n * msU }
  else s

/-- A root loss is declared: the derived clocks move to the ring, stamps are INVALID, windows give no verdict, every
enabled DPLL enters HOLDOVER with cause ROOT (R164, R202, R286, R298). -/
def State.rootDeclare (ringKhz : Nat) (s : State) : State :=
  let s := (s.count 0x0900).onRoot fun r =>
    { r with st := .search, onRing := true, losses := satU 32 (r.losses + 1), lastLoss := s.mt, lossAt := s.now,
             ringKhz := ringKhz, inLoss := true, invalidSpan := true, waitFrom := none, seqFrom := s.now, ringMs := s.now }
  loopsRootLost (refsRootLost (measRootLost s))

/-- The relock sequence starts at step 1 (R299, R300). -/
def State.rootSearch (s : State) : State :=
  s.onRoot fun r => { r with st := .search, waitFrom := none, seqFrom := s.now }

/-- A reset of the root PLL: every effect of a declaration, or the sequence in progress again from step 1 (R300).
RING_KHZ of this loss is a free value (log 2). -/
def rootReset (s : State) : State :=
  if s.root.inLoss then s.rootSearch
  else
    let (k, s) := s.draw
    s.rootDeclare (Config.freeWord k).toNat

/-- Length of the band search, 32 x 32.8 us (R299). -/
def searchU : Nat := 32 * 328 * usU / 10

/-- ROOT_STATE at this instant (R332): the band search and the 1 s wait, then the loop closing, then the checks. -/
def State.rootState (s : State) : Nat :=
  if !s.root.inLoss && decide (s.root.st = .locked) then 0
  else if s.root.waitFrom.isSome ∨ !s.past s.root.seqFrom searchU then 1
  else if !s.past s.root.seqFrom (searchU + 400 * usU) then 2
  else 3

/-! ### VCO multiple and bands (R301 to R303) -/

/-- K: the integer nearest 11.2 GHz / F_D, within 6 to 1,024, moved by 1 if the VCO would leave 9.6 to 12.8 GHz
(R301). -/
def vcoK (n d : Nat) : Nat :=
  let k := (rdiv (11200000000 * (d : Int)) n).toNat
  let k := max 6 (min 1024 k)
  if k * n < 9600000000 * d then min 1024 (k + 1) else if 12800000000 * d < k * n then max 6 (k - 1) else k

/-- F_D lies in 9.375 MHz to 1.6 GHz (R301). -/
def fdOk (n d : Nat) : Bool := decide (9375000 * d ≤ n) && decide (n ≤ 1600000000 * d)

/-- How far the VCO target lies inside a band, in units of 1/d Hz; negative outside (R303). -/
def bandRoom (k n d : Nat) (b : Nat × Nat) : Int :=
  min (((k * n : Nat) : Int) - (b.1 * 1000 * d : Nat)) (((b.2 * 1000 * d : Nat) : Int) - (k * n : Nat))

/-- The band with the most room, the lower one between equals: its number and room (R303). -/
def bandGo (k n d : Nat) : List (Nat × Nat) → Nat → Option (Nat × Int) → Option (Nat × Int)
  | [], _, best => best
  | b :: l, i, best =>
    let x := bandRoom k n d b
    bandGo k n d l (i + 1) (match best with
      | none => some (i, x)
      | some (j, y) => if y < x then some (i, x) else some (j, y))

/-- Band and margin in ppm for F_D n/d, if some band covers the target with ±560 ppm (R303). -/
def bandPick (table : List (Nat × Nat)) (n d : Nat) : Option Nat :=
  let k := vcoK n d
  match bandGo k n d table 0 none with
  | some (i, x) => if 560 * ((k * n : Nat) : Int) ≤ x * 10 ^ 6 then some i else none
  | none => none

/-- MARGIN of SYN_CONFIG: the smaller margin of the band in use in ppm; 0 while FILLING (R328). -/
def Domain.marginPpm (x : Domain) : Nat :=
  match x.table[x.band]? with
  | some b => if x.filling then 0 else satU 16 ((bandRoom x.k x.num x.den b * 10 ^ 6).toNat / (x.k * x.num))
  | none => 0

/-- VCO_KHZ of SYN_CONFIG (R328). -/
def Domain.vcoKhz (x : Domain) : Nat := if x.filling then 0 else (rdiv ((x.k * x.num : Nat) : Int) (x.den * 1000)).toNat

/-! ### Ramps (R307 to R310) -/

/-- Time a segment needs to reach its target from r, 2^-16 ns (R308). -/
def Seg.reach (g : Seg) (r : Int) : Nat := if g.slope = 0 then 0 else (g.target - r).natAbs * secU / g.slope

/-- One update of r, 10 us, in 2^-16 ns (R308). -/
def rampStep : Nat := 10 * usU

/-- Length of a segment that starts at r: the target is reached at an update, then the dwell (R308). -/
def Seg.len (g : Seg) (r : Int) : Nat := (g.reach r + rampStep - 1) / rampStep * rampStep + g.dwell * msU

/-- Integral of r over the first `dt` of a segment, 10^-12 x 2^-16 ns: linear to the target, then constant (R307, R308). -/
def Seg.sum (g : Seg) (r : Int) (dt : Nat) : Int :=
  let u := g.reach r
  if u ≤ dt then (r + g.target) * u / 2 + g.target * ((dt : Int) - u)
  else
    let bend := rdiv ((g.slope * dt * dt : Nat) : Int) (2 * secU)
    if r ≤ g.target then r * dt + bend else r * dt - bend

/-- The segment a domain executes. -/
def Domain.seg (x : Domain) : Seg := (x.segs.toList.getD x.rampSeg none).getD Seg.init

/-- Accumulated integral of r at Kettle instant `k` (R307). -/
def Domain.rampSum (x : Domain) (k : Nat) : Int :=
  match x.ramp with
  | .idle => x.rampPhase
  | .running => x.rampPhase + x.seg.sum x.rampR (k - x.rampFrom)
  | .held => x.rampPhase + x.rampR * ((k - x.rampFrom : Nat) : Int)

/-- The PULSE outputs of a domain take the ramp's phase so far: a positive offset makes edges early (R307). -/
def State.foldRamp (d : Fin 8) (s : State) : State :=
  let x := s.dom d
  let v := x.rampSum s.now / 10 ^ 12
  if v = x.rampFold then s
  else
    let s := s.onOut fun o =>
      { o with pl := vmap o.pl fun p => if p.domain = d then s.plJudge (p.shift (x.rampFold - v)) else p }
    s.domMod d fun y => { y with rampFold := v }

/-- STOP, a power-down or a reset: r is 0 at once, the phase it made stays (R310). -/
def State.rampIdle (d : Fin 8) (s : State) : State :=
  let s := s.foldRamp d
  s.domMod d fun y => { y with rampPhase := y.rampSum s.now, ramp := .idle, rampR := 0, rampSeg := 0, rampRuns := 0 }

/-- The next segment, the next run, or HELD (R308). -/
def Domain.nextSeg (x : Domain) : Domain :=
  let at' := x.rampFrom + x.seg.len x.rampR
  let y := { x with rampPhase := x.rampSum at', rampR := x.seg.target, rampFrom := at' }
  if x.rampSeg < x.rampLast then { y with rampSeg := x.rampSeg + 1 }
  else if x.rampLoop ∧ (x.rampRepeat = 0 ∨ x.rampRuns < x.rampRepeat) then
    { y with rampSeg := 0, rampRuns := min 255 (x.rampRuns + 1) }
  else { y with ramp := .held }

/-! ### CKOUT outputs (R311 to R313) -/

/-- Frequency limit of a format in Hz (R311). -/
def fmtMax (f : Nat) : Nat := if f = 1 then 400000000 else 1600000000

/-- F_D / DIV within the limit of the format (R311). -/
def ckRateOk (n d div fmt : Nat) : Bool := decide (n ≤ fmtMax fmt * (d * div))

/-- Residual of a restart of output `n` on domain `x`: within half a VCO period, else free (R312, log 60). -/
def Domain.residual (x : Domain) (draw n : Nat) : Int :=
  let h : Int := (x.den * secU / (2 * x.k * x.num) : Nat)
  clampI (-h) h (Config.ckResidual draw n)

/-- The output starts or is re-aligned: a divider restart at the VCO edge nearest its alignment point, `res` from it
(R312). -/
def Ckout.align (rampSum res : Int) (k : Ckout) : Ckout :=
  { k with aligned := true, syncRef := false, dphi := res, rampAt := rampSum, holdFrom := none, startDue := false }

/-- ALIGNED: no domain-time step and no ramp phase since (R338). -/
def State.ckAligned (s : State) (k : Ckout) : Bool :=
  k.enable && k.aligned && !k.syncRef && decide ((s.dom k.domain).rampSum s.now = k.rampAt)

/-- A CKOUT output starts aligned if its domain runs; else it will start with its domain (R306, R313). Under a strobe the
start is made once, after its values (R566). -/
def State.ckStart (n : Fin 24) (s : State) : State :=
  let x := s.dom (s.ck n).domain
  if s.mb.applying then s.ckMod n fun k => { k with startDue := true }
  else
    let (d, s) := s.draw
    s.ckMod n fun k =>
      if k.enable && x.running then k.align (x.rampSum s.now) (x.residual d n.val)
      else { k with aligned := false, holdFrom := none, startDue := false }

/-! ### PULSE outputs (R315 to R318) -/

/-- Tick of the 2.5 ns grid and fine delay in 10 ps for an exact instant `a / b` in 10 ps of domain time (R315). -/
def pulseEdge (a : Int) (b : Nat) : Int × Int :=
  let n := a / ((250 * b : Nat) : Int)
  let fine := (2 * (a - n * 250 * b) + b) / ((2 * b : Nat) : Int)
  if fine = 250 then (n + 1, 0) else (n, fine)

/-- The edge a tick and fine delay make, in 2^-16 ns of domain time, rounded down. -/
def edgeU (e : Int × Int) : Int := (e.1 * 250 + e.2) * 65536 / 100

/-- One second in 10 ps. -/
def sec10 : Nat := 100000000000

/-- t plus phase for alignment point `k`, as a quotient in 10 ps over NUM x 65536 (R315, R317). -/
def Pulse.instant (p : Pulse) (k : Int) : Int × Nat :=
  (k * p.den * sec10 * 65536 + p.delay * p.num * 65536 + p.phi * 100 * p.num, p.num * 65536)

/-- Domain reading of the rising edge of alignment point `k`. -/
def Pulse.riseAt (p : Pulse) (k : Int) : Int :=
  let t := p.instant k
  edgeU (pulseEdge t.1 t.2)

/-- Domain reading of its falling edge: t + WIDTH, or half the period later with HALF (R315). -/
def Pulse.fallOf (p : Pulse) (k : Int) : Int :=
  let t := p.instant k
  edgeU (if p.half then pulseEdge (2 * t.1 + (p.den * sec10 * 65536 : Nat)) (2 * t.2)
         else pulseEdge (t.1 + p.width * 100 * t.2) t.2)

/-- Alignment point of the first rising edge after domain reading `x`. -/
def Pulse.nextPoint (p : Pulse) (x : Int) : Int :=
  let off := p.delay * 65536 / 100 + p.phi
  let k := (x - off) * p.num / ((p.den * secU : Nat) : Int)
  if x < p.riseAt (k - 1) then k - 1 else if x < p.riseAt k then k else if x < p.riseAt (k + 1) then k + 1 else k + 2

/-- Period of a PULSE output in 2^-16 ns, rounded down. -/
def Pulse.period (p : Pulse) : Nat := periodOf p.num p.den

/-- The output starts with its domain: there is no phase to keep (R306). -/
def Pulse.begin (now : Nat) (p : Pulse) : Pulse :=
  { p with phi := 0, slewing := false, slewReq := false, syncRef := false, restartAt := none, edgeFrom := now, high := false }

/-- A slew correction over `dt`: toward t the shorter way, later when both are equal (R322). -/
def Pulse.slewBy (dt : Nat) (p : Pulse) : Pulse :=
  let v : Int := (p.slewRate * dt + p.slewRem) / 10000000
  let p := { p with slewRem := if p.slewing then (p.slewRate * dt + p.slewRem) % 10000000 else 0 }
  if !p.slewing then p
  else if 2 * p.phi = p.period then p.shift (min v p.phi)
  else if 0 ≤ p.phi then { p with phi := max 0 (p.phi - v) } else { p with phi := min 0 (p.phi + v) }

/-! ### Starts, stops and re-alignments of a domain (R306, R320, R326) -/

/-- The arm lapses for every output and SYNC_EXPIRED sets when an armed output's domain stops (R326). -/
def State.armLapse (d : Fin 8) (s : State) : State :=
  match s.out.arm with
  | none => s
  | some a =>
    let hit := (List.finRange 24).any (fun n => a.ckout.getLsbD n.val && decide ((s.ck n).domain = d)) ||
               (List.finRange 16).any (fun n => a.pulse.getLsbD n.val && decide ((s.pl n).domain = d))
    if hit then s.onOut fun o => { o with arm := none, syncExpired := true } else s

/-- A domain stops under R306: counted, its outputs at the disabled level, an arm lapses. -/
def State.domStop (d : Fin 8) (s : State) : State :=
  let s := (s.count (0x0700 + 16 * d.val + 2)).armLapse d
  let s := s.domMod d fun x => { x with running := false, locked := false, retuning := false }
  s.onOut fun o =>
    { o with ck := vmap o.ck fun k => if k.domain = d then { k with aligned := false } else k
             pl := vmap o.pl fun p => if p.domain = d then { p with high := false } else p }

/-- The domain PLL has locked: the outputs run, enabled ones start aligned (R306). -/
def State.domStart (d : Fin 8) (s : State) : State :=
  let s := s.foldRamp d
  let x := s.dom d
  let sum := x.rampSum s.now
  let (w, s) := s.draw
  let s := s.domMod d fun x => { x with running := true, locked := true, filling := false, retuning := false }
  s.onOut fun o =>
    { o with ck := vmapIdx o.ck fun n k => if k.domain = d ∧ k.enable then k.align sum (x.residual w n) else k
             pl := vmap o.pl fun p => if p.domain = d then p.begin s.now else p }

/-- A block reset of a domain: stop, refill, ramp IDLE, the arm lapses; configuration, profile, counters, DPLL and
domain time are kept (R340). -/
def domReset (d : Fin 8) (s : State) : State :=
  if (s.dom d).enable then ((s.rampIdle d).domStop d).domMod d fun x => { x with filling := true, noBand := false, lowMargin := false }
  else (s.rampIdle d).armLapse d

/-- One period of the 2.5 ns grid in 2^-16 ns (R315). -/
def gridU : Nat := 163840

/-- Re-align a CKOUT output that runs. A SYNC_IN edge that is recognised in a later grid cycle restarts it after this (R312,
R320, R325, R326). -/
def State.ckRealign (n : Fin 24) (s : State) : State :=
  let k := s.ck n
  if k.enable && (s.dom k.domain).running && !(k.syncRef && decide (s.now + gridU ≤ k.syncAt)) then s.ckStart n else s

/-- Re-align a PULSE output (R318, R320). -/
def State.plRealign (n : Fin 16) (s : State) : State :=
  let d := (s.pl n).domain
  if (s.dom d).running && !((s.pl n).syncRef && decide (s.now + gridU ≤ (s.pl n).syncAt)) then
    (s.foldRamp d).plMod n (Pulse.restart s.now)
  else s

/-- Every enabled output of a domain is re-aligned (R320). -/
def State.realignOuts (d : Fin 8) (s : State) : State :=
  let s := forFin 24 (fun n s => if (s.ck n).domain = d then s.ckRealign n else s) s
  forFin 16 (fun n s => if (s.pl n).domain = d ∧ (s.pl n).enable then s.plRealign n else s) s

/-- A pending step is resolved: the domain's phase, for DPLL0 the Metronome, steps by O later (R281, R320). -/
def State.resolveStep (d : Fin 8) (s : State) : State :=
  let o := (s.dpll d).buildOut
  if !(s.dpll d).stepPending || (decide ((s.dpll d).sw = .measure) && s.measureEnding d) then s
  else if d.val = 0 then utcUpdate (metroStep (-o) 1 (s.stepDone 0))
  else ((s.stepDone d).dpllMod d fun x => { x with domTime := x.domTime - o * accU }).domStepped d (-o)

/-- METRO: the domain time is loaded from the Metronome; a loop that follows a frequency sees no error (R321). -/
def State.loadMetro (d : Fin 8) (s : State) : State :=
  let dv := (s.time.metro : Int) - (s.dpll d).domTime
  let s := s.dpllMod d fun x =>
    { x with domTime := s.time.metro, buildOut := if x.cur.isSome then x.buildOut + dv / accU else x.buildOut }
  s.domStepped d (dv / accU)

/-- METRO is refused while DPLLn follows a steered TIME reference (R321, R335). -/
def State.metroRefused (s : State) (d : Fin 8) : Bool :=
  match (s.dpll d).cur with | some r => !s.asFreq d r | none => false

/-! ### What drives the pins (R33, R412, R430, R431, R449, R529) -/

/-- The Clapper withholds output enable (R412). -/
def State.gates (s : State) : Bool := s.pair.en && !(s.pair.ilkOut && !s.pair.ilkIn)

/-- Enabled outputs go to KEEP while they are gated; without the pair unit nothing is kept (R412, R415, R431). At an agreed
handover each output of the old active goes at its own hand-off point (R433). -/
def outGate (s : State) : State :=
  let g := s.gates && !s.pair.hoDone
  let f := fun (en keep : Bool) => s.pair.en && en && (g || keep)
  s.onOut fun o =>
    { o with ck := vmap o.ck fun k => { k with keep := f k.enable k.keep }
             pl := vmap o.pl fun p => { p with keep := f p.enable p.keep } }

/-- What a Carillon pin shows. -/
inductive PinView where | disabled | keep | running
deriving DecidableEq, Repr

/-- Every output is held at its disabled level: before the first strobe, under a Kettle loss, under the Gong with DISABLE
(R449, R529). -/
def State.allDisabled (s : State) : Bool :=
  s.sys.inReset || !s.out.released || s.kettle.lost || (s.flt.gong && s.flt.disable && !s.pair.en)

/-- The pin of a CKOUT output (R33, R306, R313, R412, R449). -/
def State.ckPin (s : State) (n : Fin 24) : PinView :=
  let k := s.ck n
  if s.allDisabled || !k.enable then .disabled
  else if s.gates || k.keep then .keep
  else if k.holdFrom.isSome || k.formFrom.isSome || !(s.dom k.domain).running then .disabled
  else .running

/-- The pin of a PULSE output (R33, R306, R318, R412, R449). -/
def State.plPin (s : State) (n : Fin 16) : PinView :=
  let p := s.pl n
  if s.allDisabled || !p.enable then .disabled
  else if s.gates || p.keep then .keep
  else if p.holdFrom.isSome || !(s.dom p.domain).running then .disabled
  else .running

/-- No edge of rate n/d at phase `off` and `off + w` lies closer to reading `x` than the smaller of 2.5 ns and a quarter
of the period (R430). -/
def handOk (x off w : Int) (n d : Nat) : Bool :=
  let lim := min 163840 (periodOf n d / 4)
  decide (lim ≤ (phaseAt (x - off) n d).natAbs) && decide (lim ≤ (phaseAt (x - off - w) n d).natAbs)

end Sys2Proof.Machine
end

