-- ==== Sys2Proof/Machine/Blocks.lean ====
section
/-!
DEFINITION. Operations of the units that other units cause: a lane leaving UP, a port leaving its state, the pair role,
commands in flight that end with their unit, and what a reset of each block clears (R176, R287, R378, R408, R441).
-/

namespace Sys2Proof.Machine

/-- The candidate of a lane (R14). -/
def linkRef (l : Fin 48) : Fin 66 := ⟨16 + l.val, by omega⟩

/-- The channel of a lane (R14). -/
def linkChan (l : Fin 48) : Fin 66 := ⟨16 + l.val, by omega⟩

/-- Candidate 64, the GNSS receiver (R14). -/
def refGnss : Fin 66 := 64

/-- Candidate 65, the pair partner (R14). -/
def refPair : Fin 66 := 65

/-- A port changes state: Chime PTP (R78, R372). -/
def State.setPort (s : State) (l : Fin 48) (st : Nat) : State :=
  if (s.lane l).pstate = st then s else (s.laneMod l fun x => { x with pstate := st }).chime 12

/-- The clients of a port are freed; its numbers start again once its table is empty (R356, R373). -/
def State.freeClients (s : State) (l : Fin 48) : State :=
  (s.onPtp fun p => { p with clients := p.clients.filter fun c => decide (c.lane ≠ l) }).laneMod l
    fun x => { x with nextNumber := 0 }

/-- Time activity of a port ends: a TIME candidate loses activity (R353, R199). -/
def State.timeActOff (s : State) (l : Fin 48) : State :=
  if (s.lane l).timeAct then refCond (linkRef l) (s.laneMod l fun x => { x with timeAct := false }) else s

/-- The delay mechanism of a port is peer-to-peer (R347, R370). -/
def State.peer (s : State) (l : Fin 48) : Bool :=
  if s.ptp.profile = 1 then true else if s.ptp.profile = 2 then (s.lane l).p2p else false

/-- The port's exchange with its parent is forgotten; `keep`: its peer delay, which is no parent's, is kept (R352). -/
def Lane.noParent (keep : Bool) (x : Lane) : Lane :=
  let x := { x with parentId := 0, parentPort := 0, t1 := none, fu := none, parSync := none, syncAt := none }
  if keep then x else { x with t3 := none, pdT4 := none, delayAt := none, pd := [] }

/-- The state a port has when the BMCA starts afresh: LISTENING (PRE_MASTER where the role leaves no other), DISABLED with
its role, FAULTY without its lane (R349). -/
def State.portStart (s : State) (l : Fin 48) : Nat :=
  if (s.lane l).role = 0 ∨ !s.ptp.en then 3
  else if (s.lane l).lstate ≠ .up then 2
  else if (s.lane l).role = 2 then 5 else 4

/-- The port goes back to LISTENING (R369, R370, R378). -/
def State.toListening (s : State) (l : Fin 48) : State :=
  let s := (s.timeActOff l).laneMod l fun x => { x.noParent false with foreign := [], annAt := s.now, src := TimeSrc.init, preAt := none }
  s.setPort l (s.portStart l)

/-- A lane leaves UP or changes its path: its port is FAULTY, its candidate has no activity (R343, R349, R199). -/
def State.laneTo (s : State) (l : Fin 48) (st : LaneState) : State :=
  let s := s.laneMod l fun x => { x with lstate := st, measFrom := if st = .measuring then s.now else x.measFrom,
                                         evs := if st = .up then x.evs else [], upFrom := if st = .up then s.now else x.upFrom }
  let s := s.toListening l
  if st = .up then s else refLoss (linkRef l) s

/-- A lane reset: MEASURING, the port to LISTENING, its clients freed; configuration and counters kept (R378). -/
def laneReset (l : Fin 48) (s : State) : State :=
  if (s.lane l).lstate = .off then s else (s.laneTo l .measuring).freeClients l

/-- A message-engine reset: every grant, given or held, is freed, ports restart from LISTENING (R378). -/
def engineReset (s : State) : State :=
  forFin 48 (fun l s => ((s.freeClients l).laneMod l fun x => { x with umGrant := [], umRetry := [] }).toListening l)
    (s.onPtp fun p => { p with clients := [] })

/-- A survey or capture in flight ends with WRONG_STATE, DETAIL 0x0005 (R405, R406, R409). -/
def State.gnssEnd (s : State) : State :=
  let f := wrongState 0x0005
  let s := match s.gnss.survey with | some v => s.endFail v.tag f | none => s
  let s := match s.gnss.snap.capTag with | some i => s.endFail i f | none => s
  match s.gnss.snap.procTag with | some i => s.endFail i f | none => s

/-- EXT_REJ of candidate 64: the spoofing alarm, or an inconsistent second (R205, R392, R395). -/
def gnssExt (s : State) : State := refExtRej refGnss (s.gnss.spoof || (s.gnss.checked && !s.gnss.consistent)) s

/-- A receiver reset: tracking and any capture or survey end, START; the rest is kept. Candidate 64 loses activity by the
absence of its marks (R408). -/
def gnssReset (s : State) : State :=
  if s.gnss.rstate = .off then s
  else
    let s := s.gnssEnd
    gnssExt (s.onGnss fun g =>
      { g with rstate := .start, startFrom := s.now, tracks := [], l1Gone := [], caFound := false, ionoLast := [], used := 0, markValid := false,
               timeUnc := none, lostFrom := none, testLost := none, pos60 := [], checked := false, consistent := false })

/-- The code of a pair role (R416). -/
def PairRole.code : PairRole → Nat
  | .off => 0 | .init => 1 | .standby => 2 | .claiming => 3 | .active => 4

/-- A change of role: Chime PAIR, log entry, evaluation of every DPLL; the active module's candidate 65 is OFF
(R231, R416, R429). -/
def State.roleTo (s : State) (r : PairRole) : State :=
  if s.pair.role = r then s
  else
    let old := s.pair.role
    let s := s.onPair fun p => { p with role := r, roleAt := s.mt, claimFirst := none,
                                        align := if r = .standby then p.align else [] }
    let s := (s.log 0x0A 0x01 0 [wd (old.code * 256 + r.code + s.pair.lastCause * 65536)]).chime 11
    let s := if r = .active then refOff refPair s
             else if old = .active ∨ old = .off then refOn refPair s
             else if old = .standby then refLoss refPair s else s
    evalAll (outGate s)

/-- A PAIR_HANDOVER in flight ends with WRONG_STATE, DETAIL 0x0005; an agreed handover is dropped (R439, R442). -/
def State.handoverEnd (s : State) : State :=
  let s := match s.pair.hoTag with
    | some i => s.endFail i (wrongState 0x0005)
    | none => s
  s.onPair fun p => { p with hoTag := none, hoPropose := false, hoT := none, hoAccepted := false, hoDone := false }

/-- A snapshot whose commit will not come is discarded and counted (R428). -/
def State.snapDrop (s : State) : State :=
  if s.pair.asmChunks.isEmpty then s else (s.onPair fun p => { p with asmChunks := [] }).count 0x1807

/-- A pair-unit reset: delays measured again, snapshot and two-way history cleared; the role, ILK_OUT and the Clapper
are kept, and the partner stays alive on the pin path (R441). -/
def pairReset (s : State) : State :=
  if !s.pair.en then s
  else
    s.snapDrop.onPair fun p =>
      { p with measured := false, measFrom := s.now, snap := PairSnap.init, asmChunks := [], asmSeq := 0, means := [],
               txMark := [], evs := [], frameAt := none, bothOkFrom := none }

/-- An archive-controller reset keeps the contents (R469); an NVS or firmware-store controller reset keeps theirs. -/
def keepReset (s : State) : State := s

/-- The blocks of the source table (R456). -/
inductive Block where
  | kettle | root | proc | arc | nvs | fw | hif | flt | fabric
  | chan (c : Fin 64) | dpll (d : Fin 8) | dom (d : Fin 8) | lane (l : Fin 48)
  | engine | gnss | pair
deriving DecidableEq, Repr

/-- Base ID and block of a source ID (R456). -/
def blockOf (src : Nat) : Option (Nat × Block) :=
  if src < 0x010 then some (0x000, .kettle)
  else if src < 0x020 then some (0x010, .root)
  else if src < 0x040 then some (0x020, .proc)
  else if src < 0x050 then some (0x040, .arc)
  else if src < 0x060 then some (0x050, .nvs)
  else if src < 0x070 then some (0x060, .fw)
  else if src < 0x080 then some (0x070, .hif)
  else if src < 0x090 then some (0x080, .flt)
  else if src < 0x0A0 then some (0x090, .fabric)
  else if src < 0x100 then none
  else if h : src < 0x200 then some (0x100 + 4 * ((src - 0x100) / 4), .chan ⟨(src - 0x100) / 4, by omega⟩)
  else if h : src < 0x280 then some (0x200 + 16 * ((src - 0x200) / 16), .dpll ⟨(src - 0x200) / 16, by omega⟩)
  else if h : src < 0x300 then some (0x280 + 16 * ((src - 0x280) / 16), .dom ⟨(src - 0x280) / 16, by omega⟩)
  else if h : src < 0x3C0 then some (0x300 + 4 * ((src - 0x300) / 4), .lane ⟨(src - 0x300) / 4, by omega⟩)
  else if src < 0x3D0 then some (0x3C0, .engine)
  else if src < 0x3E0 then some (0x3D0, .gnss)
  else if src < 0x3F0 then some (0x3E0, .pair)
  else none

/-- The block can be reset (R456). -/
def Block.resettable : Block → Bool
  | .kettle => false | .proc => false | .hif => false | .flt => false
  | .root => true | .arc => true | .nvs => true | .fw => true | .fabric => true
  | .chan _ => true | .dpll _ => true | .dom _ => true | .lane _ => true
  | .engine => true | .gnss => true | .pair => true

/-- The block can raise fatal faults (R456). -/
def Block.canFatal : Block → Bool
  | .kettle => true | .proc => true | .flt => true | .pair => true
  | .root => false | .arc => false | .nvs => false | .fw => false | .hif => false | .fabric => false
  | .chan _ => false | .dpll _ => false | .dom _ => false | .lane _ => false
  | .engine => false | .gnss => false

/-- Reset length in 2^-16 ns where the table gives it exactly; 0 where it is a bound or a typical figure (R456). -/
def Block.resetLen : Block → Nat
  | .arc => 2 * msU | .nvs => msU | .fw => msU | .fabric => 25 * usU | .chan _ => 20 * usU | .dpll _ => 10 * usU
  | .lane _ => 3500 * usU | .engine => msU | .gnss => 0 | .pair => 3500 * usU
  | .root => 0 | .dom _ => 0 | .kettle => 0 | .proc => 0 | .hif => 0 | .flt => 0

/-- What a reset of a block clears. -/
def Block.reset (b : Block) (s : State) : State :=
  match b with
  | .root => rootReset s
  | .arc => keepReset s
  | .nvs => keepReset s
  | .fw => keepReset s
  | .fabric => fabricReset s
  | .chan c => chanReset ⟨c.val, by omega⟩ s
  | .dpll d => dpllReset d s
  | .dom d => domReset d s
  | .lane l => laneReset l s
  | .engine => engineReset s
  | .gnss => gnssReset s
  | .pair => pairReset s
  | .kettle => s
  | .proc => s
  | .hif => s
  | .flt => s

end Sys2Proof.Machine
end

