-- ==== Sys2Proof/Machine/Fault.lean ====
section
/-!
DEFINITION. The fault collector: codes, reports, records, the Gong, block resets and their shadow, injection, and the
FLT commands (R443 to R466).
-/

namespace Sys2Proof.Machine

/-- What a code is: class, retry, injectable, and the blocks that raise it (R457). -/
structure CodeInfo where
  code : Nat
  cls : Cls
  retry : Bool
  inj : Bool
  raisedBy : Block → Bool

/-- A block of each kind, for the columns of the code table. -/
def Block.isChan : Block → Bool | .chan _ => true | .fabric => true | _ => false
def Block.isDpll : Block → Bool | .dpll _ => true | _ => false
def Block.isDom : Block → Bool | .dom _ => true | _ => false
def Block.isLane : Block → Bool | .lane _ => true | _ => false

/-- The code table (R457). -/
def codeTable : List CodeInfo :=
  [⟨0x01, .corrected, false, true, fun b => b == .proc || b == .arc⟩,
   ⟨0x02, .contained, true, true, fun b => b == .arc⟩,
   ⟨0x03, .fatal, true, true, fun b => b == .proc⟩,
   ⟨0x04, .fatal, false, true, fun b => b == .proc⟩,
   ⟨0x05, .fatal, false, false, fun b => b == .proc⟩,
   ⟨0x06, .fatal, false, false, fun b => b == .kettle⟩,
   ⟨0x07, .contained, false, false, fun b => b == .kettle⟩,
   ⟨0x08, .contained, false, false, fun b => b == .kettle⟩,
   ⟨0x09, .contained, false, false, fun b => b == .root⟩,
   ⟨0x0A, .contained, false, true, fun _ => true⟩,
   ⟨0x0B, .fatal, false, false, fun _ => true⟩,
   ⟨0x0C, .fatal, false, false, fun b => b == .flt⟩] ++
  [⟨0x10, .contained, false, false, Block.isChan⟩,
   ⟨0x11, .corrected, false, false, Block.isChan⟩,
   ⟨0x12, .corrected, false, false, Block.isChan⟩,
   ⟨0x18, .contained, false, true, Block.isDpll⟩,
   ⟨0x20, .contained, false, false, Block.isDom⟩,
   ⟨0x21, .corrected, false, false, Block.isDom⟩,
   ⟨0x22, .contained, false, false, Block.isDom⟩,
   ⟨0x30, .corrected, false, false, Block.isLane⟩,
   ⟨0x31, .contained, false, false, Block.isLane⟩,
   ⟨0x32, .contained, true, true, fun b => b == .engine⟩] ++
  [⟨0x40, .corrected, false, false, fun b => b == .gnss⟩,
   ⟨0x41, .contained, false, false, fun b => b == .gnss⟩,
   ⟨0x50, .contained, false, false, fun b => b == .pair⟩,
   ⟨0x51, .contained, false, false, fun b => b == .pair⟩,
   ⟨0x52, .contained, false, false, fun b => b == .pair⟩,
   ⟨0x53, .contained, false, false, fun b => b == .pair⟩,
   ⟨0x54, .fatal, false, false, fun b => b == .pair⟩,
   ⟨0x60, .corrected, false, false, fun b => b == .nvs⟩,
   ⟨0x61, .contained, true, true, fun b => b == .nvs⟩,
   ⟨0x62, .corrected, false, false, fun b => b == .nvs⟩,
   ⟨0x68, .contained, true, false, fun b => b == .fw⟩]

/-- The entry of a code (R457). -/
def codeInfo (c : Nat) : Option CodeInfo := codeTable.find? fun x => x.code = c

/-- A code whose default reaction is a reset of its block (R457). -/
def codeResets (c : Nat) : Bool := c == 0x18 || c == 0x31 || c == 0x32 || c == 0x41

/-- REACT in force for a code, 0 default (R462, R465). -/
def Flt.reactOf (f : Flt) (c : Nat) : Nat := match f.react.find? (fun p => p.1 = c) with | some p => p.2 | none => 0

/-- A class counter one up: COUNT stops at its limit and SAT sets there (R81). -/
def cntUp (w : Word) : Word :=
  if w.toNat % 2 ^ 31 = 2 ^ 31 - 1 then w ||| 0x80000000
  else if w.toNat % 2 ^ 31 = 2 ^ 31 - 2 then (w + 1) ||| 0x80000000 else w + 1

/-- Every report increments its class counter (R459). -/
def State.cntCls (s : State) (c : Cls) : State :=
  match c with
  | .corrected => (s.onFlt fun f => { f with cntCor := cntUp f.cntCor }).onHif fun h => { h with cyc := { s.cyc with cor := s.cyc.cor + 1 } }
  | .contained => (s.onFlt fun f => { f with cntCon := cntUp f.cntCon }).onHif fun h => { h with cyc := { s.cyc with con := s.cyc.con + 1 } }
  | .fatal => (s.onFlt fun f => { f with cntFat := cntUp f.cntFat }).onHif fun h => { h with cyc := { s.cyc with fat := s.cyc.fat + 1 } }
  | .none => s

/-- A report with what an injection adds to it, and the reaction it takes. -/
structure Taken where
  r : Report
  injected : Bool := false
  real : Bool := false
  react : Bool := true

/-- The source reported this code as transient more than 16 times within 1 s, this report included (R447). -/
def Flt.lasting (f : Flt) (now src code : Nat) : Bool :=
  decide (16 ≤ (f.transients.filter fun p => decide (p.1 = src ∧ p.2.1 = code ∧ now < p.2.2 + secU)).length)

/-- The source's block is in its reset or reset shadow, whose last cycle masks too (R452, R461). -/
def Flt.inShadow (f : Flt) (now src : Nat) : Bool :=
  match blockOf src with
  | some (b, _) => (f.shadows.any fun p => p.1 = b) || f.shadowOff.contains (b, now)
  | none => false

/-- Resets of a block within the last 10 s (R453). -/
def Flt.resetsOf (f : Flt) (now base : Nat) : Nat :=
  (f.resets.filter fun p => decide (p.1 = base ∧ now < p.2 + 10 * secU)).length

/-- A reset of a block starts: counted, its shadow begins (R452, R453). -/
def State.startReset (s : State) (base : Nat) (b : Block) : State :=
  let s := s.onFlt fun f =>
    { f with resets := (f.resets.filter fun p => decide (s.now < p.2 + 10 * secU)) ++ [(base, s.now)]
             shadows := (f.shadows.filter fun p => decide (p.1 ≠ base)) ++ [(base, s.now, none)] }
  let s := if b = .root ∧ s.root.inLoss = false ∧ !(s.flt.unobs.any fun u => u.source = base) then (s.cntCls .contained).count 0x1A00 else s
  b.reset s

/-- Commands in flight that FAULT_HOLD ends: queued, or marked D and running in either part, not marked H; under a processor restart every one
(R104, R450). -/
def State.failInFlight (s : State) (all : Bool) (i : Fin 48) : State :=
  let t := s.tag i
  let h := match t.cmd with | some c => c.info.h | none => false
  let fl := decide (t.st = .posted) || decide (t.st = .queued) || decide (t.st = .running)
  let d := match t.cmd with | some c => c.info.d | none => false
  let hit := if all then fl else !h && (decide (t.st = .queued) || (decide (t.st = .running) && (t.deferred || d)))
  if hit then s.endFail i { status := stFatalHold } else s

/-- The hardware clears guarded enable `k`: 0 LOAD_EN, 1 INJ_CTL.ENABLE, 2 RAW_WR_EN, 3 TEST. It wins over a write of 1 at
the same instant, which sets WRITE_LOST (R84). -/
def State.hwClear (k : Fin 4) (s : State) : State :=
  let lost := decide (vget s.hif.lastSet k = some s.now)
  let s := s.onHif fun h => { h with lastClr := vmod h.lastClr k fun _ => some s.now }
  if lost then s.hifErr 2 else s

/-- The Gong: GONG_N, FAULT_HOLD and the hardware clears together (R448, R82); ILK_OUT and role (R414, R416); commands
(R104). While it sounds already, nothing more (R448). -/
def State.soundGong (s : State) (injectedOnly : Bool) : State :=
  if s.flt.gong then s
  else
    let s := s.onFlt fun f => { f with gong := true }
    let s := (s.onHif fun h => { h with loadEn := 0, injEnable := h.injEnable && injectedOnly }).onSys fun y => { y with test := false }
    let s := ((if injectedOnly then s else s.hwClear 1).hwClear 0).hwClear 3
    let s := s.toState .faultHold
    let s := s.handoverEnd
    let s := forFin 48 (fun i s => s.failInFlight false i) s
    if s.pair.en then (s.onPair fun p => { p with ilkOut := false, bothFrom := none }).roleTo .init else outGate s

/-- Consequences a cause carries of itself (R20, R448, R450). -/
def State.consequence (s : State) (code : Nat) : State :=
  if code = 0x06 then
    let s := (s.onFlt fun f => { f with kettleLost := true }).onKettle fun k => { k with lost := true }
    outGate (s.onTime fun x => { x with invalid := true })
  else if code = 0x03 ∨ code = 0x04 ∨ code = 0x05 then
    forFin 48 (fun i s => s.failInFlight true i)
      ((((s.fwWrite 0x0060).onHif fun h => { h with fwReady := false }).onSys fun y => { y with restartFrom := some s.now }).onFlt fun f =>
        { f with injs := [] })
  else s

/-- Newest record of the ring. -/
def Flt.newest (f : Flt) : Option Rec := f.recs.getLast?

/-- The report is a repeat of the newest record (R459). -/
def Rec.repeats (x : Rec) (now : Nat) (k : Taken) (transient : Bool) : Bool :=
  decide (x.source = k.r.source ∧ x.code = k.r.code ∧ x.cls = k.r.cls ∧ x.injected = k.injected ∧
          x.transient = transient ∧ x.real = k.real ∧ now < x.lastK + secU)

/-- Of two reports of one cycle `a` is taken first: fatal, contained, corrected; within a class the lower source (R461). -/
def Rec.first (a b : Rec) : Bool := decide (b.cls.code < a.cls.code) || (decide (a.cls = b.cls) && decide (a.source < b.source))

/-- The newest record moves ahead of the records that reports of other sources made in the same cycle and that come after
it; the records keep the indices and SEQ of their places (R461). -/
def Flt.order (now : Nat) (f : Flt) : Flt :=
  match f.recs.getLast? with
  | none => f
  | some r =>
    let old := f.recs.dropLast
    let later := (old.reverse.takeWhile fun x => decide (x.firstK = now) && decide (x.code ≠ 0x0B) && decide (r.code ≠ 0x0B) &&
                                              decide (x.source ≠ r.source) && r.first x).reverse
    match later with
    | [] => f
    | x :: _ =>
      let place := fun (i : Nat) (y : Rec) => { y with index := (x.index + i) % 256, seq := (x.seq + i) % 2 ^ 32 }
      let run := (r :: later).mapIdx place
      let top := run.headD r
      { f with recs := old.take (old.length - later.length) ++ run
               first := if f.first.map (·.seq) = some x.seq then some top else f.first
               nvsFirst := match f.nvsFirst with
                 | some y => if later.any (fun z => z.seq = y.seq) && (top.reaction = 4 || top.reaction = 5) then some top else some y
                 | none => none }

/-- A record made, or a repeat added to the newest (R458, R459, R460); FLT_FIRST and the class flags (R81). -/
def State.putRec (s : State) (k : Taken) (transient lasting : Bool) (reaction : Nat) (gongs : Bool) : State :=
  let ch := match k.r.cls with | .corrected => fun s : State => s.chime 2 | .contained => fun s => s.chime 3 | _ => fun s => s
  match s.flt.newest with
  | some x =>
    if x.repeats s.now k transient then
      let y := { x with rpt := min 65535 (x.rpt + 1), lastK := s.now, lastMs := satU 32 ((s.now - x.firstK) / msU) }
      let s := if gongs && !s.flt.nvsTaken then s.fwWrite 0x0030 else s
      ch (s.onFlt fun f => { f with recs := f.recs.dropLast ++ [y], fatAny := f.fatAny || gongs,
                                    nvsFirst := if gongs && !f.nvsTaken then some y else f.nvsFirst, nvsTaken := f.nvsTaken || gongs })
    else fresh ch s
  | none => fresh ch s
where
  /-- A new record at the next index; a full ring loses its oldest (R460). -/
  fresh (ch : State → State) (s : State) : State :=
    let r : Rec := { Rec.init with source := k.r.source, cls := k.r.cls, code := k.r.code, injected := k.injected,
                                   transient := transient, real := k.real, index := s.flt.nextIdx, reaction := reaction,
                                   timeValid := s.timeValid, lasting := lasting, firstAt := s.mt, detail := k.r.detail,
                                   seq := (s.flt.seq + 1) % 2 ^ 32, firstK := s.now, lastK := s.now }
    let s := if gongs && !s.flt.nvsTaken then s.fwWrite 0x0030 else s
    ch (s.onFlt fun f => Flt.order s.now
      { f with recs := (f.recs ++ [r]).drop (f.recs.length + 1 - 256)
               wrapped := f.wrapped || decide (256 ≤ f.recs.length)
               nextIdx := (f.nextIdx + 1) % 256
               seq := (f.seq + 1) % 2 ^ 32
               first := (match f.first with | some x => some x | none => some r)
               corAny := f.corAny || decide (r.cls = .corrected)
               conAny := f.conAny || decide (r.cls = .contained)
               fatAny := f.fatAny || gongs
               nvsFirst := if gongs && !f.nvsTaken then some r else f.nvsFirst
               nvsTaken := f.nvsTaken || gongs })

/-- RAW_WR_EN is cleared by a contained report of the NVS controller that is taken as real (R457, R82). -/
def State.nvsClear (s : State) (k : Taken) (transient : Bool) : State :=
  if 0x050 ≤ k.r.source ∧ k.r.source ≤ 0x05F ∧ k.r.cls = .contained ∧ !transient ∧ (!k.injected || k.react || k.real) then
    let c := s.hif.rawWrEn
    let s := (s.onHif fun h => { h with rawWrEn := false }).hwClear 2
    if c then s.chime 15 else s
  else s

/-- RESET_CASCADE against the source that asked for a third reset: fatal, never masked (R452, R453). -/
def State.cascade (s : State) (src : Nat) : State :=
  let k : Taken := { r := { source := src, cls := .fatal, code := 0x0B } }
  ((s.cntCls .fatal).putRec k false false 4 true).soundGong false

/-- How a report is taken: REACTION of R458. -/
def State.reactionOf (s : State) (k : Taken) (transient : Bool) : Nat :=
  let rc := s.flt.reactOf k.r.code
  if k.injected && !k.react && !k.real then 0
  else if transient then 1
  else match k.r.cls with
    | .fatal => 4
    | .none => 0
    | .corrected => if rc = 1 then 6 else if rc = 2 then 2 else if rc = 3 then 5 else 1
    | .contained => if rc = 1 then 6 else if rc = 3 then 5 else if rc = 2 || codeResets k.r.code then 2 else 3

/-- One report taken by the collector (R443 to R453). -/
def State.take (s : State) (k : Taken) : State :=
  if s.flt.unobs.any (fun u => u.source = k.r.source) then s
  else if s.flt.inShadow s.now k.r.source && k.r.code != 0x0B then (s.cntCls k.r.cls).count 0x1A00
  else
    let lasting := k.r.transient && s.flt.lasting s.now k.r.source k.r.code
    let transient := k.r.transient && !lasting
    let s := if k.r.transient then
        s.onFlt fun f => { f with transients := (f.transients.filter fun p => decide (s.now < p.2.2 + secU)) ++ [(k.r.source, k.r.code, s.now)] }
      else s
    let s := (s.cntCls k.r.cls).nvsClear k transient
    let n := s.reactionOf k transient
    let boot := k.r.code == 0x68 && !s.hif.fwReady
    match n, blockOf k.r.source with
    | 2, some (base, b) =>
      if !b.resettable || boot then s.putRec k transient lasting 3 false
      else if s.flt.resetsOf s.now base ≥ 2 then (s.putRec k transient lasting 5 false).cascade k.r.source
      else (s.putRec k transient lasting 2 false).startReset base b
    | 4, _ => ((s.putRec k transient lasting 4 true).soundGong (k.injected && !k.real)).consequence k.r.code
    | 5, _ => (s.putRec k transient lasting 5 true).soundGong (k.injected && !k.real)
    | n, _ => s.putRec k transient lasting n false

/-- A report of a block's own (no injection). -/
def State.report (s : State) (source : Nat) (cls : Cls) (code : Nat) (detail : Nat := 0) (transient : Bool := false) : State :=
  s.take { r := { source := source, cls := cls, code := code, transient := transient, detail := wd detail } }

/-- FAULT_REPORT: a source's pair shows a report (R443). The code has one class (R457); REPORT_PATH is fatal where the
source can raise fatal faults (R444). A code that is not marked Retry is never transient (R446). A reserved code is
reported by no source. -/
def execFaultReport (t : Nat) (r : Report) (s : State) : Res :=
  let s := s.advance t
  let fatal := match blockOf r.source with | some (_, b) => b.canFatal | none => false
  match codeInfo r.code with
  | none => done s
  | some c =>
    let cls := if r.code = 0x0A && fatal then Cls.fatal else c.cls
    done (s.take { r := { r with cls := cls, transient := r.transient && c.retry } })

/-- REPORT_PATH: a pair broken for more than 2 CLK_CORE cycles (R444). Recorded first, then the source
is unobserved; `back` tells that its pairs read valid again. -/
def execReportPath (t : Nat) (source : BitVec 10) (cycles : Nat) (back : Bool) (s : State) : Res :=
  let s := s.advance t
  let src := source.toNat
  if cycles ≤ 2 then
    done (if back then s.onFlt fun f => { f with unobs := f.unobs.map (fun u => if u.source = src then { u with broken := false } else u) } else s)
  else
    let fatal := match blockOf src with | some (_, b) => b.canFatal | none => false
    let s := s.report src (if fatal then .fatal else .contained) 0x0A
    done (s.onFlt fun f => { f with unobs := f.unobs.filter (fun u => u.source ≠ src) ++ [{ source := src, broken := !back }] })

/-- A SYS_RESET_BLOCK in flight completes at the end of its shadow (R114). -/
def State.resetDone (s : State) (base : Nat) : State :=
  let n := s.flt.resetsOf s.now base
  (s.sys.resetBlocks.filter fun p => decide (p.1 = base)).foldl
    (fun s p => (s.dropWork p.2).holdOk p.2 (pack [(n, 1, 0)] :: time96 s.mt)) s

/-- BLOCK_RESET_DONE: the block reports ready once its reset length has passed (R452, R456). An unobserved source
whose pairs read valid is observed again (R444). -/
def execBlockResetDone (t : Nat) (source : BitVec 10) (s : State) : Res :=
  let s := s.advance t
  match blockOf source.toNat with
  | none => done s
  | some (base, b) =>
    if s.flt.shadows.any (fun p => decide (p.1 = base) && p.2.2.isNone && decide (p.2.1 + b.resetLen ≤ s.now)) then
      done (s.onFlt fun f =>
        { f with shadows := f.shadows.map (fun p => if p.1 = base ∧ p.2.2 = none then (base, p.2.1, some s.now) else p)
                 unobs := f.unobs.filter fun u => u.broken || decide ((blockOf u.source).map (·.1) ≠ some base) })
    else done s

/-- 64 CLK_CORE cycles in 2^-16 ns (R452). -/
def shadowTail : Nat := 160 * nsU

/-- RESET_SHADOW_END: 64 cycles after ready the block's reports are unmasked (R452). -/
def execResetShadowEnd (t : Nat) (source : BitVec 10) (s : State) : Res :=
  let s := s.advance t
  match blockOf source.toNat with
  | none => done s
  | some (base, _) =>
    if s.flt.shadows.any (fun p => decide (p.1 = base) &&
        (match p.2.2 with | some r => decide (r + shadowTail ≤ s.now) | none => false)) then
      done ((s.onFlt fun f =>
        { f with shadows := f.shadows.filter (fun p => decide (p.1 ≠ base)),
                 shadowOff := f.shadowOff.filter (fun p => p.2 = s.now) ++ [(base, s.now)] }).resetDone base)
    else done s

/-- CLAPPER_STUCK: ILK_OUT readback disagrees with its drive for 10 us (R457). -/
def execClapperStuck (t : Nat) (s : State) : Res :=
  let s := s.advance t
  if s.pair.en then done (s.report 0x3E0 .fatal 0x54) else done s

/-- SYS_RESET_BLOCK: the base ID of a resettable block (R114, R541). -/
def sysResetBlockChecks (priv : Bool) (a : Args) (s : State) : Checks :=
  let src := af a 0 9 0
  let ok := match blockOf src with | some (base, b) => decide (base = src) && b.resettable | none => false
  [cond (!priv) notPermitted, rsv a 0 31 10, cond (!ok) (badArg 0 0),
   cond (decide (src = 0x060) && s.sys.commitWriting) busyRes]

/-- The block is reset, or the escalation takes place instead (R114, R453). -/
def sysResetBlockBody (i : Fin 48) (a : Args) (s : State) : State × Reply :=
  let src := af a 0 9 0
  match blockOf src with
  | none => (s, .fail (badArg 0 0))
  | some (base, b) =>
    if s.flt.resetsOf s.now base ≥ 2 then (s.cascade src, .fail { status := stFatalHold })
    else ((s.startReset base b).onSys fun y => { y with resetBlocks := y.resetBlocks ++ [(base, i)] }, .deferred)

/-- SYS_RESET_BLOCK (R114). -/
def execSysResetBlock (t : Nat) (tag : Fin 48) (s : State) : Res :=
  runCmd .sysResetBlock tag sysResetBlockChecks sysResetBlockBody (s.advance t)

/-- The 8 words of a record (R458). -/
def Rec.words (r : Rec) : List Word :=
  [r.head, pack [(r.rpt, 31, 16), (r.reaction, 15, 12), pbit r.timeValid 11, pbit r.lasting 10]] ++ time96 r.firstAt ++
  [r.detail, wd r.seq, wd r.lastMs]

/-- FLT_READ arguments (R463). -/
def fltReadChecks (_ : Bool) (a : Args) (_ : State) : Checks :=
  rsv a 0 30 16 :: (if ab a 0 31 then [] else [rng a 0 15 8 1 31])

/-- Records from an index toward HEAD, or the stored fatal record (R463). -/
def fltReadBody (_ : Fin 48) (a : Args) (s : State) : State × Reply :=
  let head := match s.flt.newest with | some r => r.index | none => 0
  let w0 := fun (n held : Nat) => pack [(n, 31, 24), (head, 23, 16), pbit s.flt.wrapped 15, (held, 8, 0)]
  if ab a 0 31 then
    match s.flt.nvsFirst with
    | some r => (s, .ok (w0 1 1 :: r.words))
    | none => (s, .ok [w0 0 0])
  else
    let l := (s.flt.recs.dropWhile fun r => decide (r.index ≠ af a 0 7 0)).take (af a 0 15 8)
    (s, .ok (w0 l.length s.flt.recs.length :: l.flatMap Rec.words))

/-- FLT_READ (R463). -/
def execFltRead (t : Nat) (tag : Fin 48) (s : State) : Res :=
  runCmd .fltRead tag fltReadChecks fltReadBody (s.advance t)

/-- The source can raise the code, and the code can be injected (R464). -/
def injectable (src code : Nat) : Bool :=
  match codeInfo code, blockOf src with
  | some c, some (_, b) => c.inj && c.raisedBy b
  | _, _ => false

/-- FLT_INJECT arguments and states (R464). -/
def fltInjectChecks (priv : Bool) (a : Args) (s : State) : Checks :=
  let src := af a 0 31 22
  let code := af a 0 19 12
  [cond (!priv) notPermitted, cond (!s.hif.injEnable) notPermitted,
   cond (s.flt.unobs.any (fun u => u.source = src) || s.flt.inShadow s.now src) (wrongState 0x0002),
   rng a 0 31 22 0 0x3EF, rsv a 0 21 20, cond (!injectable src code) (badArg 0 12 0x0001), rsv a 0 11 9, rsv a 0 7 0,
   cond (s.flt.injs.any fun p => p.1 = src) (busyRes 0x0003)]

/-- The higher of two classes (R454). -/
def Cls.max (a b : Cls) : Cls := if a.code < b.code then b else a

/-- The checker compares syndromes: equal, an injected report; different, a real error of class `real` met it (R454).
The response is word 0 of the record made or repeated (R464). -/
def fltInjectBody (real : Cls) (_ : Fin 48) (a : Args) (s : State) : State × Reply :=
  let src := af a 0 31 22
  let code := af a 0 19 12
  let fatal := match blockOf src with | some (_, b) => b.canFatal | none => false
  let own := if code = 0x0A then (if fatal then Cls.fatal else .contained) else
    match codeInfo code with | some c => c.cls | none => .none
  let k : Taken := { r := { source := src, cls := own.max real, code := code }, injected := true,
                     real := decide (real ≠ .none), react := ab a 0 8 }
  let s := s.take k
  let s := if code = 0x0A && (k.react || k.real) then
      s.onFlt fun f => { f with unobs := f.unobs.filter (fun u => u.source ≠ src) ++ [{ source := src, broken := false }] }
    else s
  (s, .ok [match s.flt.recs.reverse.find? (fun r => r.source = src ∧ r.code = code) with | some r => r.head | none => 0])

/-- An injection whose command stands is in progress from its dispatch, at most one per source (R455). -/
def State.injectStart (i : Fin 48) (s : State) : State :=
  if (s.tag i).cmd = some .fltInject ∧ firstFail (fltInjectChecks (s.tag i).priv (s.tag i).args s) = none then
    s.onFlt fun f => { f with injs := f.injs ++ [(af (s.tag i).args 0 31 22, i.val)] }
  else s

/-- The injection of tag `i` is over: the checker has compared its syndromes (R454, R455). -/
def State.injectEnd (i : Fin 48) (s : State) : State :=
  if s.runs i .fltInject then s.onFlt fun f => { f with injs := f.injs.filter fun p => p.2 ≠ i.val } else s

/-- FLT_INJECT (R464). -/
def execFltInject (t : Nat) (tag : Fin 48) (real : Cls) (s : State) : Res :=
  runCmd .fltInject tag fltInjectChecks (fltInjectBody real) ((s.advance t).injectEnd tag)

/-- One block of each kind of the source table (R456). -/
def Block.kinds : List Block :=
  [.kettle, .root, .proc, .arc, .nvs, .fw, .hif, .flt, .fabric, .chan 0, .dpll 0, .dom 0, .lane 0, .engine, .gnss, .pair]

/-- FLT_REACTION arguments (R465). -/
def fltReactionChecks (priv : Bool) (a : Args) (_ : State) : Checks :=
  let what := af a 0 31 30
  let react := af a 0 29 28
  let code := af a 0 7 0
  let ci := codeInfo code
  let fatal := match ci with | some c => decide (c.cls = .fatal) | none => false
  let noReset := match ci with | some c => Block.kinds.all (fun b => !(c.raisedBy b && b.resettable)) | none => false
  [cond (!priv) notPermitted, rng a 0 31 30 0 1, rsv a 0 27 17, rsv a 0 15 8,
   cond (decide (what = 0) && ci.isNone) (badArg 0 0 0x0001),
   cond (decide (what = 0) && fatal && (decide (react = 1) || decide (react = 2))) (badArg 0 28 0x0002),
   cond (decide (what = 0) && decide (react = 2) && noReset) (badArg 0 28 0x0003)]

/-- The reaction of a code or the output policy of the Gong (R465). -/
def fltReactionBody (_ : Fin 48) (a : Args) (s : State) : State × Reply :=
  let code := af a 0 7 0
  if af a 0 31 30 = 0 then
    let s := s.onFlt fun f =>
      { f with react := f.react.filter (fun p => p.1 ≠ code) ++ (if af a 0 29 28 = 0 then [] else [(code, af a 0 29 28)]) }
    (s, .ok [pack [(s.flt.reactOf code, 29, 28), (code, 7, 0)], pack [pbit s.flt.disable 0]])
  else
    let s := outGate (s.onFlt fun f => { f with disable := ab a 0 16 })
    (s, .ok [0, pack [pbit s.flt.disable 0]])

/-- FLT_REACTION (R465). -/
def execFltReaction (t : Nat) (tag : Fin 48) (s : State) : Res :=
  runCmd .fltReaction tag fltReactionChecks fltReactionBody (s.advance t)

/-- FLT_CLEAR conditions; a fatal report of the same cycle wins (R461, R466). -/
def fltClearChecks (_ : Bool) (a : Args) (s : State) : Checks :=
  let broken := s.flt.unobs.any fun u => u.broken && (match blockOf u.source with | some (_, b) => b.canFatal | none => false)
  [cond s.flt.kettleLost (wrongState 0x0001), cond broken (wrongState 0x0002),
   cond s.sys.restartFrom.isSome (wrongState 0x0003),
   cond (s.flt.recs.any fun r => decide (r.lastK = s.now) && decide (r.cls = .fatal)) (wrongState 0x0004), rsv a 0 31 1]

/-- The ring is emptied, FLT_SUMMARY and FLT_FIRST return to reset, and FAULT_HOLD ends in RECOVERY (R466).
UNOBSERVED stays for a source whose pair is still broken (R81; log 57). -/
def fltClearBody (_ : Fin 48) (a : Args) (s : State) : State × Reply :=
  let nvs := ab a 0 0
  let had := s.flt.nvsFirst.isSome
  let wasHold := decide (s.sys.mstate = .faultHold)
  let s := s.onFlt fun f =>
    { f with recs := [], nextIdx := 0, wrapped := false, first := none, corAny := false, conAny := false, fatAny := false,
             unobs := f.unobs.filter (·.broken), gong := false,
             nvsFirst := if nvs then none else f.nvsFirst, nvsTaken := if nvs then false else f.nvsTaken }
  let s := if nvs && had then s.fwWrite 0x0030 else s
  let s := if wasHold then (outGate s).toState .recovery else s
  (s, .ok [pack [(s.settle.sys.mstate.code, 2, 0), pbit wasHold 8]])

/-- FLT_CLEAR (R466). -/
def execFltClear (t : Nat) (tag : Fin 48) (s : State) : Res :=
  runCmd .fltClear tag fltClearChecks fltClearBody (s.advance t)

end Sys2Proof.Machine
end

