-- ==== Sys2Proof/Machine/Nvs.lean ====
section
/-!
DEFINITION. The NVS controller and its commands: completed and deferred record writes, WP_N, recall, margin and refresh passes, wear, and the NVS commands (R479 to R495).
-/

namespace Sys2Proof.Machine

/-- Word of NVS_RECORD_WRITE's response (R494). -/
def nvReply (written deferred slotB : Bool) (held seq : Nat) : List Word :=
  [pack [pbit written 31, pbit deferred 30, pbit slotB 29, (held, 15, 0)], wd seq]

/-- A host's write has not been made within the 5 ms of its immediate command (R94, R95; log 58). -/
def State.writeLate (s : State) (w : NvWrite) : Bool :=
  match w.host with | some i => s.past (s.tag i).busy (5 * msU) && decide (s.now ≠ (s.tag i).busy + 5 * msU) | none => false

/-- NVS_WRITE_DONE (a host's write that comes too late ends with TIMEOUT and changes nothing, R95): the oldest waiting write of record `id` has been made and read back; one mismatch causes one complete
rewrite, a second raises NVS_VERIFY and the other slot stands (R484, R494). -/
def execNvsWriteDone (t : Nat) (id : Nat) (ok1 ok2 : Bool) (s : State) : Res :=
  let s := s.advance t
  match s.nvs.queue.find? (fun w => w.id = id), nvGeom id with
  | some w, some (pages, _, _) =>
    if s.sys.wp || s.sys.inReset || s.nvsBarred then done s
    else
      let b := s.nextSlotB id
      let seq := s.nextSeq id
      let s := s.onNvs fun n => { n with queue := n.queue.erase w }
      if s.writeLate w then match w.host with | some i => done (s.holdFail i timeoutF) | none => done s
      else
      let s := s.pageOps (slotBase id b / 256) pages
      let s := if ok1 then s else s.pageOps (slotBase id b / 256) pages
      if ok1 || ok2 then
        let s := s.wroteRec w
        let s := if w.wasDeferred then s.nvsEvent 3 id b else s
        match w.host with
        | some i => done (s.holdOk i (nvReply true false b w.payload.length seq))
        | none => done s
      else
        let (k, s) := s.draw
        let bad := memApply s.nvs.mem (writeSeq id b seq w.tag w.payload)
        let s := s.onNvs fun n => { n with mem := memPuts bad (slotBase id b + 12) (bytesOf (Config.freeWord k)) }
        let s := (s.nvsEvent 1 id b).report 0x050 .contained 0x61 id
        match w.host with
        | some i => done (s.holdFail i (wrongState 0x0006))
        | none => done s
  | _, _ => done s

/-- WP_N_ASSERT: no further page operation starts; the oldest write has made `pages` of its own; waiting writes are deferred, a host's write answers DEFERRED (R487,
R488). -/
def execWpNAssert (t pages : Nat) (s : State) : Res :=
  let s := s.advance t
  if s.sys.wp then done s
  else
    let q := s.nvs.queue
    let s := ((s.stopWrite pages).onSys fun y => { y with wp := true }).chime 15
    let s := s.onNvs fun n => { n with queue := [] }
    done (q.foldl (fun s w =>
      let s := s.nvWrite w
      match w.host with
      | some i => s.holdOk i (nvReply false true (s.nextSlotB w.id) w.payload.length (s.nextSeq w.id))
      | none => s) s)

/-- A refresh of one record rewrites its valid slots in place (R490). -/
def State.refreshRec (s : State) (id : Nat) : State :=
  match nvGeom id with
  | none => s
  | some (pages, a, b) =>
    let s := if slotValid s.nvs.mem id false then s.pageOps a pages else s
    if slotValid s.nvs.mem id true then s.pageOps b pages else s

/-- WP_N_DEASSERT: the deferred records go to be written, and the deferred refreshes are made (R488). -/
def execWpNDeassert (t : Nat) (s : State) : Res :=
  let s := s.advance t
  if !s.sys.wp then done s
  else
    let s := (s.onSys fun y => { y with wp := false }).chime 15
    let due := s.nvs.refreshDue
    let s := s.onNvs fun n => { n with queue := n.queue ++ n.deferred, deferred := [], refreshDue := [] }
    done (due.foldl State.refreshRec s)

/-- The records' copies after a recall, and the twins it reports (R483, R485). -/
def State.recalled (s : State) : State :=
  let m := s.nvs.mem
  let s := s.onNvs fun n => { n with recs := nvIds.filterMap (recallOne m) }
  nvIds.foldl (fun s id => if twinDiffer m id then (s.nvsEvent 0 id).report 0x050 .corrected 0x60 id else s) s

/-- The structured contents come back from the records that are present; absent ones give their defaults. The
recalled UTC offset and schedule are in force at once, as source 4 (R126, R483). -/
def State.restore (s : State) : State :=
  let x := s.store
  let has := fun (id : Nat) => (s.nvs.rec? id).isSome
  let v := if has 0x0020 then x.props else TimeSrc.init
  let s := s.onTime fun y =>
    { y with recalled := v, confirmed := false, offset := v.utc.getD 0, offSource := if v.utc.isSome then 4 else 7, event := v.event,
             leap := v.leap }
  let s := s.onFlt fun y => { y with nvsFirst := if has 0x0030 then x.fault else none, nvsTaken := has 0x0030 && x.fault.isSome }
  let s := s.onGnss fun y => if has 0x0040 then { y with fixed := x.fixed, nav := x.nav, almanacs := x.almanacs } else y
  let s := s.onNvs fun y => { y with ops := if has 0x0060 then x.ops else y.ops }
  s.onAge fun y =>
    if has 0x0050 then
      { y with model := x.age.model, prev := x.age.prev, prevY0 := x.age.prevY0, prevDay := x.age.prevDay,
               y0 := x.age.y0, y0Day := x.age.y0Day, days := x.age.days,
               items := x.age.items, plan := x.age.plan, vcore := x.age.plan.vcore, required := x.age.required,
               retention := x.age.retention, lifeHours := x.age.lifeHours }
    else { y with lifeHours := x.age.lifeHours }

/-- The record a byte address lies in (R480). -/
def recOfByte (a : Nat) : Option Nat :=
  nvIds.find? fun id => match nvGeom id with
    | some (n, p, q) => decide ((256 * p ≤ a ∧ a < 256 * (p + n)) ∨ (256 * q ≤ a ∧ a < 256 * (q + n)))
    | none => false

/-- One day in 2^-16 ns. -/
def dayU : Nat := 86400 * secU

/-- NVS_MARGIN: a margin pass starts when its interval has passed, and ends after reading every slot byte at 4 pages per
second: each weak byte counts, raises NVS_MARGIN, and its record is refreshed at once (R489, R513). -/
def execNvsMargin (t : Nat) (start : Bool) (weak : List Nat) (retention : Nat) (s : State) : Res :=
  let s := s.advance t
  if start then
    if s.nvs.marginPass || !s.rolls || !s.past s.nvs.marginAt (s.age.plan.marginDays * dayU) then done s
    else done ((s.onNvs fun n => { n with marginPass := true, marginAt := s.now }).chime 15)
  else if s.nvs.marginPass && s.rolls && s.past s.nvs.marginAt (512 * secU) then
    let s := (s.onNvs fun n => { n with marginPass := false, marginAt := s.now }).chime 15
    let s := (s.onAge fun g => { g with retention := retention }).rollDone 7
    done (weak.foldl (fun s a =>
      let s := (s.count 0x1903).report 0x050 .corrected 0x62 a
      match recOfByte a with
      | none => s
      | some id => if s.sys.wp then s.onNvs fun n => { n with refreshDue := n.refreshDue.insert id } else s.refreshRec id) s)
  else done s

/-- NVS_REFRESH: a full pass rewrites every valid slot and the identity pages with identical bytes, at 8 pages per
second (R490, R513). -/
def execNvsRefresh (t : Nat) (start : Bool) (s : State) : Res :=
  let s := s.advance t
  if start then
    if s.nvs.refreshing || s.sys.wp || !s.rolls || !s.past s.nvs.refreshAt (s.age.plan.refreshDays * dayU) then done s
    else done ((s.onNvs fun n => { n with refreshing := true, refreshAt := s.now }).chime 15)
  else if s.nvs.refreshing && !s.sys.wp && s.rolls && s.past s.nvs.refreshAt (180 * secU) then
    let s := (s.onNvs fun n => { n with refreshing := false, refreshAt := s.now }).chime 15
    done (nvIds.foldl (fun s id => s.refreshRec id) ((s.rollDone 8).pageOps 0 4))
  else done s

/-- WEAR: every hour the page counts and LIFE_HOURS are saved (R491, R518). -/
def execWear (t : Nat) (s : State) : Res :=
  let s := s.advance t
  if !s.rolls || !s.past s.nvs.wearAt (3600 * secU) then done s
  else
    let s := s.onAge fun g =>
      { g with lifeHours := satU 32 (g.lifeHours + (s.now - g.lifeFrom) / (3600 * secU))
               lifeFrom := s.now - (s.now - g.lifeFrom) % (3600 * secU) }
    done (((s.onNvs fun n => { n with wearAt := s.now }).rollDone 11).fwWrite 0x0060)

/-- NVS_RECORD_READ arguments (R493). -/
def nvsRecordReadChecks (_ : Bool) (a : Args) (_ : State) : Checks :=
  let id := af a 0 31 16
  [cond (nvGeom id).isNone (badArg 0 16 0x0001),
   cond (!(decide (af a 0 15 0 % 4 = 0) && decide (af a 0 15 0 + 4 ≤ nvCap id))) (badArg 0 0 0x0002),
   rng a 1 31 30 0 2, rsv a 1 29 8, rng a 1 7 0 1 250]

/-- The winning copy from SRAM, a deferred content, or a slot as stored (R493). -/
def nvsRecordReadBody (_ : Fin 48) (a : Args) (s : State) : State × Reply :=
  let id := af a 0 31 16
  let off := af a 0 15 0
  let slot := af a 1 31 30
  let mx := dflt a 1 (af a 1 7 0) 250
  let m := s.nvs.mem
  let va := slotValid m id false
  let vb := slotValid m id true
  let dfr := (s.nvs.deferred ++ s.nvs.queue.filter (·.wasDeferred)).find? fun w => w.id = id
  let r : Option NvRec :=
    if slot = 1 then (if va then some (slotRec m id false) else none)
    else if slot = 2 then (if vb then some (slotRec m id true) else none)
    else match dfr with
      | some w => some { id := id, seq := s.nextSeq id, tag := w.tag, fromB := s.nextSlotB id, payload := w.payload }
      | none => s.nvs.rec? id
  match r with
  | none => (s, .ok [pack [(id, 31, 16)], 0, pack [pbit va 31, pbit vb 30, pbit (decide (slot = 2)) 29, pbit dfr.isSome 28], 0])
  | some x =>
    let ws := (wordsOfBytes (x.payload.drop off)).take mx
    let ws := if off < x.payload.length then ws else []
    (s, .ok ([pack [(id, 31, 16), (x.payload.length, 15, 0)], wd x.seq,
              pack [pbit va 31, pbit vb 30, pbit x.fromB 29, pbit dfr.isSome 28, (ws.length, 7, 0)],
              pack [(x.tag, 31, 16)]] ++ ws))

/-- NVS_RECORD_READ (R493). -/
def execNvsRecordRead (t : Nat) (tag : Fin 48) (s : State) : Res :=
  runCmd .nvsRecordRead tag nvsRecordReadChecks nvsRecordReadBody (s.advance t)

/-- The assembly of a record. -/
def Nvs.asmOf (n : Nvs) (id : Nat) : Option Asm := n.asm.find? fun x => x.id = id

/-- Bytes a piece would find assembled: none after FIRST (R494). -/
def nvHeld (a : Args) (s : State) : List (BitVec 8) :=
  if ab a 0 31 then [] else match s.nvs.asmOf (af a 0 15 0) with | some x => x.bytes | none => []

/-- The bytes a piece carries, cut at TOTAL (R494). -/
def nvPiece (a : Args) (s : State) : List (BitVec 8) :=
  (nvHeld a s ++ bytesOfWords (a.drop 2)).take (af a 1 31 16)

/-- NVS_RECORD_WRITE acceptance: what does not depend on the pieces before it (R106, R494). -/
def nvsRecordWriteChecks (priv : Bool) (a : Args) (s : State) : Checks :=
  let id := af a 0 15 0
  let total := af a 1 31 16
  let last := ab a 0 30
  [cond (decide (id = 0x0010) && !priv) (notPermitted 0x0003),
   rsv a 0 28 16, cond (!(decide (id = 0x0010) || decide (id = 0x0011))) (badArg 0 0 0x0001),
   cond (!(decide (total % 4 = 0) && decide (total ≤ nvCap id))) (badArg 1 16 0x0002),
   cond (last && s.sys.wp && !ab a 0 29) (protectedF 0x0004)]

/-- NVS_RECORD_WRITE conditions in its turn (R494). -/
def nvsRecordWriteTurn (priv : Bool) (a : Args) (s : State) : Checks :=
  let id := af a 0 15 0
  let total := af a 1 31 16
  let held := nvHeld a s
  let keep := ab a 0 31 || (match s.nvs.asmOf id with | some x => decide (x.total = total) | none => decide (held = []))
  let isOver := decide (total + 3 < held.length + 4 * (a.length - 2))
  let last := ab a 0 30
  let short := last && decide ((nvPiece a s).length < total)
  let recent := match s.nvs.lastHost.find? (fun p => p.1 = id) with
    | some p => decide (s.now < p.2 + 100 * msU) | none => false
  [cond (decide (id = 0x0010) && !priv) (notPermitted 0x0003),
   rsv a 0 28 16, cond (!(decide (id = 0x0010) || decide (id = 0x0011))) (badArg 0 0 0x0001),
   cond (!(decide (total % 4 = 0) && decide (total ≤ nvCap id)) || !keep) (badArg 1 16 0x0002),
   cond (!(decide (af a 1 15 0 = held.length)) || isOver) (badArg 1 0 0x0002),
   cond short (badArg 0 30 0x0002),
   cond (last && s.sys.wp && !ab a 0 29) (protectedF 0x0004),
   cond (last && recent) (busyRes 0x0005)]

/-- A piece is assembled; with LAST the record is written or deferred (R494). -/
def nvsRecordWriteBody (i : Fin 48) (a : Args) (s : State) : State × Reply :=
  let id := af a 0 15 0
  let bytes := nvPiece a s
  if ab a 0 30 then
    let s := s.onNvs fun n => { n with asm := n.asm.filter fun x => x.id ≠ id }
    if s.sys.wp then
      let s := s.nvWrite { NvWrite.init with id := id, payload := bytes }
      (s, .ok (nvReply false true (s.nextSlotB id) bytes.length (s.nextSeq id)))
    else (s.nvWrite { NvWrite.init with id := id, payload := bytes, host := some i }, .wait)
  else
    let s := s.onNvs fun n =>
      { n with asm := n.asm.filter (fun x => x.id ≠ id) ++ [{ id := id, total := af a 1 31 16, bytes := bytes }] }
    (s, .ok (nvReply false false (s.nextSlotB id) bytes.length 0))

/-- NVS_RECORD_WRITE (R494). A command that fails with PROTECTED keeps the assembly as it was. -/
def execNvsRecordWrite (t : Nat) (tag : Fin 48) (s : State) : Res :=
  runCmd .nvsRecordWrite tag nvsRecordWriteTurn nvsRecordWriteBody (s.advance t)

/-- Days since an instant, saturating at 16 bits (R495). -/
def State.daysSince (s : State) (k : Nat) : Nat := satU 16 ((s.now - k) / dayU)

/-- The most-written page: its count and its number (R495). -/
def maxWear (l : List (Nat × Nat)) : Nat × Nat :=
  l.foldl (fun m p => if m.1 < p.2 then (p.2, p.1) else m) (0, 0)

/-- Records waiting under R488, DAILY pages counted as one (R495). -/
def Nvs.deferredCount (n : Nvs) : Nat :=
  (n.deferred.filter fun w => w.id < 0x8000).length + (n.deferred.any fun w => 0x8000 ≤ w.id).toNat

/-- Word 0 of NVS_STATUS (R495). -/
def State.nvsWord0 (s : State) : Word :=
  pack [pbit s.nvs.recallDone 31, pbit s.sys.wp 30, pbit s.hif.rawWrEn 29, pbit s.nvs.refreshing 28, pbit s.nvs.marginPass 27,
        (s.nvs.deferredCount, 7, 0)]

/-- NVS_STATUS response (R495). -/
def nvsStatusBody (_ : Fin 48) (_ : Args) (s : State) : State × Reply :=
  let absent := (List.range 7).foldl (fun v k =>
    if (s.nvs.rec? (nvFixed.getD k 0)).isNone then v + 2 ^ k else v) 0
  let mw := maxWear s.nvs.ops
  (s, .ok ([s.nvsWord0, pack [(s.daysSince s.nvs.refreshAt, 31, 16), (s.daysSince s.nvs.marginAt, 15, 0)]] ++
           w64 mw.1 ++ [pack [(mw.2, 10, 0)], wd absent]))

/-- NVS_STATUS (R495). -/
def execNvsStatus (t : Nat) (tag : Fin 48) (s : State) : Res :=
  runCmd .nvsStatus tag (fun _ _ _ => []) nvsStatusBody (s.advance t)

/-- What a check of the SRAM word `addr` finds: corrected, mended by its retry, or fatal (R467). -/
def State.sramEcc (s : State) (addr : Nat) (e : EccIn) : State :=
  match e with
  | .clean => s
  | .corrected => s.report 0x020 .corrected 0x01 addr
  | .retried => s.report 0x020 .fatal 0x03 addr true
  | .uncorrectable => s.report 0x020 .fatal 0x03 addr

/-- SRAM_SCRUB: Roll checks words, writes back corrected errors; a word uncorrectable on both reads is fatal. The last
word ends the pass (R467, R513; log 62). -/
def execSramScrub (t : Nat) (addr : Nat) (e : EccIn) (s : State) : Res :=
  let s := s.advance t
  if !s.rolls then done s
  else done ((if addr = 0x3FFFF then s.rollDone 0 else s).sramEcc addr e)

end Sys2Proof.Machine
end

