-- ==== Sys2Proof/Machine/Hmac.lean ====
section
/-!
DEFINITION. HMAC-SHA256-128, the integrity check of PTP messages (R362): SHA-256 of FIPS 180-4 and HMAC of RFC 2104, cut to
the first 16 octets. The spec names the algorithm and does not lay it down (PRESUMED, log 15).
-/

namespace Sys2Proof.Machine

/-- The 64 round constants of SHA-256. -/
def shaK : List Word :=
  [0x428A2F98, 0x71374491, 0xB5C0FBCF, 0xE9B5DBA5, 0x3956C25B, 0x59F111F1, 0x923F82A4, 0xAB1C5ED5] ++
  [0xD807AA98, 0x12835B01, 0x243185BE, 0x550C7DC3, 0x72BE5D74, 0x80DEB1FE, 0x9BDC06A7, 0xC19BF174] ++
  [0xE49B69C1, 0xEFBE4786, 0x0FC19DC6, 0x240CA1CC, 0x2DE92C6F, 0x4A7484AA, 0x5CB0A9DC, 0x76F988DA] ++
  [0x983E5152, 0xA831C66D, 0xB00327C8, 0xBF597FC7, 0xC6E00BF3, 0xD5A79147, 0x06CA6351, 0x14292967] ++
  [0x27B70A85, 0x2E1B2138, 0x4D2C6DFC, 0x53380D13, 0x650A7354, 0x766A0ABB, 0x81C2C92E, 0x92722C85] ++
  [0xA2BFE8A1, 0xA81A664B, 0xC24B8B70, 0xC76C51A3, 0xD192E819, 0xD6990624, 0xF40E3585, 0x106AA070] ++
  [0x19A4C116, 0x1E376C08, 0x2748774C, 0x34B0BCB5, 0x391C0CB3, 0x4ED8AA4A, 0x5B9CCA4F, 0x682E6FF3] ++
  [0x748F82EE, 0x78A5636F, 0x84C87814, 0x8CC70208, 0x90BEFFFA, 0xA4506CEB, 0xBEF9A3F7, 0xC67178F2]

/-- The initial hash value of SHA-256. -/
def shaH : List Word :=
  [0x6A09E667, 0xBB67AE85, 0x3C6EF372, 0xA54FF53A, 0x510E527F, 0x9B05688C, 0x1F83D9AB, 0x5BE0CD19]

/-- The message padded to whole blocks of 64 octets. -/
def shaPad (m : List (BitVec 8)) : List (BitVec 8) :=
  m ++ [0x80#8] ++ List.replicate ((119 - m.length % 64) % 64) 0#8 ++
    (List.range 8).map fun i => BitVec.ofNat 8 (8 * m.length / 256 ^ (7 - i))

/-- The 16 words of one block. -/
def shaWords (b : List (BitVec 8)) : List Word :=
  (List.range 16).map fun i =>
    BitVec.ofNat 32 (((b.drop (4 * i)).take 4).foldl (fun (a : Nat) x => 256 * a + x.toNat) 0)

/-- Rotations and shift of one word, combined by exclusive or. -/
def shaSigma (a b : Nat) (c : Word → Word) (x : Word) : Word := x.rotateRight a ^^^ x.rotateRight b ^^^ c x

/-- The message schedule, newest word first, `n` words beyond the block's own. -/
def shaSchedule : Nat → List Word → List Word
  | 0, w => w
  | n + 1, w =>
    shaSchedule n ((shaSigma 17 19 (· >>> 10) (w.getD 1 0) + w.getD 6 0 + shaSigma 7 18 (· >>> 3) (w.getD 14 0) + w.getD 15 0) :: w)

/-- One round: its constant and schedule word. -/
def shaRound (h : List Word) (kw : Word × Word) : List Word :=
  match h with
  | [a, b, c, d, e, f, g, z] =>
    let t1 := z + shaSigma 6 11 (·.rotateRight 25) e + ((e &&& f) ^^^ (~~~e &&& g)) + kw.1 + kw.2
    let t2 := shaSigma 2 13 (·.rotateRight 22) a + ((a &&& b) ^^^ (a &&& c) ^^^ (b &&& c))
    [t1 + t2, a, b, c, d + t1, e, f, g]
  | h => h

/-- One block. -/
def shaBlock (h : List Word) (b : List (BitVec 8)) : List Word :=
  List.zipWith (· + ·) h ((shaK.zip (shaSchedule 48 (shaWords b).reverse).reverse).foldl shaRound h)

/-- Every block in turn. -/
def shaBlocks : Nat → List (BitVec 8) → List Word → List Word
  | 0, _, h => h
  | n + 1, m, h => shaBlocks n (m.drop 64) (shaBlock h (m.take 64))

/-- SHA-256. -/
def sha256 (m : List (BitVec 8)) : List (BitVec 8) :=
  let p := shaPad m
  (shaBlocks (p.length / 64) p shaH).flatMap fun w =>
    [w.extractLsb' 24 8, w.extractLsb' 16 8, w.extractLsb' 8 8, w.extractLsb' 0 8]

/-- HMAC-SHA256-128 of a message under a key of at most 64 octets (R362). -/
def hmac128 (key m : List (BitVec 8)) : BitVec 128 :=
  let k := key ++ List.replicate (64 - key.length) 0#8
  let d := sha256 ((k.map (· ^^^ 0x5C#8)) ++ sha256 ((k.map (· ^^^ 0x36#8)) ++ m))
  BitVec.ofNat 128 ((d.take 16).foldl (fun (a : Nat) x => 256 * a + x.toNat) 0)

end Sys2Proof.Machine
end

