-- ==== Sys2Proof/Machine/RefCmds.lean ====
section
/-!
DEFINITION. The commands of qualification: REF_CONFIG, REF_LIMITS, REF_WTR, REF_STATUS (R210, R217 to R225).
-/

namespace Sys2Proof.Machine

/-- The candidate in bits 6:0 of word 0. -/
def argRef (a : Args) : Option (Fin 66) := refOf (af a 0 6 0)

/-- ID above 65 (R219 to R221). -/
def idCheck (a : Args) : Bool × Fail := cond (decide (65 < af a 0 6 0)) (badArg 0 0 0x0001)

/-- A lane's ESMC rejects its candidate: DNU or a timeout with SSM_CHECK set (R205, R371). -/
def State.ssmRej (s : State) (l : Fin 48) : Bool :=
  let x := s.lane l
  x.esmcRx && (x.esmcTimeout || decide (x.rxQl = 15)) && (vget s.ref.cands ⟨16 + l.val, by omega⟩).ssm

/-- EXT_REJ of a link candidate as its lane and SSM_CHECK stand (R205). -/
def State.extRejNow (s : State) (r : Fin 66) : Bool :=
  match laneOf r with | some l => s.ssmRej l | none => (s.cand r).extRej

/-! ### REF_CONFIG -/

/-- EXT_DELAY of the arguments; 0 unless COUNT covers both words (R218). -/
def extArg (a : Args) : Int := if has a 4 then as64 a 3 else 0

/-- REF_CONFIG acceptance (R218, R219). -/
def refConfigChecks (_ : Bool) (a : Args) (s : State) : Checks :=
  let i := af a 0 6 0
  let num := (arg a 1).toNat
  let den := (arg a 2).toNat
  let video := match argRef a with | some r => decide ((s.chan r).mode = 2) | none => false
  [rsv a 0 26 7, idCheck a,
   cond (decide (64 ≤ i) && !ab a 0 30) (badArg 0 30 0x0002),
   cond (decide (16 ≤ i) && ab a 0 29) (badArg 0 29 0x0003), cond (decide (16 ≤ i) && ab a 0 28) (badArg 0 28 0x0003),
   cond (ab a 0 27 && !(decide (16 ≤ i) && decide (i < 64))) (badArg 0 27 0x0003),
   cond (decide (16 ≤ i) && decide (num ≠ 0)) (badArg 1 0 0x0003), cond (decide (16 ≤ i) && decide (den ≠ 0)) (badArg 2 0 0x0003),
   cond (decide (16 ≤ i) && decide (extArg a ≠ 0)) (badArg 3 0 0x0003),
   cond (decide ((num = 0) ≠ (den = 0))) (badArg 1 0 0x0004),
   cond (decide (i < 16) && ab a 0 31 && decide (num = 0) && decide (den = 0) && !video) (badArg 1 0 0x0005),
   srng64 a 3 (-65536000000) 65536000000 0x0006]

/-- The verdict restarts as on an enable (R210); counts of R225 are kept. -/
def Cand.restart (c : Cand) : Cand :=
  { c with act := false, actRun := 0, condFrom := none, lastAt := none, freqOk := false, freqRej := false,
           phaseDisc := false, disagree := false, noVerdict := false, fmRaw := false, freqAcc := false, wtrFrom := none,
           discFrom := none, hist := [], outRun := [], last64 := [], gapFrom := none, winFrom := none, acc := Acc.init,
           firstWin := true, disWith := none, arbiter := none, agreeFrom := none, phase := 0, resid := 0, y := 0, yRaw := 0 }

/-- A change of EXT_DELAY is applied to the history at the same edge (R203). -/
def Cand.delayed (dv : Int) (n : Nat) (c : Cand) : Cand :=
  let f := fun x : Sample => { x with ph := if n = 0 ∨ c.den = 0 then x.ph - dv else phaseAt (x.ph - dv) n c.den }
  { c with hist := c.hist.map f, outRun := c.outRun.map f, last64 := c.last64.map f }

/-- REF_CONFIG at its apply edge (R210, R218). -/
def applyRefConfig (a : Args) (s : State) : State :=
  match argRef a with
  | none => s
  | some r =>
    let o := s.cand r
    let n : Cand := { o with enable := ab a 0 31, time := ab a 0 30, tTrace := ab a 0 29, fTrace := ab a 0 28,
                             ssm := ab a 0 27, num := (arg a 1).toNat, den := (arg a 2).toNat, extDelay := extArg a,
                             everQual := decide (o.st = .qualified) }
    let again := decide ((o.enable, o.time, o.num, o.den) ≠ (n.enable, n.time, n.num, n.den))
    if again then
      refCond r ((s.candSet r (fun _ => { n.restart with extRej := o.extRej, everQual := false }) false).unqualified r)
    else
      let s := s.candMod r fun _ => n.delayed (n.extDelay - o.extDelay) n.num
      refExtRej r (s.extRejNow r) s

/-- After a restart the condition of R205 is taken as it stands. -/
def applyRefConfigAll (a : Args) (s : State) : State :=
  match argRef a with
  | some r => (fun s : State => refExtRej r (s.extRejNow r) s) (applyRefConfig a s)
  | none => s

/-- A response of one state word (R217). -/
def State.refReply (s : State) (a : Args) : State × Reply :=
  (s, .ok [match argRef a with | some r => s.refWord r | none => 0])

/-- REF_CONFIG unstaged (R217). -/
def refConfigBody (_ : Fin 48) (a : Args) (s : State) : State × Reply := (applyRefConfigAll a s).refReply a

/-- REF_CONFIG (R218). -/
def execRefConfig (t : Nat) (tag : Fin 48) (s : State) : Res :=
  runCmd .refConfig tag refConfigChecks refConfigBody (s.advance t)

/-! ### REF_LIMITS -/

/-- REF_LIMITS acceptance (R220). -/
def refLimitsChecks (_ : Bool) (a : Args) (_ : State) : Checks :=
  let w := af a 3 31 0
  [rsv a 0 31 7, idCheck a,
   rng a 1 31 0 1 3999999999, rng a 2 31 0 2 4000000000,
   cond (decide (dflt a 2 (af a 2 31 0) 10000000 ≤ dflt a 1 (af a 1 31 0) 8000000)) (badArg 1 0 0x0002),
   cond (has a 3 && decide (w ≠ 0) && !(decide (10 ≤ w) && decide (w ≤ 1000000))) (badArg 3 0),
   rng a 4 31 0 1000 1000000000, rng a 5 31 0 0 4000000000, rng a 6 31 24 11 255, rng a 6 23 20 1 15, rsv a 6 19 17, rsv a 6 15 0]

/-- REF_LIMITS at its apply edge: omitted fields take their Default; a change of FM_WINDOW or FM_BASE starts a new window
(R210, R217, R220). -/
def applyRefLimits (a : Args) (s : State) : State :=
  match argRef a with
  | none => s
  | some r =>
    let w := dflt a 3 (af a 3 31 0) 0
    let b := dflt a 6 (ab a 6 16) true
    let root := s.ringed
    State.regroup <| s.candMod r fun c =>
      let n := { c with accept := dflt a 1 (af a 1 31 0) 8000000, reject := dflt a 2 (af a 2 31 0) 10000000, fmWindow := w,
                        phaseLimit := dflt a 4 (af a 4 31 0) 50000, xchk := dflt a 5 (af a 5 31 0) 100000,
                        actMult := dflt a 6 (af a 6 31 24) 25, pmConfirm := dflt a 6 (af a 6 23 20) 3, fmBase := b }
      if (c.fmWindow ≠ w ∨ c.fmBase ≠ b) ∧ c.act then n.nextWindow s.now root else n

/-- REF_LIMITS unstaged (R217). -/
def refLimitsBody (_ : Fin 48) (a : Args) (s : State) : State × Reply := (applyRefLimits a s).refReply a

/-- REF_LIMITS (R220). -/
def execRefLimits (t : Nat) (tag : Fin 48) (s : State) : Res :=
  runCmd .refLimits tag refLimitsChecks
    refLimitsBody (s.advance t)

/-! ### REF_WTR -/

/-- REF_WTR acceptance (R221). -/
def refWtrChecks (_ : Bool) (a : Args) (_ : State) : Checks :=
  [rsv a 0 30 28, rsv a 0 15 7, idCheck a, cond (decide (3600 < af a 0 27 16)) (badArg 0 16 0x0002)]

/-- REF_WTR at its apply edge: RESTORING ends if the time has run or WTR_EN is cleared (R208). -/
def applyRefWtr (a : Args) (s : State) : State :=
  match argRef a with
  | none => s
  | some r =>
    let s := s.candMod r fun c => { c with wtrEn := ab a 0 31, wtrTime := af a 0 27 16 }
    let c := s.cand r
    let isOver := match c.wtrFrom with | some f => s.past f (c.wtrTime * secU) | none => false
    if !c.wtrEn || isOver then refRestored r s else s

/-- REF_WTR unstaged (R217). -/
def refWtrBody (_ : Fin 48) (a : Args) (s : State) : State × Reply := (applyRefWtr a s).refReply a

/-- REF_WTR (R221). -/
def execRefWtr (t : Nat) (tag : Fin 48) (s : State) : Res :=
  runCmd .refWtr tag refWtrChecks refWtrBody (s.advance t)

/-! ### REF_STATUS -/

/-- REF_STATUS acceptance (R222). -/
def refStatusChecks (_ : Bool) (a : Args) (_ : State) : Checks :=
  [rsv a 0 30 7, cond (has a 0 && ab a 0 31 && decide (65 < af a 0 6 0)) (badArg 0 0 0x0001)]

/-- Candidates in state `q`. -/
def State.refsIn (s : State) (q : QState) : Nat := (s.ref.cands.toList.filter fun c => decide (c.st = q)).length

/-- The summary of REF_STATUS (R224). -/
def State.refSummary (s : State) : List Word :=
  [pack [(s.refsIn .qualified, 31, 24), (s.refsIn .restoring, 23, 16), (s.refsIn .rejected, 15, 8), (s.refsIn .lost, 7, 0)],
   pack [(s.ref.refDisagree.toNat, 7, 0)]] ++ (List.finRange 66).map s.refWord

/-- The detail of REF_STATUS (R225). -/
def State.refDetail (s : State) (r : Fin 66) : List Word :=
  let c := s.cand r
  [s.refWord r] ++ s64 c.y ++ s64 (if c.time then c.phase else 0) ++ s64 (if c.time then c.resid else 0) ++
  [pack [(c.disWith.getD 0x7F, 31, 24), (c.arbiter.getD 0x7F, 23, 16)]] ++ time96 c.since ++
  [pack [(c.qualCount, 31, 16), (c.rejCount, 15, 0)], pack [(c.lossCount, 31, 16), (c.discCount, 15, 0)],
   pack [(c.outliers, 31, 16), (c.noVerdicts, 15, 0)]]

/-- REF_STATUS (R222). -/
def refStatusBody (_ : Fin 48) (a : Args) (s : State) : State × Reply :=
  match (if ab a 0 31 then argRef a else none) with
  | some r => (s, .ok (s.refDetail r))
  | none => (s, .ok s.refSummary)

/-- REF_STATUS (R222). -/
def execRefStatus (t : Nat) (tag : Fin 48) (s : State) : Res :=
  runCmd .refStatus tag refStatusChecks refStatusBody (s.advance t)

end Sys2Proof.Machine
end

