-- ==== Sys2Proof/Machine/Ptp.lean ====
section
/-!
DEFINITION. The PTP message engine: profiles, the announced data set, the best-master-clock algorithm, time activity and
offsets of a port, reception checks, grants, Synchronous Ethernet quality levels (R342 to R367). What IEEE 1588-2019
and ITU-T G.781 give and the spec only cites is PRESUMED (log 15).
-/

namespace Sys2Proof.Machine

/-! ### Counting and sending -/

/-- Add 1 to counter `i` of lane `l` (R377). -/
def State.laneCount (s : State) (l : Fin 48) (i : Nat) : State := s.count (0x1000 + 32 * l.val + i)

/-- The engine runs: enabled and neither in its reset nor in its reset shadow (R378). -/
def State.engineUp (s : State) : Bool := s.ptp.en && !(s.flt.shadows.any fun p => p.1 = 0x3C0)

/-- A port takes part in PTP: engine, ROLE, lane UP (R349). -/
def State.portUp (s : State) (l : Fin 48) : Bool :=
  s.engineUp && decide ((s.lane l).role ≠ 0) && decide ((s.lane l).lstate = .up)

/-- Root loss to the end of the INVALID span, or FAULT_HOLD (R359). -/
def State.engineHeld (s : State) : Bool := s.ringed || decide (s.sys.mstate = .faultHold)

/-- PTP_QUIET silences the port (R435). -/
def State.portQuiet (s : State) (l : Fin 48) : Bool :=
  s.pair.en && s.pair.quiet && (decide (s.pair.role = .standby) || decide (s.pair.role = .init)) &&
  (decide ((s.lane l).role = 1) || decide ((s.lane l).role = 2))

/-- SUSPENDED of a port (R359, R435). -/
def State.suspended (s : State) (l : Fin 48) : Bool := s.engineHeld || s.portQuiet l

/-- The key slot of a port is filled (R363). -/
def State.slotFilled (s : State) (l : Fin 48) : Bool := (vget s.ptp.keys (s.lane l).slot).filled

/-- One PTP message leaves the port: TX_PTP, and AUTH_NO_KEY when it should be signed and the slot is empty (R363,
R377). -/
def State.countTx (s : State) (l : Fin 48) : State :=
  let s := s.laneCount l 1
  if (s.lane l).mode ≠ 0 ∧ s.slotFilled l = false then s.laneCount l 13 else s

/-- An event message, which goes to UDP port 319 (R348). -/
def TxMsg.event : TxMsg → Bool
  | .sync _ _ => true | .delayReq _ => true | .pdelayReq _ => true | .pdelayResp _ _ _ _ _ _ => true
  | _ => false

/-- A message of the peer-delay mechanism (R348). -/
def TxMsg.peerDelay : TxMsg → Bool
  | .pdelayReq _ => true | .pdelayResp _ _ _ _ _ _ => true | .pdelayRespFollowUp _ _ _ _ _ => true
  | _ => false

/-- The multicast address of a transport (R348). -/
def groupAddr (transport : Nat) (peerDelay : Bool) : Nat :=
  if transport = 0 then (if peerDelay then 0x0180C200000E else 0x011B19000000)
  else if transport = 1 then (if peerDelay then 0xE000006B else 0xE0000181)
  else if peerDelay then 0xFF02000000000000000000000000006B else 0xFF0E0000000000000000000000000181

/-- Sum of the 16-bit words of a number. -/
def sum16 : Nat → Nat → Nat
  | 0, _ => 0
  | n + 1, v => v % 65536 + sum16 n (v / 65536)

/-- The two octets after a one-step message that keep the UDP checksum valid when fields of these widths, in 16-bit
words, are written where zeros were summed (R346; log 60). -/
def checksumFix (fields : List (Nat × Nat)) : Nat :=
  (65535 - fields.foldl (fun a f => a + sum16 f.1 f.2) 0 % 65535) % 65535

/-- A 64-bit correctionField in 2^-16 ns. -/
def corrField (c : Int) : Nat := (c % 2 ^ 64).toNat

/-- The correction of the appended octets of a message whose time is written as it leaves: a one-step Sync, its seconds,
nanoseconds and 2^-16 ns; a one-step Pdelay_Resp, its correction (R346). -/
def TxMsg.fix : TxMsg → Option Nat
  | .sync _ (some m) => some (checksumFix [(3, m / secU), (2, m % secU / nsU), (4, m % nsU)])
  | .pdelayResp _ false _ c _ _ => some (checksumFix [(4, corrField c)])
  | _ => none

/-- The TLV added to a message of port `l`, with the ICV over the message as transmitted; none while its slot is empty
(R362, R363). -/
def State.sign (s : State) (l : Fin 48) (m : TxMsg) : Option AuthTlv :=
  let x := s.lane l
  let k := vget s.ptp.keys x.slot
  if x.mode = 0 ∨ k.filled = false then none
  else some { spp := x.spp, keyId := k.id, icv := hmac128 k.bytes (Config.msgOctets s.ptp.clockId (l.val + 1) m k.id x.spp) }

/-- The tag of a port's frames (R348, R370). -/
def Lane.tag (x : Lane) : Option (Nat × Nat) := if x.vlanEn then some (x.pcp, x.vid) else none

/-- A PTP message as the port sends it: by unicast to an address, else to its multicast group (R346, R348, R362). -/
def State.ptpFrame (s : State) (l : Fin 48) (dest : Option Nat) (m : TxMsg) : TxFrame :=
  let x := s.lane l
  { msg := m, vlan := x.tag, dest := some (x.transport, dest.getD (groupAddr x.transport m.peerDelay)),
    udp := if x.transport = 0 then none else some (if m.event then 319 else 320), auth := s.sign l m,
    fix := if x.transport = 2 then m.fix else none }

/-- The lane sends `ms` in order, PTP messages all; `dest`: the address of a unicast partner. -/
def State.send (s : State) (l : Fin 48) (dest : Option Nat) (ms : List TxMsg) : State :=
  (ms.foldl (fun s _ => s.countTx l) s).laneMod l fun x => { x with sent := ms.map (s.ptpFrame l dest) }

/-- One frame of the lane beside its PTP messages. -/
def State.putFrame (s : State) (l : Fin 48) (f : TxFrame) : State := s.laneMod l fun x => { x with sent := [f] }

/-- A frame in the port's tag. -/
def State.tagged (s : State) (l : Fin 48) (m : TxMsg) : TxFrame := { msg := m, vlan := (s.lane l).tag }

/-- The next sequenceId (R354). -/
def seqNext (n : Nat) : Nat := (n + 1) % 65536

/-! ### Profiles (R347) -/

/-- 2^`log` seconds in 2^-16 ns. -/
def logU (log : Int) : Nat := if 0 ≤ log then secU * 2 ^ log.toNat else secU / 2 ^ (-log).toNat

/-- Interval ranges of a profile: Announce, Sync, Delay_Req or Pdelay_Req (R347). -/
def profRange (p : Nat) : GrantKind → Int × Int
  | .ann => if p = 2 then (-3, 1) else (0, 4)
  | .sync => if p = 2 then (-7, -1) else if p = 3 then (-4, 1) else (-1, 1)
  | .delay => if p = 2 then (-7, 5) else if p = 3 then (-3, 5) else (0, 5)

/-- Default intervals of a profile (R347). -/
def profDefault (p : Nat) : GrantKind → Int
  | .ann => if p = 2 then -2 else 1
  | .sync => if p = 2 ∨ p = 3 then -3 else 0
  | .delay => if p = 2 then -3 else 0

/-- Default domain of a profile (R347). -/
def profDomain (p : Nat) : Nat := if p = 2 then 127 else 0

/-- An interval lies in a range. -/
def inRange (r : Int × Int) (v : Int) : Bool := decide (r.1 ≤ v) && decide (v ≤ r.2)

/-! ### The data set the module announces (R350, R351) -/

/-- Bounds of clockAccuracy 0x17 to 0x30 in fs (IEEE 1588-2019 Table 5; log 15). -/
def accTable : List (Nat × Nat) :=
  [(0x17, 1000), (0x18, 2500), (0x19, 10000), (0x1A, 25000), (0x1B, 100000), (0x1C, 250000), (0x1D, 1000000), (0x1E, 2500000), (0x1F, 10000000)] ++
  [(0x20, 25000000), (0x21, 100000000), (0x22, 250000000), (0x23, 1000000000), (0x24, 2500000000), (0x25, 10000000000)] ++
  [(0x26, 25000000000), (0x27, 100000000000), (0x28, 250000000000), (0x29, 1000000000000), (0x2A, 2500000000000)] ++
  [(0x2B, 10000000000000), (0x2C, 25000000000000), (0x2D, 100000000000000), (0x2E, 250000000000000), (0x2F, 1000000000000000),
   (0x30, 10000000000000000)]

/-- The smallest clockAccuracy whose bound is at least `te` ps (R351). -/
def accOf (te : Nat) : Nat := match accTable.find? fun p => te * 1000 ≤ p.2 with | some p => p.1 | none => 0x31

/-- Floor of log2 of p / q, both positive. -/
def log2Ratio (p q : Nat) : Int :=
  let e : Int := (p.log2 : Int) - q.log2
  let le := if 0 ≤ e then q * 2 ^ e.toNat ≤ p else q ≤ p * 2 ^ (-e).toNat
  if le then e else e - 1

/-- offsetScaledLogVariance of an FE_EST of `fe` x 10^-15; 0xFFFFFFFF: not known (R351). The rounding to the nearest
integer is exact: half the floor of log2 of 2 v^512. -/
def varOf (fe : Nat) : Nat :=
  if fe = 0xFFFFFFFF then 0xFFFF
  else if fe = 0 then 0
  else (clampI 0 0xFFFE (0x8000 + log2Ratio (2 * fe ^ 1024) (10 ^ 15360) / 2)).toNat

/-- A foreign master's data as its Announce gave them. -/
def Foreign.data (f : Foreign) : AnnData :=
  { prio1 := f.prio1, cls := f.cls, acc := f.acc, var := f.var, prio2 := f.prio2, gm := f.gm, steps := f.steps, src := f.src,
    utc := f.utc, flags := f.flags }

/-- The parent that DPLL0 follows: a link candidate whose port is SLAVE (R350). -/
def State.followedParent (s : State) : Option Foreign :=
  match (s.dpll 0).cur with
  | some r => (match laneOf r with
    | some l => if (s.lane l).pstate = 9 then (s.lane l).parent else none
    | none => none)
  | none => none

/-- The module's own data when it announces itself (R350, R351). -/
def State.ownData (s : State) : AnnData :=
  let (src, tt, ft) := s.timeSource
  let te := satU 32 (s.teNow 0)
  { prio1 := s.ptp.prio1, cls := s.clockClass, acc := if (s.dpll 0).teValid then accOf te else 0xFE, var := varOf (s.feNow 0),
    prio2 := s.ptp.prio2, gm := s.ptp.clockId, steps := 0, src := src, utc := s.time.offset,
    flags := s.time.leap61.toNat + 2 * s.time.leap59.toNat + 4 * s.utcValid.toNat + 8 + 16 * tt.toNat + 32 * ft.toNat }

/-- The data set the module announces (R350). In FAULT_HOLD the class is 248 (R359). -/
def State.announced (s : State) : AnnData :=
  match s.followedParent with
  | some f => { f.data with steps := f.steps + 1, cls := if s.sys.mstate = .faultHold then 248 else f.cls }
  | none => s.ownData

/-! ### The best-master-clock algorithm (R349; IEEE 1588-2019 clause 9.3, log 15) -/

/-- A data set as the comparison takes it: with the sender's port identity and the receiver's port. -/
structure DataSet where
  a : AnnData
  id : Nat
  port : Nat
  rxId : Nat
  rxPort : Nat

/-- Lexicographic order of two lists of numbers. -/
def lexLt : List Nat → List Nat → Bool
  | x :: xs, y :: ys => decide (x < y) || (decide (x = y) && lexLt xs ys)
  | _, _ => false

/-- The fields compared when the grandmasters differ, most significant first. -/
def AnnData.rank (a : AnnData) : List Nat := [a.prio1, a.cls, a.acc, a.var, a.prio2, a.gm]

/-- `x` is better than `y`, or better by topology. -/
def DataSet.better (x y : DataSet) : Bool :=
  if x.a.gm ≠ y.a.gm then lexLt x.a.rank y.a.rank
  else if x.a.steps + 1 < y.a.steps then true
  else if y.a.steps + 1 < x.a.steps then false
  else if x.a.steps < y.a.steps then true
  else if y.a.steps < x.a.steps then false
  else lexLt [x.id, x.port, x.rxPort] [y.id, y.port, y.rxPort]

/-- `x` is better than `y` by topology only: the same grandmaster, and a step apart no more. -/
def DataSet.topology (x y : DataSet) : Bool :=
  decide (x.a.gm = y.a.gm) && x.better y &&
  (decide (x.a.steps = y.a.steps) || (decide (x.a.steps + 1 = y.a.steps) && decide (y.id < y.rxId)))

/-- The best of a list. -/
def bestOf : List DataSet → Option DataSet
  | [] => none
  | x :: r => match bestOf r with | none => some x | some y => if y.better x then some y else some x

/-- Foreign masters of a port that qualify: two Announce messages within the window, fewer than 255 steps. -/
def State.qualifiedMasters (s : State) (l : Fin 48) : List DataSet :=
  let x := s.lane l
  (x.foreign.filter fun f => decide (2 ≤ f.n) && decide (f.steps < 255)).map fun f =>
    { a := f.data, id := f.id, port := f.port, rxId := s.ptp.clockId, rxPort := l.val + 1 }

/-- Erbest of a port; a port that is MASTER_ONLY or out of service has none. -/
def State.portBest (s : State) (l : Fin 48) : Option DataSet :=
  if s.portUp l && decide ((s.lane l).role ≠ 2) then bestOf (s.qualifiedMasters l) else none

/-- Ebest of the module: over the ports the BMCA may make SLAVE. -/
def State.moduleBest (s : State) : Option DataSet :=
  bestOf (((List.finRange 48).filter fun l => decide ((s.lane l).role = 1)).filterMap s.portBest)

/-- The module's own data set in the comparison, and whether it is its own (not copied from a parent). -/
def State.d0 (s : State) : DataSet × Bool :=
  match s.followedParent with
  | some f => ({ a := s.announced, id := f.id, port := f.port, rxId := s.ptp.clockId, rxPort := 0 }, false)
  | none => ({ a := s.ownData, id := s.ptp.clockId, port := 0, rxId := s.ptp.clockId, rxPort := 0 }, true)

/-- What the BMCA recommends for a port; MASTER after so many announce intervals of PRE_MASTER. -/
inductive Recommend where | stay | master (n : Nat) | passive | slave (m : DataSet)

/-- MASTER beside a better master elsewhere: after one announce interval more than the module is steps removed, else at
once. -/
def Recommend.beside (d0 : DataSet) : Option DataSet → Recommend
  | some e => if d0.better e then .master 0 else .master (1 + d0.a.steps)
  | none => .master 0

/-- The state decision of a BMCA port. -/
def decide3 (own : Bool) (d0 : DataSet) (ebest : Option DataSet) (rbest : Option DataSet) (listening : Bool) : Recommend :=
  let top := own && decide (1 ≤ d0.a.cls ∧ d0.a.cls ≤ 127)
  match rbest with
  | none => if listening then .stay else if top then .master 0 else .beside d0 ebest
  | some r =>
    if top then (if d0.better r then .master 0 else .passive)
    else match ebest with
      | none => .master 0
      | some e =>
        if d0.better e then .master 0
        else if e.rxPort = r.rxPort ∧ e.id = r.id ∧ e.port = r.port then .slave e
        else if e.topology r then .passive
        else .beside d0 ebest

/-- The port leaves UNCALIBRATED or SLAVE: its parent is forgotten. -/
def State.leaveSlave (s : State) (l : Fin 48) : State :=
  if (s.lane l).pstate = 8 ∨ (s.lane l).pstate = 9 then
    (s.timeActOff l).laneMod l fun x => { x.noParent (s.peer l) with src := TimeSrc.init }
  else s

/-- The port takes a parent: UNCALIBRATED until its first offset (R353). -/
def State.toSlave (s : State) (l : Fin 48) (m : DataSet) : State :=
  let x := s.lane l
  if (x.pstate = 8 ∨ x.pstate = 9) ∧ x.parentId = m.id ∧ x.parentPort = m.port then s
  else
    let s := (s.timeActOff l).laneMod l fun x =>
      { x.noParent (s.peer l) with src := TimeSrc.init, parentId := m.id, parentPort := m.port, annAt := s.now }
    s.setPort l 8

/-- The port is recommended MASTER: after `n` announce intervals of PRE_MASTER where it is not MASTER yet (R349; IEEE
1588-2019 clause 9.2.6.11, log 15). -/
def State.toMaster (l : Fin 48) (n : Nat) (s : State) : State :=
  let x := s.lane l
  if x.pstate = 6 then s
  else if n = 0 then s.setPort l 6
  else if x.pstate = 5 ∧ x.preAt.isSome then s
  else (s.setPort l 5).laneMod l fun x => { x with preAt := some (s.now + n * logU s.ptp.annLog) }

/-- One port's decision (R349). -/
def State.bmcaOne (d0 : DataSet × Bool) (eb : Option DataSet) (l : Fin 48) (s : State) : State :=
  let x := s.lane l
  if !s.portUp l then s
  else if x.role = 2 then
    match decide3 d0.2 d0.1 eb none false with
    | .master n => s.toMaster l n
    | .stay => s
    | .passive => s
    | .slave _ => s
  else if x.role = 3 then
    match s.portBest l with
    | some m => s.toSlave l m
    | none => (s.leaveSlave l).setPort l 4
  else match decide3 d0.2 d0.1 eb (s.portBest l) (decide (x.pstate = 4)) with
    | .stay => s
    | .master n => (s.leaveSlave l).toMaster l n
    | .passive => (s.leaveSlave l).setPort l 7
    | .slave m => s.toSlave l m

/-- The BMCA over every port; under a strobe once, after its values (R566). -/
def bmcaAll (s : State) : State := if s.mb.applying then s else utcUpdate (forFin 48 (State.bmcaOne s.d0 s.moduleBest) s)

/-- PRE_MASTER ends when its time has passed; one that was never judged is judged first (R349). -/
def State.promote (l : Fin 48) (s : State) : State :=
  if (s.lane l).pstate ≠ 5 then s
  else
    let s := if (s.lane l).preAt.isNone then bmcaAll s else s
    match (s.lane l).preAt with
    | some k => if (s.lane l).pstate = 5 ∧ k ≤ s.now ∧ s.portUp l then s.setPort l 6 else s
    | none => s

/-! ### Offsets, path delay and time activity (R352, R353) -/

/-- meanPathDelay: the mean of the last 8 samples; none before the first (R352). -/
def Lane.meanDelay (x : Lane) : Option Int :=
  let l := x.pd.drop (x.pd.length - 8)
  if l.isEmpty then none else some (rdiv (l.foldl (· + ·) 0) l.length)

/-- rms of the last 64 path-delay samples about their mean, 2^-16 ns (R352, R353). -/
def Lane.delayRms (x : Lane) : Nat :=
  let n := x.pd.length
  if n = 0 then 0
  else
    let m := rdiv (x.pd.foldl (· + ·) 0) n
    isqrt (x.pd.foldl (fun a v => a + (v - m).natAbs ^ 2) 0 / n)

/-- A path-delay sample is dropped: beyond 10 rms of the last 64, or beyond 1 us while fewer than 16 exist (R352). -/
def Lane.delayOut (x : Lane) (v : Int) : Bool :=
  match x.meanDelay with
  | none => false
  | some m => if x.pd.length < 16 then decide (usU < (v - m).natAbs) else decide (10 * x.delayRms < (v - m).natAbs)

/-- The bound of a received grandmasterClockAccuracy in ps; 1 ms while 0xFE (R353). 0x31 has no bound; a reserved value
has none stated: a free value. -/
def State.accBound (s : State) (acc : Nat) : Nat × State :=
  if acc = 0xFE then (1000000000, s)
  else if acc = 0x31 then (2 ^ 32, s)
  else match accTable.find? fun p => p.1 = acc with
    | some p => ((p.2 + 999) / 1000, s)
    | none => ((Config.freeWord s.draw.1).toNat, s.draw.2)

/-- te_ref of the port (R353). -/
def State.teRefUpd (l : Fin 48) (s : State) : State :=
  match (s.lane l).parent with
  | none => s
  | some f =>
    let (b, s) := s.accBound f.acc
    s.laneMod l fun x => { x with teRef := satU 32 (if f.acc = 0xFE then b else b + 3 * toPs x.delayRms) }

/-- The conditions of time activity hold; the parent's Sync interval is the one its header gives, else the profile's (R353). -/
def State.timeActNow (s : State) (l : Fin 48) : Bool :=
  let x := s.lane l
  let near := fun (a : Option Nat) (span : Nat) => match a with | some f => decide (s.now ≤ f + span) | none => false
  (decide (x.pstate = 8) || decide (x.pstate = 9)) && near x.syncAt (3 * logU (x.parSync.getD s.ptp.syncLog)) &&
  near x.delayAt (3 * min (logU s.ptp.delayLog) (16 * secU))

/-- Time activity is judged again (R353, R199). -/
def State.judgeAct (l : Fin 48) (s : State) : State :=
  if s.timeActNow l then
    (if (s.lane l).timeAct then s else refCond (linkRef l) (s.laneMod l fun x => { x with timeAct := true }))
  else s.timeActOff l

/-- A path-delay sample of the port at this instant (R352). -/
def State.delaySample (l : Fin 48) (v : Int) (s : State) : State :=
  if (s.lane l).delayOut v then s.laneCount l 16
  else
    let s := s.laneMod l fun x => { x with pd := (x.pd ++ [v]).drop (x.pd.length + 1 - 64), delayAt := some s.now }
    (s.teRefUpd l).judgeAct l

/-- The stamp of the event message that arrived at Kettle instant `k`: its edge's on the lane's channel (R146, R162). -/
def State.evAt (s : State) (l : Fin 48) (k : Nat) : Option Stamp := (s.lane l).evs.find? fun x => x.latch = k

/-- An event message has been taken: its stamp and any older one, whose message was dropped, wait no longer. -/
def State.evDone (l : Fin 48) (k : Nat) (s : State) : State :=
  s.laneMod l fun x => { x with evs := x.evs.filter fun e => decide (k < e.latch) }

/-- Loss of block lock meets the present instant: of events that meet in one cycle it acts first (R379). -/
def State.lockLosing (s : State) (l : Fin 48) : Bool :=
  s.pending.any fun i => match i with | .blockLockLost t m => decide (m = l ∧ t ≤ s.now) | _ => false

/-- An offset of the port from a Sync stamped `x`: t2 - t1 - meanPathDelay - delayAsymmetry, the corrections already in
t1 (R352). It is the phase sample of its candidate; the first one makes an UNCALIBRATED port SLAVE. -/
def State.offsetSample (l : Fin 48) (t1 : Int) (x : Stamp) (s : State) : State :=
  match if s.lockLosing l then none else (s.lane l).meanDelay with
  | none => s
  | some m =>
    let o := sat64 (s.nowTime x - t1 - m - (s.lane l).asym)
    let s := s.laneMod l fun x => { x with offset := o, syncAt := some s.now }
    let s := if (s.lane l).pstate = 8 then s.setPort l 9 else s
    let s := s.judgeAct l
    if (s.cand (linkRef l)).time then refSample (linkRef l) x.edge o s else s

/-! ### Reception (R361 to R363) -/

/-- Messages per second the token bucket lets in (R370). -/
def Lane.police (x : Lane) : Nat := if x.rxPolice ≠ 0 then x.rxPolice else if x.rate = 0 then 280000 else 1100000

/-- The token bucket brought up to now, burst 1,024 (R361). -/
def Lane.refill (now : Nat) (x : Lane) : Lane :=
  let n := (now - x.bucketAt) * x.police / secU
  if n = 0 then x
  else if 1024 ≤ x.bucket + n then { x with bucket := 1024, bucketAt := now }
  else { x with bucket := x.bucket + n, bucketAt := x.bucketAt + n * secU / x.police }

/-- Authentication under SIGN_VERIFY: the counter of a message to be dropped (R362, R363). -/
def State.authDrop (s : State) (l : Fin 48) (h : MsgHdr) : Option Nat :=
  let x := s.lane l
  if x.mode ≠ 2 then none
  else if s.slotFilled l = false then some 11
  else match h.auth with
    | none => some 12
    | some a =>
      let k := vget s.ptp.keys x.slot
      if a.spp ≠ x.spp then some 12
      else if a.keyId = k.id ∧ a.icv = hmac128 k.bytes h.covered then none
      else some 11

/-- Length of a message of this type before its TLVs (IEEE 1588-2019 clause 13; log 15). -/
def ptpLen (typ : Nat) : Nat :=
  if typ = 2 ∨ typ = 3 ∨ typ = 9 ∨ typ = 10 then 54 else if typ = 11 then 64 else if typ = 13 then 48 else 44

/-- Malformed: short or inconsistent, a TLV past its end, not version 2, or a reserved messageType (R361). -/
def MsgHdr.bad (h : MsgHdr) : Bool :=
  decide (h.version ≠ 2) || (decide (4 ≤ h.typ) && decide (h.typ ≤ 7)) || decide (14 ≤ h.typ) || decide (h.len < ptpLen h.typ) ||
  decide (h.octets < h.len) || decide (h.len < h.tlvs.foldl (fun a n => a + 4 + n) (ptpLen h.typ))

/-- A frame may come in: a port with a tag takes only frames that carry it (R348). -/
def Lane.tagOk (x : Lane) (vlan : Option Nat) : Bool := !x.vlanEn || decide (vlan = some x.vid)

/-- The client of a message on port `l`. -/
def Client.isOf (l : Fin 48) (h : MsgHdr) (c : Client) : Bool := decide (c.lane = l ∧ c.id = h.id ∧ c.port = h.port)

/-- A message of a client is dropped (R361, R373). -/
def State.dropFrom (s : State) (l : Fin 48) (h : MsgHdr) (i : Nat) : State :=
  (s.laneCount l i).onPtp fun p =>
    { p with clients := p.clients.map fun c => if c.isOf l h then { c with dropped := satU 32 (c.dropped + 1) } else c }

/-- A received PTP message passes the defences that stand before its own meaning, in order: policing, the port's tag and
transport, form, domain, authentication (R348, R361; another transport is DROPPED_OTHER, log 60). -/
def State.receive (l : Fin 48) (h : MsgHdr) (s : State) : State × Bool :=
  if !s.portUp l then (s, false)
  else
    let s := s.laneMod l (Lane.refill s.now)
    let x := s.lane l
    if x.bucket = 0 then (s.laneCount l 4, false)
    else
      let s := s.laneMod l fun x => { x with bucket := x.bucket - 1 }
      if !x.tagOk h.vlan || decide (h.transport ≠ x.transport) then (s.laneCount l 18, false)
      else
        let s := s.laneCount l 0
        if h.bad then (s.dropFrom l h 9, false)
        else if h.domain ≠ s.ptp.domain then (s.dropFrom l h 10, false)
        else match s.authDrop l h with
          | some k => (s.dropFrom l h k, false)
          | none => (s, true)

/-- A received message, once let in, is taken by `f`. -/
def rxWith (t : Nat) (l : Fin 48) (h : MsgHdr) (f : State → State) (s : State) : Res :=
  match ((s.advance t).promote l).receive l h with
  | (s, true) => done (f s)
  | (s, false) => done s

/-- The message comes from the port's parent. -/
def Lane.fromParent (x : Lane) (h : MsgHdr) : Bool :=
  (decide (x.pstate = 8) || decide (x.pstate = 9)) && decide (x.parentId = h.id) && decide (x.parentPort = h.port)

/-- Index of a grant kind in the keys of grants held from unicast masters. -/
def GrantKind.idx : GrantKind → Nat | .sync => 0 | .delay => 1 | .ann => 2

/-- Key of a grant held from unicast master `m`. -/
def umKey (m : Nat) (k : GrantKind) : Nat := 4 * m + k.idx

/-- Number of configured unicast masters in use: UNICAST set on a SLAVE_ONLY or BMCA port (R357). -/
def Lane.umUsed (x : Lane) : Nat := if x.unicast && (decide (x.role = 1) || decide (x.role = 3)) then x.umN else 0

/-- The configured unicast master with this address. -/
def Lane.umOf (x : Lane) (addr : Nat) : Option Nat :=
  (List.range x.umUsed).find? fun m => x.masters.getD m 0 = addr

/-- The port holds a grant of kind `k` from the sender of `h`. -/
def State.umHeld (s : State) (l : Fin 48) (h : MsgHdr) (k : GrantKind) : Bool :=
  match (s.lane l).umOf h.addr with
  | some m => (s.lane l).umGrant.any fun g => decide (g.1 = umKey m k) && decide (s.now < g.2)
  | none => false

/-- An unsolicited unicast message is dropped (R361). -/
def State.unsolicited (s : State) (l : Fin 48) (h : MsgHdr) (k : GrantKind) : Bool := h.unicast && !s.umHeld l h k

/-! ### Clients and grants (R355, R356, R373) -/

/-- A grant of a client. -/
def Client.grant (c : Client) : GrantKind → Grant
  | .sync => c.sync | .delay => c.delay | .ann => c.ann

/-- Set a grant of a client. -/
def Client.setGrant (c : Client) (k : GrantKind) (g : Grant) : Client :=
  match k with
  | .sync => { c with sync := g }
  | .delay => { c with delay := g }
  | .ann => { c with ann := g }

/-- Some grant of the client is in force. -/
def Client.any (c : Client) : Bool := c.sync.on || c.delay.on || c.ann.on

/-- Change the clients for which `p` holds; an entry with no grant left is freed, and a port's numbers start again when
its table is empty (R356, R373). -/
def State.clientMod (s : State) (l : Fin 48) (p : Client → Bool) (f : Client → Client) : State :=
  let s := s.onPtp fun q => { q with clients := (q.clients.map fun c => if p c then f c else c).filter Client.any }
  if s.ptp.clients.any fun c => decide (c.lane = l) then s else s.laneMod l fun x => { x with nextNumber := 0 }

/-- Entries of a port. -/
def State.clientsOf (s : State) (l : Fin 48) : List Client := s.ptp.clients.filter fun c => decide (c.lane = l)

/-- Rate of an interval in 1/32 message per second. -/
def rate32 (log : Int) : Nat := 2 ^ (5 - log).toNat

/-- Rate granted of one kind over a list of clients, 1/32 per second. -/
def ratesOf (k : GrantKind) (l : List Client) : Nat := l.foldl (fun a c => if (c.grant k).on then a + rate32 (c.grant k).log else a) 0

/-- The rate a port's multicast Sync stream counts (R355). -/
def State.mcRate (s : State) (l : Fin 48) : Nat :=
  if (s.lane l).multicast && decide ((s.lane l).pstate = 6) then rate32 s.ptp.syncLog else 0

/-- MAX_CLIENTS in force: at most 1,024 at RATE 0 (R355, R368). -/
def Lane.maxClientsNow (x : Lane) : Nat := if x.rate = 0 then min x.maxClients 1024 else x.maxClients

/-- The lowest entry of the pool not in use (log 26). -/
def freeSlot (l : List Client) : Nat :=
  ((List.range (l.length + 1)).find? fun n => !l.any fun c => decide (c.slot = n)).getD 0

/-- A request is denied (R355, R356). -/
def State.denies (s : State) (l : Fin 48) (h : MsgHdr) (k : GrantKind) (log : Int) : Bool :=
  let x := s.lane l
  let old := s.ptp.clients.find? (Client.isOf l h)
  let others := s.ptp.clients.filter fun c => !c.isOf l h
  let mine := others.filter fun c => decide (c.lane = l)
  let mc := if k = .sync then (s.mcRate l, (List.finRange 48).foldl (fun a l => a + s.mcRate l) 0) else (0, 0)
  let cap := 32 * (if x.rate = 0 then 131072 else 524288)
  !x.unicast || decide (x.pstate ≠ 6) || decide (log < x.minLog) || !inRange (profRange s.ptp.profile k) log ||
  (decide (k ≠ .ann) && (decide (cap < ratesOf k mine + mc.1 + rate32 log) ||
    decide (32 * 4194304 < ratesOf k others + mc.2 + rate32 log))) ||
  (match old with
   | some c => (c.grant k).on && decide (s.now + 10 * secU < (c.grant k).endsAt)
   | none => decide (x.maxClientsNow ≤ mine.length) || decide (32768 ≤ s.ptp.clients.length))

/-- Address of a port's transport in 128 bits, right-aligned. -/
def Client.fresh (l : Fin 48) (s : State) (h : MsgHdr) : Client :=
  { Client.init with lane := l, number := (s.lane l).nextNumber, slot := freeSlot s.ptp.clients, transport := (s.lane l).transport,
                     addr := h.addr, id := h.id, port := h.port, secFrom := s.now }

/-- A client's grants that have run out lapse (R356, R361). -/
def State.lapse (s : State) (l : Fin 48) (p : Client → Bool) (k : GrantKind) : State :=
  match s.ptp.clients.find? fun c => p c && (c.grant k).on && decide ((c.grant k).endsAt ≤ s.now) with
  | some c =>
    (s.laneCount l 3).clientMod l (fun y => decide (y.slot = c.slot)) fun y => y.setGrant k Grant.init
  | none => s

/-- Every grant that has run out by now lapses: what is freed at this instant is free before a request is judged (R356,
R379). -/
def State.lapseAll (s : State) : State :=
  s.ptp.clients.foldl (fun s c =>
    [GrantKind.sync, .delay, .ann].foldl (fun s k => s.lapse c.lane (fun y => decide (y.slot = c.slot)) k) s) s

/-- A Signaling message of the engine, with the sequenceId of the port's one stream (R354; log 60). -/
def State.signal (s : State) (l : Fin 48) (addr : Nat) (f : Nat → TxMsg) : State :=
  (s.send l (some addr) [f (s.lane l).seqSig]).laneMod l fun x => { x with seqSig := seqNext x.seqSig }

/-- A request is granted for at most MAX_GRANT (R356). -/
def State.grantTo (l : Fin 48) (h : MsgHdr) (k : GrantKind) (log : Int) (dur : Nat) (s : State) : State :=
  let d := min dur (s.lane l).maxGrant
  let g : Grant := { on := true, log := log, ends := s.mt + d * secU, endsAt := s.now + d * secU }
  let s :=
    if s.ptp.clients.any (Client.isOf l h) then s
    else
      let c := Client.fresh l s h
      (s.onPtp fun p => { p with clients := p.clients ++ [c] }).laneMod l fun x => { x with nextNumber := x.nextNumber + 1 }
  (s.onPtp fun p => { p with clients := p.clients.map fun c => if c.isOf l h then c.setGrant k g else c }).signal l h.addr
    fun n => .grant n h.addr k log d

/-! ### Synchronous Ethernet (R366, R367) -/

/-- The codes of an option (ITU-T G.781; log 15). -/
def qlOk (option2 : Bool) (q : Nat) : Bool :=
  if option2 then [0x0, 0x1, 0x4, 0x7, 0xA, 0xC, 0xD, 0xE, 0xF].contains q else [0x2, 0x4, 0x8, 0xB, 0xF].contains q

/-- QL a lane sends (R367). -/
def State.qlOut (s : State) (l : Fin 48) : Nat :=
  let x := s.lane l
  let d := s.dpll x.txDomain
  let hold := if x.option2 then 0xA else 0xB
  if !x.qlAuto then x.qlFixed
  else match d.cur with
    | none => hold
    | some r =>
      if r = linkRef l ∧ (s.cand r).time = false then 0xF
      else if d.dstate ≠ .locked ∨ d.bridging then hold
      else match laneOf r with
        | some m =>
          if (s.cand r).ssm ∧ m ≠ l then (s.lane m).rxQl
          else if (s.cand r).time && (match (s.lane m).parent with | some f => decide (f.cls = 6) | none => false) then
            (if x.option2 then 0x1 else 0x2)
          else x.qlRefin
        | none => if r.val = 64 then (if x.option2 then 0x1 else 0x2) else x.qlRefin

/-- BW_NONCOMPLIANT: the DPLL of the lane's domain does not meet its option's bandwidth and damping (R366). -/
def State.bwBad (s : State) (l : Fin 48) : Bool :=
  let d := s.dpll (s.lane l).txDomain
  let bw := if (s.lane l).option2 then decide (d.bw = 100000) else decide (1000000 ≤ d.bw) && decide (d.bw ≤ 10000000)
  !(bw && decide (50 ≤ d.damping))

/-- The lane's ESMC state changed: EXT_REJ of its candidate follows (R205). -/
def State.ssmUpd (l : Fin 48) (s : State) : State := refExtRej (linkRef l) (s.ssmRej l) s

/-! ### Lanes (R342, R343) -/

/-- Nominal line rate in bit/s (R341). -/
def Lane.lineRate (x : Lane) : Nat := if x.rate = 0 then 1250000000 else if x.rate = 1 then 10312500000 else 25781250000

/-- Rate of a lane's transmit clock in bit/s, as a fraction: the nominal line rate times 1 + c of the DPLL of TX_DOMAIN
(R342). -/
def State.txRate (s : State) (l : Fin 48) : Int × Nat :=
  (((s.lane l).lineRate : Int) * ((accU : Int) + (s.dpll (s.lane l).txDomain).c), accU)

/-- The multicast groups a port in service needs (R364). -/
def State.groups (s : State) (l : Fin 48) : List Nat :=
  if s.portUp l ∧ (s.lane l).transport ≠ 0 then [groupAddr (s.lane l).transport false, groupAddr (s.lane l).transport true] else []

/-- The port joins the groups it needs and leaves the others: a report for each new one (R364; log 60). -/
def State.joinGroups (l : Fin 48) (s : State) : State :=
  let g := s.groups l
  let new := g.filter fun a => !(s.lane l).joined.contains a
  let f := new.map fun a => s.tagged l (.join a)
  s.laneMod l fun x => { x with joined := g, sent := if f.isEmpty then x.sent else f }

/-- A frame for the host: queued, or dropped when 32 wait (R364). -/
def State.toHost (l : Fin 48) (bytes : List (BitVec 8)) (s : State) : State :=
  if 32 ≤ s.ptp.hostQ.length then s.count 0x1600
  else (s.onPtp fun p => { p with hostQ := p.hostQ ++ [{ lane := l, at_ := s.mt, bytes := bytes.take 1522 }] }).laneCount l 24

/-- LANE_EN, RATE and FEC take effect: through OFF or MEASURING, and R32 applies to the candidate (R343, R370). -/
def State.lanePower (l : Fin 48) (en : Bool) (rate : Nat) (fec : Bool) (s : State) : State :=
  let o := s.lane l
  if o.en = en ∧ o.rate = rate ∧ o.fec = fec then s
  else
    let s := s.laneMod l fun x => { x with en := en, rate := rate, fec := fec }
    if !en then
      (if o.en then ((refOff (linkRef l) s).laneTo l .off).chanDown (linkChan l) else s)
    else if !o.en then refOn (linkRef l) ((s.laneTo l .measuring).chanUp (linkChan l))
    else refOn (linkRef l) (refOff (linkRef l) (s.laneTo l .measuring))

/-- The loopback channel is taken by something R515 puts before LANE_DELAY: the root's search, a band fill, a lane in
MEASURING, a pin whose delay is being measured. -/
def State.loopbackBusy (s : State) : Bool :=
  s.ringed || s.out.doms.toList.any (·.filling) || s.ptp.lanes.toList.any (fun x => decide (x.lstate = .measuring)) ||
  (List.finRange 16).any (fun c => (vget s.meas.chans ⟨c.val, by omega⟩).enable && !(vget s.meas.chans ⟨c.val, by omega⟩).pairOk)

end Sys2Proof.Machine
end

