-- ==== Sys2Proof/Machine/Arc.lean ====
section
/-!
DEFINITION. The archive memory: the phase archive and its roll-up, the daily summaries, the event log as the host reads
it, the words of indirect space 0, and the ARC commands (R468 to R478, R496, R497).
-/

namespace Sys2Proof.Machine

/-- Period in seconds, entries, words per entry, base word of a tier (R471). -/
def tierInfo : Nat → Nat × Nat × Nat × Nat
  | 0 => (1, 7200, 130, 0x000000)
  | 1 => (60, 43200, 130, 0x0E4840)
  | 2 => (3600, 17532, 130, 0x63F9C0)
  | _ => (86400, 14610, 64, 0x86C0B8)

/-- The entry of a tier for an interval number. -/
def Arc.find (a : Arc) (tier i : Nat) : Option ArcEnt := a.entries.find? fun e => e.tier = tier ∧ e.interval = i

/-- Store an entry: it takes the place of whatever its ring index held (R471). -/
def Arc.put (a : Arc) (e : ArcEnt) : Arc :=
  let n := (tierInfo e.tier).2.1
  { a with entries := a.entries.filter (fun x => !(x.tier = e.tier ∧ x.interval % n = e.interval % n)) ++ [e] }

/-- The module's data of the second that ends, DPLL part (R271, R473). -/
def Dpll.secData (d : Dpll) : ArcDpll :=
  let counted := decide (d.secT = d.secAll) && decide (0 < d.secAll)
  { dstate := d.dstate.code, cur := refCode d.cur, lockedS := counted.toNat
    cMean := if counted then rdiv d.secC d.secAll else 0
    eMean := rdiv d.secE d.secN
    eRms := satU 32 (if d.secN = 0 then 0 else isqrt (d.secEE / d.secN))
    eMax := satU 32 d.secEMax }

/-- KIND and VALUE of a candidate (R474). y in 2^-64 becomes units of 10^-14; a phase becomes units of 2^-6 ns. -/
def Cand.arcWord (c : Cand) : Nat × Int :=
  if c.st = .off then (0, 0)
  else if c.time then (if c.hist.isEmpty then (0, 0) else (1, satS 30 (rdiv c.phase 1024)))
  else if c.everQual || c.freqAcc then (2, satS 30 (rdiv (c.y * 10 ^ 14) (2 ^ 64)))
  else (0, 0)

/-- The 1 s data as METRONOME_SECOND closes it (R472). -/
def State.secEntry (s : State) (sec : Nat) : ArcEnt :=
  { tier := 0, interval := sec, state := s.sys.mstate.code, partialFlag := false, ecc := false,
    stepped := decide (s.arc.stepAt = some sec)
    traceable := s.loop.traceHeld, cold := !s.kettle.warm, covered := s.timeValid.toNat
    caseTemp := s.age.caseTemp, heater := s.kettle.heater, teMax := satU 32 (s.dpll 0).teEst
    dpll := s.loop.dplls.toList.map Dpll.secData, cands := s.ref.cands.toList.map Cand.arcWord }

/-- Mean weighted by `w`, rounded to nearest (log 16). -/
def wmean (l : List (Nat × Int)) : Int := rdiv (l.foldl (fun a p => a + p.1 * p.2) 0) (l.foldl (fun a p => a + p.1) 0)

/-- A higher tier's entry from the entries of the tier below (R472, log 21). -/
def rollEntry (tier i : Nat) (l : List ArcEnt) : Option ArcEnt :=
  match l.getLast? with
  | none => none
  | some z =>
    let dp := fun (k : Nat) => l.map fun e => (e.covered, e.dpll.getD k ArcDpll.init)
    let one := fun (k : Nat) =>
      let q := dp k
      let last := z.dpll.getD k ArcDpll.init
      { dstate := last.dstate, cur := last.cur
        lockedS := q.foldl (fun a p => a + p.2.lockedS) 0
        cMean := wmean (q.map fun p => (p.2.lockedS, p.2.cMean))
        eMean := wmean (q.map fun p => (p.1, p.2.eMean))
        eRms := isqrt (wmean (q.map fun p => (p.1, (p.2.eRms * p.2.eRms : Int)))).toNat
        eMax := q.foldl (fun a p => max a p.2.eMax) 0 : ArcDpll }
    let cd := fun (k : Nat) =>
      let kind := (z.cands.getD k (0, 0)).1
      let vs := l.filterMap fun e => let c := e.cands.getD k (0, 0); if c.1 = kind ∧ kind ≠ 0 then some (1, c.2) else none
      (kind, if kind = 0 then 0 else wmean vs)
    some { tier := tier, interval := i, state := z.state, partialFlag := false, ecc := false
           stepped := l.any (·.stepped)
           traceable := l.all fun e => e.traceable || decide ((e.dpll.getD 0 ArcDpll.init).lockedS = 0)
           cold := l.any (·.cold)
           covered := l.foldl (fun a e => a + e.covered) 0
           caseTemp := wmean (l.map fun e => (e.covered, e.caseTemp))
           heater := (wmean (l.map fun e => (e.covered, (e.heater : Int)))).toNat
           teMax := l.foldl (fun a e => max a e.teMax) 0
           dpll := (List.range 8).map one
           cands := if tier = 3 then [] else (List.range 66).map cd }

/-- The 8-byte summary of a daily entry (R475). -/
def daySummary (e : ArcEnt) : Nat :=
  let d := e.dpll.getD 0 ArcDpll.init
  twos 32 (satS 32 (rdiv d.cMean 65536)) * 2 ^ 32 + min 255 (d.lockedS * 255 / 86400) * 2 ^ 24 +
  (clampI 0 255 ((e.caseTemp + 2000) / 50)).toNat * 2 ^ 16 + min 255 (e.heater / 20) * 2 ^ 8 + 128 +
  e.traceable.toNat * 64 + e.cold.toNat * 32 + e.stepped.toNat * 16 + e.state

/-- DAILY page record and entry of a day (R481). -/
def dayPage (day : Nat) : Nat := 0x8000 + day % 14610 / 30
def daySlot (day : Nat) : Nat := day % 14610 % 30

/-- TAG of a day's page: the day of its entry 0, modulo 65,536 (R481). -/
def dayTag (day : Nat) : Nat := (day - daySlot day) % 65536

/-- The daily page with one summary set; a page of an earlier cycle starts with VALID 0 (R481). -/
def State.putDay (s : State) (day : Nat) (sum : Nat) : State :=
  let id := dayPage day
  let old := match (s.nvs.deferred ++ s.nvs.queue).filter (fun w => w.id = id) |>.getLast? with
    | some w => if w.tag = dayTag day then w.payload else []
    | none => match s.nvs.rec? id with | some r => if r.tag = dayTag day then r.payload else [] | none => []
  let base := (List.range 240).map fun i => old.getD i 0
  let pay := base.take (8 * daySlot day) ++ numBytes sum 8 ++ base.drop (8 * daySlot day + 8)
  s.nvWrite { NvWrite.init with id := id, tag := dayTag day, payload := pay }

/-- ROLLUP: the entry of an interval that has ended is formed, tier 0 from the second's data, a higher tier from the
tier below; a daily entry's summary goes to NVS (R472, R475). A present entry stands unless it is marked ECC (R470). -/
def execRollup (t : Nat) (tier : Fin 4) (s : State) : Res :=
  let s := s.advance t
  if !s.timeValid || !s.rolls then done s
  else if tier.val = 0 then
    match s.arc.pendEnt with
    | some e => done ((s.rollDone 2).onArc fun a => { a.put e with pendEnt := none })
    | none => done s
  else
    let per := (tierInfo tier).1
    let below := (tierInfo (tier - 1)).1
    if s.msec < per then done s
    else
      let i := s.msec / per - 1
      if (s.arc.find tier i).any fun e => !e.ecc then done s
      else
        let l := s.arc.entries.filter fun e => decide (e.tier = tier.val - 1 ∧ i * per ≤ e.interval * below ∧
          e.interval * below < (i + 1) * per ∧ !e.ecc)
        match rollEntry tier i l with
        | none => done s
        | some e =>
          let s := s.onArc fun a => a.put e
          done (if tier.val = 3 then s.putDay i (daySummary e) else s)

/-- A daily entry rebuilt from its summary, PARTIAL (R473, R475). COVERED is not in the summary: a free value (log 22). -/
def rebuiltEntry (day sum free : Nat) : ArcEnt :=
  { tier := 3, interval := day, state := sum % 8, partialFlag := true, ecc := false, stepped := decide (sum / 16 % 2 = 1)
    traceable := decide (sum / 64 % 2 = 1), cold := decide (sum / 32 % 2 = 1), covered := free
    caseTemp := (sum / 2 ^ 16 % 256 : Nat) * 50 - 2000, heater := sum / 2 ^ 8 % 256 * 20, teMax := 0
    dpll := [{ ArcDpll.init with lockedS := sum / 2 ^ 24 % 256 * 86400 / 255, cMean := signedOf 32 (sum / 2 ^ 32) * 65536 }]
    cands := [] }

/-- The daily summaries the NVS holds: day and summary, VALID set (R475). -/
def Nvs.daySums (n : Nvs) : List (Nat × Nat) :=
  (n.recs.filter fun r => decide (0x8000 ≤ r.id)).flatMap fun r =>
    (List.range 30).filterMap fun j =>
      let v := ((r.payload.drop (8 * j)).take 8).foldl (fun a b => a * 256 + b.toNat) 0
      if v / 128 % 2 = 1 then some (r.tag + j, v) else none

/-- The daily tier rebuilt at boot: every valid summary whose day lies within the last 14,610 days (R475). -/
def State.rebuildDaily (s : State) : State :=
  let l := s.nvs.daySums
  let newest := l.foldl (fun m p => max m p.1) 0
  l.foldl (fun s p =>
    if p.1 + 14610 ≤ newest then s
    else
      let (k, s) := s.draw
      s.onArc fun a => a.put (rebuiltEntry p.1 p.2 (Config.freeWord k).toNat)) s

/-- Words 0 to 63 of an entry, the core (R473); an ECC entry's data read zero (R470). -/
def ArcEnt.core (e : ArcEnt) : List Word :=
  let (per, _, _, _) := tierInfo e.tier
  let w3 := pack [(e.state, 31, 29), pbit e.partialFlag 28, pbit e.ecc 27, pbit e.stepped 26, pbit e.traceable 25, pbit e.cold 24]
  let dp := fun (k : Nat) => match e.dpll[k]? with
    | none => List.replicate 7 (0 : Word)
    | some d => [pack [(d.dstate, 31, 29), (d.cur, 28, 22), (d.lockedS, 21, 0)]] ++ s64 d.cMean ++ s64 d.eMean ++ [wd d.eRms, wd d.eMax]
  if e.ecc then time96 (e.interval * per * secU) ++ [pack [pbit true 27]] ++ List.replicate 60 0
  else
    time96 (e.interval * per * secU) ++
    [w3, wd e.covered, pack [(twos 16 e.caseTemp, 31, 16), (e.heater, 15, 0)], wd e.teMax, 0] ++
    (List.range 8).flatMap dp

/-- Words 64 to 129: one per candidate (R474). -/
def ArcEnt.block (e : ArcEnt) : List Word :=
  (List.range 66).map fun k =>
    let c := if e.ecc then (0, 0) else e.cands.getD k (0, 0)
    pack [(c.1, 31, 30), (twos 30 c.2, 29, 0)]

/-- The words of a log entry (R477); one that met an uncorrectable error reads zero but for its SEQ (R470). -/
def LogEnt.words (e : LogEnt) : List Word :=
  if e.ecc then [0, wd e.seq] ++ List.replicate 14 0
  else
    let d := e.data.take 10
    [pack [(e.group, 31, 24), (e.event, 23, 16), (e.unit, 7, 0)], wd e.seq] ++ time96 e.at_ ++ [pack [pbit e.valid 31]] ++
    d ++ List.replicate (10 - d.length) 0

/-- Seconds left of a grant (R373). -/
def grantLeft (now : Nat) (g : Grant) : Nat := (g.endsAt - now) / secU

/-- The 10 words of a client (R373); AUTH: the port verifies it. -/
def Client.words (c : Client) (now : Nat) (auth : Bool) : List Word :=
  let on := ([c.sync, c.delay, c.ann].filter (·.on)).map (grantLeft now)
  let left := on.foldl min (on.headD 0)
  [pack [(c.transport, 31, 30), pbit auth 29, pbit c.sync.on 28, pbit c.delay.on 27, pbit c.ann.on 26,
         (twos 8 c.sync.log, 23, 16), (twos 8 c.delay.log, 15, 8), (twos 8 c.ann.log, 7, 0)]] ++
  w64 (c.addr / 2 ^ 64) ++ w64 c.addr ++ w64 c.id ++
  [pack [(c.port, 31, 16), (satU 16 left, 15, 0)], wd c.delayReqs, wd c.dropped]

/-- Word `k` of client entry `slot` (R476); words 21 to 63 carry no guarantee and are free. -/
def State.clientWord (s : State) (slot k : Nat) : Word :=
  match s.ptp.clients.find? fun c => c.slot = slot with
  | none => 0
  | some c =>
    let auth := decide ((s.lane c.lane).mode = 2)
    let gt := fun (g : Grant) => if g.on then time96 g.ends else [0, 0, 0]
    let w := [pack [pbit true 31, (c.lane.val, 29, 24), (c.number, 23, 12)]] ++ c.words s.now auth ++
             [pack [(c.seqSync, 31, 16), (c.seqAnn, 15, 0)]] ++ gt c.sync ++ gt c.delay ++ gt c.ann
    if k < 21 then w.getD k 0 else Config.freeWord (64 * slot + k)

/-- A word of the phase archive (R471). -/
def State.phaseWord (s : State) (addr : Nat) : Word :=
  let tier := if addr < 0x0E4840 then 0 else if addr < 0x63F9C0 then 1 else if addr < 0x86C0B8 then 2 else 3
  let (_, n, words, base) := tierInfo tier
  let i := (addr - base) / words
  if n ≤ i then 0
  else match s.arc.entries.find? fun e => e.tier = tier ∧ e.interval % n = i with
    | none => 0
    | some e => (if tier = 3 then e.core else e.core ++ e.block).getD ((addr - base) % words) 0

/-- A word of indirect space 0 (R468). -/
def State.arcWord (s : State) (addr : Nat) : Word :=
  if addr < 0xA00000 then s.phaseWord addr
  else if addr < 0xC00000 then s.clientWord ((addr - 0xA00000) / 64) ((addr - 0xA00000) % 64)
  else if addr < 0xE00000 then
    (if s.gnss.snap.held && decide (addr - 0xC00000 < 15000 * s.gnss.snap.length) then
      Config.sample s.gnss.snap.base (addr - 0xC00000) else 0)
  else if addr < 0xF00000 then
    match s.arc.log.find? fun e => e.seq % logSize = (addr - 0xE00000) / 16 with
    | some e => e.words.getD ((addr - 0xE00000) % 16) 0
    | none => 0
  else s.sys.staging.getD (addr - 0xF00000) 0

/-- A client's entry is freed as if its grants had lapsed (R356, R361, R470). -/
def State.clientGone (s : State) (slot : Nat) : State :=
  match s.ptp.clients.find? fun c => decide (c.slot = slot) with
  | none => s
  | some c =>
    let n := ([c.sync, c.delay, c.ann].filter (·.on)).length
    (s.count (0x1000 + 32 * c.lane.val + 3) n).clientMod c.lane (fun y => decide (y.slot = slot))
      fun y => { y with sync := Grant.init, delay := Grant.init, ann := Grant.init }

/-- What an uncorrectable archive word does to its region (R470). -/
def State.arcBad (s : State) (addr : Nat) : State :=
  let s := s.count 0x1905
  if addr < 0xA00000 then
    let tier := if addr < 0x0E4840 then 0 else if addr < 0x63F9C0 then 1 else if addr < 0x86C0B8 then 2 else 3
    let (_, n, words, base) := tierInfo tier
    s.onArc fun a => { a with entries := a.entries.map fun e =>
      if e.tier = tier ∧ e.interval % n = (addr - base) / words then { e with ecc := true } else e }
  else if addr < 0xC00000 then s.clientGone ((addr - 0xA00000) / 64)
  else if addr < 0xE00000 then s.onGnss fun g => { g with snap := { g.snap with held := false } }
  else if addr < 0xF00000 then
    s.onArc fun a => { a with log := a.log.map fun e => if e.seq % logSize = (addr - 0xE00000) / 16 then { e with ecc := true } else e }
  else s.onSys fun y => { y with staging := [], staged := false }

/-- An archive word as a scrub or a read meets it (R469, R470, R446). -/
def State.arcEcc (s : State) (addr : Nat) (e : EccIn) : State :=
  match e with
  | .clean => s
  | .corrected => s.report 0x040 .corrected 0x01 addr
  | .retried => s.report 0x040 .contained 0x02 addr true
  | .uncorrectable => (s.arcBad addr).report 0x040 .contained 0x02 addr

/-- DRAM_SCRUB: Roll scrubs the archive's word pairs; the last word ends the pass (R469, R513; log 62). -/
def execDramScrub (t : Nat) (addr : Nat) (e : EccIn) (s : State) : Res :=
  let s := s.advance t
  if !s.rolls then done s
  else done ((if addr = 0xFFFFFF then s.rollDone 1 else s).arcEcc addr e)

/-- ARC_QUERY arguments (R496). -/
def arcQueryChecks (_ : Bool) (a : Args) (_ : State) : Checks :=
  [cond (ab a 0 29 && decide (af a 0 31 30 = 3)) (badArg 0 29 0x0001), rsv a 0 28 2, rng a 0 1 0 1 3]

/-- Oldest and newest interval of a tier, modulo 2^32 (R496). -/
def Arc.span (a : Arc) (tier : Nat) : Nat × Nat :=
  let l := (a.entries.filter fun e => e.tier = tier).map (·.interval)
  (l.foldl min (l.headD 0), l.foldl max 0)

/-- A coherent copy of consecutive entries (R496). -/
def arcQueryBody (_ : Fin 48) (a : Args) (s : State) : State × Reply :=
  let tier := af a 0 31 30
  let part := ab a 0 29
  let n := af a 0 1 0
  let idx := (arg a 1).toNat
  let sp := s.arc.span tier
  let get := fun (k : Nat) =>
    match s.arc.entries.find? fun e => e.tier = tier ∧ e.interval % 2 ^ 32 = (idx + k) % 2 ^ 32 with
    | some e => if part then e.block else e.core
    | none => List.replicate (if part then 66 else 64) 0
  (s, .ok ([pack [(tier, 31, 30), pbit part 29, (n, 1, 0)], wd sp.1, wd sp.2] ++ (List.range n).flatMap get))

/-- ARC_QUERY (R496). -/
def execArcQuery (t : Nat) (tag : Fin 48) (s : State) : Res :=
  runCmd .arcQuery tag arcQueryChecks arcQueryBody (s.advance t)

/-- ARC_LOG_READ arguments (R497). -/
def arcLogReadChecks (_ : Bool) (a : Args) (_ : State) : Checks := [rsv a 1 31 4, rng a 1 3 0 1 15]

/-- Entries from FROM_SEQ upward (R497). SEQ numbers compare by their distance modulo 2^32 from the oldest held. -/
def arcLogReadBody (_ : Fin 48) (a : Args) (s : State) : State × Reply :=
  let l := s.arc.log
  let supp := satU 32 (s.ctr 0x1901)
  match l.head? with
  | none => (s, .ok [0, 0, 0xFFFFFFFF, wd s.arc.logWraps, wd supp])
  | some o =>
    let d := ((arg a 0).toNat + 2 ^ 32 - o.seq) % 2 ^ 32
    let skipped := decide (2 ^ 31 ≤ d)
    let k := if skipped then 0 else d
    let es := (l.drop k).take (dflt a 1 (af a 1 3 0) 15)
    (s, .ok ([pack [pbit skipped 31, (es.length, 3, 0)], wd o.seq, wd ((s.arc.logSeq + 2 ^ 32 - 1) % 2 ^ 32),
              wd s.arc.logWraps, wd supp] ++ es.flatMap LogEnt.words))

/-- ARC_LOG_READ (R497). -/
def execArcLogRead (t : Nat) (tag : Fin 48) (s : State) : Res :=
  runCmd .arcLogRead tag arcLogReadChecks arcLogReadBody (s.advance t)

end Sys2Proof.Machine
end

