-- ==== Sys2Proof/Machine/Ageing.lean ====
section
/-!
DEFINITION. Self-measured ageing: the six items, the Kettle model, the daily margin plan, the core voltage, telemetry,
Roll's late flags, and the AGE and TEL commands (R500 to R524).
-/

namespace Sys2Proof.Machine

/-- Sums of a straight-line fit over points (x, y). -/
structure FitS where
  n : Int
  sx : Int
  sy : Int
  sxx : Int
  sxy : Int
  syy : Int
deriving DecidableEq, Repr

/-- The sums of a list of points. -/
def fitSums (l : List (Int × Int)) : FitS :=
  l.foldl (fun f p =>
      ⟨f.n + 1, f.sx + p.1, f.sy + p.2, f.sxx + p.1 * p.1, f.sxy + p.1 * p.2, f.syy + p.2 * p.2⟩)
    ⟨0, 0, 0, 0, 0, 0⟩

/-- n Sxx - Sx^2. -/
def FitS.den (f : FitS) : Int := f.n * f.sxx - f.sx * f.sx

/-- n Sxy - Sx Sy: the slope is this over `den`. -/
def FitS.num (f : FitS) : Int := f.n * f.sxy - f.sx * f.sy

/-- The sum of the squared residuals times n `den`. -/
def FitS.res (f : FitS) : Nat := ((f.n * f.syy - f.sy * f.sy) * f.den - f.num * f.num).toNat

/-- rms of the residuals, rounded down (log 16). -/
def FitS.rms (f : FitS) : Nat := isqrt (f.res / (f.n * f.n * f.den).toNat)

/-- Standard uncertainty of `k` times the slope, rounded down (log 16). -/
def FitS.unc (f : FitS) (k : Nat) : Nat := isqrt (k * k * f.res / (f.den * f.den * (f.n - 2)).toNat)

/-- Signed quotient rounded to nearest (log 16). -/
def rdivI (a b : Int) : Int := if b < 0 then rdiv (-a) b.natAbs else rdiv a b.natAbs

/-- YEARS_LEFT in 0.1 year: the time until the line fitted to the last 365 daily values reaches the limit; 0xFFFF below
30 values, or with a flat trend or one away from the limit (R501). A year is 365.25 days. -/
def trendYears (days : List (Nat × Int)) (limit : Int) : Nat :=
  let l := days.drop (days.length - 365)
  match l.getLast? with
  | none => 0xFFFF
  | some z =>
    if l.length < 30 then 0xFFFF
    else
      let f := fitSums (l.map fun p => ((p.1 : Int), p.2))
      let rem := limit * f.n * f.den - f.sy * f.den - f.num * (f.n * z.1 - f.sx)
      let per := f.n * f.num
      if f.den = 0 ∨ per = 0 then 0xFFFF
      else if rem = 0 then 0
      else if (0 < rem) = (0 < per) then satU 16 ((rem.natAbs * 40) / (per.natAbs * 1461))
      else if (0 < f.num) = (limit < z.2) then 0 else 0xFFFF

/-- USED in 0.01 %, rounded down; 0 for a value that moved away from its limit (R500). -/
def usedOf (start value limit : Int) : Nat :=
  let d := limit - start
  let c := value - start
  if d = 0 then 10000
  else if (0 < d) = (0 < c) ∧ c ≠ 0 then min 10000 (c.natAbs * 10000 / d.natAbs) else 0

/-- A daily value of an item (R500, R501). -/
def Item.day (x : Item) (now day : Nat) (v limit : Int) : Item :=
  let start := match x.start with | some s => s | none => v
  let days := (x.days.filter fun p => decide (p.1 ≠ day)) ++ [(day, v)]
  let days := days.drop (days.length - 365)
  { x with start := some start, value := v, limit := limit, days := days, yearsLeft := trendYears days limit,
           used := usedOf start v limit, updated := now }

/-- The alarm of an item under a threshold in years (R512). -/
def Item.alarmNow (x : Item) (years : Nat) : Bool :=
  if decide (x.yearsLeft < 10 * years) || decide (9000 ≤ x.used) then true
  else if decide (10 * years + 5 ≤ x.yearsLeft) && decide (x.used < 9000) then false
  else x.alarm

/-- Judge every item's alarm; every set and clear is logged (R512, log 23). -/
def State.judgeAlarms (s : State) : State :=
  forFin 6 (fun i s =>
    let x := vget s.age.items i
    let a := x.alarmNow s.age.alarmYears
    if a = x.alarm then s
    else (s.onAge fun g => { g with items := vmod g.items i fun y => { y with alarm := a } }).log 0x0E 0x01 i.val [wd a.toNat]) s

/-- c in 2^-64 as the Kettle offset y = -c in 10^-15 (R258, R502). -/
def yOfC (c : Int) : Int := rdiv (-c * 10 ^ 15) (2 ^ 64)

/-- A daily entry is a qualifying day (R502). -/
def ArcEnt.qualifies (e : ArcEnt) : Bool :=
  e.traceable && !e.cold && !e.ecc && decide (128 ≤ (e.dpll.getD 0 ArcDpll.init).lockedS * 255 / 86400)

/-- Temperature of the model in 0.01 C: 41 C (R502). -/
def refTemp : Int := 4100

/-- The fit of R502 over the last 30 qualifying days, in 10^-15; valid with 30 of them. -/
def fitModel (days : List DayEnt) (kK : Int) (uk : Nat) (today : Nat) : Model × Int :=
  let l := days.drop (days.length - 30)
  let pts := l.map fun d => (((d.day : Int) - today), d.y - rdiv (kK * (d.temp - refTemp)) 100)
  let f := fitSums pts
  let dK := rdivI f.num f.den
  let y0 := rdivI (f.sy * f.sxx - f.sx * f.sxy) f.den
  let v := decide (30 ≤ l.length) && decide (f.den ≠ 0)
  ({ valid := v, dK := if v then dK else 0, ud := if v then f.unc 1 else 0, kK := kK, uk := uk, sk := max 100 f.rms }, y0)

/-- Minutes of the last 30 days in which DPLL0 was LOCKED with traceability held: case temperature, Kettle offset,
middle second (R503). -/
def Arc.kkMinutes (a : Arc) (sec : Nat) : List (Int × Int × Int) :=
  a.entries.filterMap fun e =>
    let x := e.dpll.getD 0 ArcDpll.init
    if e.tier = 1 ∧ sec ≤ e.interval * 60 + 30 * 86400 ∧ e.traceable ∧ x.lockedS ≠ 0 ∧ !e.ecc then
      some (e.caseTemp, yOfC x.cMean, (e.interval : Int) * 60 + 30)
    else none

/-- kK and uk in 10^-15 per K from those minutes less the daily trend; none where they span less than 2 K (R503). -/
def fitTemp (l : List (Int × Int × Int)) (dK : Int) : Option (Int × Nat) :=
  let lo := l.foldl (fun m p => min m p.1) (l.headD (0, 0, 0)).1
  let hi := l.foldl (fun m p => max m p.1) (l.headD (0, 0, 0)).1
  if hi - lo < 200 then none
  else
    let f := fitSums (l.map fun p => (p.1, p.2.1 - rdiv (dK * (p.2.2 - (l.headD (0, 0, 0)).2.2)) 86400))
    some (rdivI (100 * f.num) f.den, f.unc 100)

/-- The worst eye margin found, across powered lanes and the partner lane (R500, R516). -/
def State.worstEye (s : State) (partner : Option Nat) : Option Nat :=
  let l := (s.ptp.lanes.toList.filter fun x => x.en && decide (x.adaptAt ≠ 0)).map (·.eyeMargin) ++ partner.toList
  match l with | [] => none | x :: r => some (r.foldl min x)

/-- The model's prediction of a day (R510). -/
def predict (m : Model) (y0 : Int) (y0Day : Nat) (d : DayEnt) : Int :=
  y0 + m.dK * ((d.day : Int) - y0Day) + rdiv (m.kK * (d.temp - refTemp)) 100

/-- DERATE of the new plan (R510); r is in 1/256. -/
def derateOf (g : Age) (today old : Nat) : Nat :=
  let l := g.days.filter fun d => decide (today < d.day + 7)
  let u := 3 * (g.prev.sk + g.prev.ud)
  let rs := l.map fun d => if u = 0 then 0 else (d.y - predict g.prev g.prevY0 g.prevDay d).natAbs * 256 / u
  let isOver := rs.filter fun r => decide (256 < r)
  if g.prev.valid && decide (2 ≤ isOver.length) then max 128 (65536 / (isOver.foldl max 257))
  else min 256 (old + 16)

/-- The plan's rules (R509): each value as its PLAN_EN bit allows, else its default. With `hold` no step goes down
(R525). -/
def planOf (g : Age) (today at_ : Nat) (hold : Bool) : Plan :=
  let p := g.plan
  let en := fun (i : Nat) => g.planEn.getLsbD i
  let want := (g.required + 49) / 50 * 50
  let want := max 6800 (min 7400 want)
  let vc := if p.vcore < want then p.vcore + 50 else if want < p.vcore then p.vcore - 50 else p.vcore
  let eye := vget g.items 2
  { vcore := if en 0 then (if hold then max p.vcore vc else vc) else 7200
    marginDays := if en 1 then max 1 (min 90 (g.retention / 100)) else 30
    refreshDays := if en 1 then max 30 (min 3652 (g.retention / 10)) else 730
    swapUs := if en 2 then (if g.swapMax = 0 then 4000 else max 250 (min 4000 (p.swapUs * 5000 / g.swapMax))) else 1000
    refreshS := if en 2 then (if g.driftMax = 0 then 100 else max 1 (min 100 (250 * p.refreshS / g.driftMax))) else 10
    serdesDays := if en 3 ∧ eye.start.isSome then (if 250 ≤ eye.value then 30 else if 150 ≤ eye.value then 7 else 1) else 7
    derate := if en 4 then derateOf g today p.derate else 256
    at_ := at_ }

/-- The day the daily update counts: the TAI day, or days of uptime while the Metronome is not valid (R508). -/
def State.ageDay (s : State) : Nat := if s.timeValid then s.msec / 86400 else (s.now - s.sys.upFrom) / dayU

/-- A plan is computed, put in force and written to AGEING (R508, R509, R521, R524). -/
def State.replan (s : State) : State :=
  let p := planOf s.age s.ageDay s.mt (s.age.rushAt = some s.now)
  let s := if p.vcore = s.age.plan.vcore then s else s.count 0x1B01
  let s := if p.vcore < s.age.plan.vcore then s.onAge fun g => { g with lowerAt := some s.now } else s
  budgetAll (((s.onAge fun g => { g with plan := p }).count 0x1B00).fwWrite 0x0050)

/-- AGE_UPDATE: at 600 s into each TAI day the items and the Kettle model are updated, then the plan (R500 to R508). The
day's entry joins the history when it qualifies and lies after the last MODEL_RESET (R502, R525). -/
def execAgeUpdate (t : Nat) (v : DayIn) (s : State) : Res :=
  let s := s.advance t
  let day := s.ageDay
  let due := if s.timeValid then decide (s.msec % 86400 = 600) && decide (s.age.planDay ≠ some day)
             else match s.age.planAt with | some k => s.past k dayU | none => s.past s.sys.upFrom dayU
  if !s.rolls || !due then done s
  else
    let yest := s.arc.find 3 (day - 1)
    let new : List DayEnt := match yest with
      | some e => if e.qualifies && s.age.resetDay.all (fun r => decide (r < e.interval)) && decide (s.timeValid) then
          [{ day := e.interval, y := yOfC (e.dpll.getD 0 ArcDpll.init).cMean, temp := e.caseTemp }] else []
      | none => []
    let days := (s.age.days.filter fun d => decide (day < d.day + 91 ∧ ¬ new.any (fun n => n.day = d.day))) ++ new
    let trend := (fitModel days s.age.model.kK s.age.model.uk day).1.dK
    let (kK, uk) := (fitTemp (s.arc.kkMinutes s.msec) trend).getD (s.age.model.kK, 2000)
    let (m, y0) := fitModel days kK uk day
    let eye := s.worstEye v.partnerEye
    let yk : Int := match days.getLast? with | some d => d.y.natAbs | none => (yOfC (s.dpll 0).c).natAbs
    let val := fun (i : Nat) => match i with
      | 0 => (yk, (200000000 : Int)) | 1 => (v.tdc, 10000) | 2 => ((eye.getD 0 : Nat), 100)
      | 3 => ((s.age.retention : Int), 300) | 4 => ((s.age.required : Int), 7400) | _ => (v.oven, 5500)
    let items := (List.finRange 6).foldl (fun its i =>
      if i.val = 2 ∧ eye.isNone then its else vmod its i fun x => x.day s.now day (val i.val).1 (val i.val).2) s.age.items
    let s := s.onAge fun g =>
      { g with days := days, prev := g.model, prevY0 := g.y0, prevDay := g.y0Day, model := m, y0 := y0, y0Day := day,
               items := items, planAt := some s.now, planDay := if s.timeValid then some day else g.planDay,
               driftMax := 0, swapMax := 0 }
    done ((s.replan.judgeAlarms).rollDone 12)

/-- RO_MEASURE: every 60 s the ring monitors are measured; one below RO_MIN raises VCORE_SET a step at once (R507,
R511). -/
def execRoMeasure (t : Nat) (required : Nat) (marginPct : Int) (load : Nat) (s : State) : Res :=
  let s := s.advance t
  if !s.rolls then done s else
  let s := s.onAge fun g => { g with required := required, roMargin := satS 16 marginPct, load := min 1000 load }
  let s := s.rollDone 9
  let lower := decide (s.age.lowerAt = some s.now)
  let v := if lower then min 7400 (s.age.plan.vcore + 50) else s.age.plan.vcore
  if 0 ≤ marginPct then done s
  else if v < 7400 then
    let s := (s.onAge fun g => { g with plan := { g.plan with vcore := min 7400 (v + 50) }, rushAt := some s.now }).count 0x1B02
    done (if lower then s else s.count 0x1B01)
  else
    done ((s.onAge fun g =>
      { g with items := vmod g.items 4 fun x => { x with used := 10000 }, plan := { g.plan with vcore := v } }).judgeAlarms)

/-- VCORE_RAMP: VCORE_SET moves 1 mV toward its planned value every 10 ms; it pauses while the derived clocks run on the
ring (R509, R517). -/
def execVcoreRamp (t : Nat) (s : State) : Res :=
  let s := s.advance t
  if s.root.onRing || !s.past s.age.vcoreRow (10 * msU) then done s
  else
    let p := s.age.plan.vcore
    done (s.onAge fun g =>
      { g with vcoreRow := s.now, vcore := if g.vcore < p then min p (g.vcore + 10) else max p (g.vcore - 10) })

/-- TELEMETRY: the sensors' means of the Metronome second that has ended (R518). -/
def execTelemetry (t : Nat) (v : Sensors) (s : State) : Res :=
  let s := s.advance t
  if !s.rolls then done s else
  let s := s.onKettle fun k => { k with ovenErr := v.ovenErr, heater := v.heater }
  done ((s.onAge fun g =>
    { g with caseTemp := v.caseTemp, dieTemp := v.dieTemp, vddCore := v.vddCore, vddSer := v.vddSer, vdd18 := v.vdd18,
             vdd33 := v.vdd33, vddOven := v.vddOven, power := v.power, telAt := s.msec * secU }).rollDone 10)

/-- How long a Roll task may go without a pass: twice its period, three periods for a task of 1 s or less (R513;
log 62). -/
def Plan.taskLimit (p : Plan) (task : Nat) : Nat :=
  match task with
  | 0 => 20 * secU
  | 1 => 2400 * secU
  | 3 => (if p.refreshS ≤ 1 then 3 else 2 * p.refreshS) * secU
  | 5 => 1200 * secU
  | 6 => 2 * p.serdesDays * dayU
  | 7 => 2 * p.marginDays * dayU
  | 8 => 2 * p.refreshDays * dayU
  | 9 => 120 * secU
  | 11 => 7200 * secU
  | 12 => 2 * dayU
  | _ => 3 * secU

/-- TASK_LATE: a Roll task has passed its limit without a pass (R513, R524). -/
def execTaskLate (t : Nat) (task : Fin 13) (s : State) : Res :=
  let s := s.advance t
  if s.age.late.getLsbD task.val || !s.rolls || !s.past (vget s.age.taskAt task) (s.age.plan.taskLimit task.val) then done s
  else done ((s.onAge fun g => { g with late := g.late ||| BitVec.ofNat 13 (2 ^ task.val) }).count 0x1B03)

/-- LIFE_HOURS up to now (R518). -/
def State.lifeNow (s : State) : Nat := satU 32 (s.age.lifeHours + (s.now - s.age.lifeFrom) / (3600 * secU))

/-- Module YEARS_LEFT and the item that sets it (R501). -/
def worstItem (g : Age) : Nat × Nat :=
  (List.finRange 6).foldl (fun m i => let y := (vget g.items i).yearsLeft; if y < m.1 then (y, i.val) else m) (0xFFFF, 0)

/-- AGE_STATUS response (R520). -/
def ageStatusBody (_ : Fin 48) (_ : Args) (s : State) : State × Reply :=
  let g := s.age
  let w := worstItem g
  let al := (List.finRange 6).foldl (fun v i => if (vget g.items i).alarm then v + 2 ^ i.val else v) 0
  let m := g.model
  (s, .ok ([pack [pbit m.valid 31, pbit g.offsetValid 30, (al, 21, 16), (g.days.length, 15, 0)],
            pack [(w.1, 31, 16), (w.2, 7, 0)],
            wd (twos 32 (if g.offsetValid then satS 32 g.offset else 0)), wd (satU 32 g.offsetUnc),
            wd (twos 32 (satS 32 m.dK)), wd (satU 32 m.ud), wd (twos 32 (satS 32 m.kK)),
            pack [(satU 16 m.uk, 31, 16), (satU 16 m.sk, 15, 0)], wd s.lifeNow,
            pack [(g.late.toNat, 31, 16), (g.load, 15, 0)]] ++
           (List.finRange 6).flatMap fun i =>
             let x := vget g.items i
             [pack [(x.yearsLeft, 31, 16), (x.used, 15, 0)], wd (satU 32 ((s.now - x.updated) / secU))]))

/-- AGE_STATUS (R520). -/
def execAgeStatus (t : Nat) (tag : Fin 48) (s : State) : Res :=
  runCmd .ageStatus tag (fun _ _ _ => []) ageStatusBody (s.advance t)

/-- AGE_MARGIN_PLAN response; a REPLAN at the instant of the daily plan returns that plan (R521; log 62). -/
def ageMarginPlanBody (_ : Fin 48) (a : Args) (s : State) : State × Reply :=
  let re := ab a 0 31 && decide (s.age.planAt ≠ some s.now)
  let s := if re then s.replan else s
  let p := s.age.plan
  (s, .ok ([pack [pbit re 31, (p.vcore, 15, 0)], pack [(p.marginDays, 31, 16), (p.refreshDays, 15, 0)],
            pack [(p.swapUs, 31, 16), (p.refreshS, 15, 0)], pack [(p.serdesDays, 31, 16), (p.derate, 15, 0)]] ++ time96 p.at_))

/-- AGE_MARGIN_PLAN (R521). -/
def execAgeMarginPlan (t : Nat) (tag : Fin 48) (s : State) : Res :=
  runCmd .ageMarginPlan tag (fun _ a _ => [rsv a 0 30 0]) ageMarginPlanBody (s.advance t)

/-- AGE_POLICY arguments (R522). -/
def agePolicyChecks (priv : Bool) (a : Args) (_ : State) : Checks :=
  [cond (!priv) notPermitted, rsv a 0 30 21, rsv a 0 15 8, rng a 0 7 0 1 40 0x0001]

/-- The plan with the values whose planning is off back at their defaults (R522). -/
def Plan.masked (p : Plan) (en : BitVec 5) : Plan :=
  { p with vcore := if en.getLsbD 0 then p.vcore else 7200
           marginDays := if en.getLsbD 1 then p.marginDays else 30, refreshDays := if en.getLsbD 1 then p.refreshDays else 730
           swapUs := if en.getLsbD 2 then p.swapUs else 1000, refreshS := if en.getLsbD 2 then p.refreshS else 10
           serdesDays := if en.getLsbD 3 then p.serdesDays else 7, derate := if en.getLsbD 4 then p.derate else 256 }

/-- MODEL_RESET, PLAN_EN and ALARM_YEARS applied (R522). -/
def agePolicyBody (_ : Fin 48) (a : Args) (s : State) : State × Reply :=
  let en := BitVec.ofNat 5 (af a 0 20 16)
  let yrs := af a 0 7 0
  let today := s.ageDay
  let s := if ab a 0 31 then
      s.onAge fun g => { g with model := Model.init, prev := Model.init, days := [], resetDay := some today,
                                offsetValid := false, offset := 0 }
    else s
  let s := budgetAll (s.onAge fun g => { g with planEn := en, alarmYears := yrs, plan := g.plan.masked en })
  (s.judgeAlarms, .ok [pack [(en.toNat, 20, 16), (yrs, 7, 0)]])

/-- AGE_POLICY (R522). -/
def execAgePolicy (t : Nat) (tag : Fin 48) (s : State) : Res :=
  runCmd .agePolicy tag agePolicyChecks agePolicyBody (s.advance t)

/-- TEL_SNAPSHOT response (R523). -/
def telSnapshotBody (_ : Fin 48) (_ : Args) (s : State) : State × Reply :=
  let g := s.age
  (s, .ok ([pack [(twos 16 g.caseTemp, 31, 16), (twos 16 g.dieTemp, 15, 0)],
            pack [(twos 16 s.kettle.ovenErr, 31, 16), (s.kettle.heater, 15, 0)],
            pack [(g.vddCore, 31, 16), (g.vcore, 15, 0)], pack [(g.vddSer, 31, 16), (g.vdd18, 15, 0)],
            pack [(g.vdd33, 31, 16), (g.vddOven, 15, 0)], pack [(g.power, 31, 16), (twos 16 g.roMargin, 15, 0)],
            wd s.lifeNow] ++ time96 g.telAt))

/-- TEL_SNAPSHOT (R523). -/
def execTelSnapshot (t : Nat) (tag : Fin 48) (s : State) : Res :=
  runCmd .telSnapshot tag (fun _ _ _ => []) telSnapshotBody (s.advance t)

end Sys2Proof.Machine
end

