-- ==== Sys2Proof/Machine/CarillonCmds.lean ====
section
/-!
DEFINITION. The events of the Carillon and the SYN and OUT commands (R297 to R340, R430, R431).
-/

namespace Sys2Proof.Machine

/-! ### Events of the root PLL -/

/-- ROOT_LOSS: the lock monitor declares a loss, unless one is in progress (R298). -/
def execRootLoss (t : Nat) (ringKhz : Nat) (s : State) : Res :=
  let s := s.advance t
  if s.root.inLoss then done s else done ((s.rootDeclare ringKhz).report 0x010 .contained 0x09)

/-- Bands whose count lies nearest 1,280 (R299). -/
def nearestBands (counts : List Nat) : List (Fin 32) :=
  let off := fun (b : Fin 32) => ((counts.getD b.val 0 : Int) - 1280).natAbs
  (List.finRange 32).filter fun b => (List.finRange 32).all fun c => off b ≤ off c

/-- The band chosen: the nearest; between equals a free choice, which no rule makes (R299, log 60). -/
def State.chooseBand (counts : List Nat) (s : State) : Fin 32 × State :=
  match nearestBands counts with
  | [] => (0, s)
  | [b] => (b, s)
  | b :: l => ((b :: l).getD ((Config.freeWord s.draw.1).toNat % (l.length + 1)) b, s.draw.2)

/-- ROOT_RELOCK: the sequence completes with the band that the 32 counts of the search choose, or a step after the search
has failed (R299, R300); the first lock after a reset runs the same sequence (R527). -/
def execRootRelock (t : Nat) (counts : List Nat) (ok : Bool) (s : State) : Res :=
  let s := s.advance t
  if (!s.root.inLoss && decide (s.root.st = .locked)) || s.root.waitFrom.isSome || s.sys.inReset || !s.past s.root.seqFrom searchU then
    done s
  else if ok then
    let (band, s) := s.chooseBand counts
    let s := s.ringCount.onRoot fun r =>
      { r with st := .locked, onRing := false, band := band, inLoss := false, invalidSpan := false,
               lastRelockUs := if r.inLoss then satU 32 ((s.now - r.lossAt) / usU) else r.lastRelockUs }
    done (evalAll s)
  else
    let s := (s.count 0x0901).onRoot fun r => { r with st := .search, fails := satU 32 (r.fails + 1), waitFrom := some s.now }
    done (s.report 0x010 .contained 0x09)

/-- ROOT_RELOCK_RETRY: 1 s after a failure the sequence starts again (R300). -/
def execRootRelockRetry (t : Nat) (s : State) : Res :=
  let s := s.advance t
  match s.root.waitFrom with
  | some w => if s.past w secU then done s.rootSearch else done s
  | none => done s

/-! ### Events of the domains -/

/-- Base source ID of a domain (R456). -/
def domSource (d : Fin 8) : Nat := 0x280 + 16 * d.val

/-- No band covers the target: NO_BAND and BAND_GAP; the outputs stay at their disabled level (R303). -/
def State.bandGap (d : Fin 8) (s : State) : State := s.report (domSource d) .contained 0x20

/-- DOMAIN_BAND_FILL_DONE: the table is measured, a band selected, the PLL locks and the outputs start (R302, R303,
R306). A root loss pauses the fill. -/
def execDomainBandFillDone (t : Nat) (d : Fin 8) (table : List (Nat × Nat)) (s : State) : Res :=
  let s := s.advance t
  let x := s.dom d
  if x.enable && x.filling && decide (table.length = 128) && !s.root.inLoss then
    let s := s.domMod d fun x => { x with table := table, filled := true, fillAt := s.now, filling := false, lowMargin := false }
    match bandPick table x.num x.den with
    | some b => done ((s.domMod d fun x => { x with band := b, noBand := false }).domStart d)
    | none => done ((s.domMod d fun x => { x with noBand := true }).bandGap d)
  else done s

/-- DOMAIN_LOCK: a running domain PLL loses lock (R306). -/
def execDomainLock (t : Nat) (d : Fin 8) (s : State) : Res :=
  let s := s.advance t
  let x := s.dom d
  if x.enable && x.locked && x.running then done ((s.domStop d).report (domSource d) .contained 0x22) else done s

/-- DOMAIN_RELOCK: the PLL relocks after a loss and its outputs start aligned (R306). -/
def execDomainRelock (t : Nat) (d : Fin 8) (s : State) : Res :=
  let s := s.advance t
  let x := s.dom d
  if x.enable && !x.locked && !x.filling && !x.retuning && !x.noBand then done (s.domStart d) else done s

/-- DOMAIN_RETUNE_DONE: the PLL locks on the new F_D and its outputs start aligned (R306). -/
def execDomainRetuneDone (t : Nat) (d : Fin 8) (s : State) : Res :=
  let s := s.advance t
  let x := s.dom d
  if x.enable && x.retuning then done (s.domStart d) else done s

/-- BAND_CHECK: the tuning voltage against the band table (R304). -/
def execBandCheck (t : Nat) (d : Fin 8) (devPpm marginPpm : Nat) (s : State) : Res :=
  let s := s.advance t
  let x := s.dom d
  if s.rolls && x.enable && x.locked then
    let s := if marginPpm < 560 then s.domMod d fun x => { x with lowMargin := true } else s
    let s := s.rollDone 4
    done (if 100 < devPpm then s.report (domSource d) .corrected 0x21 else s)
  else done s

/-- RAMP_SEGMENT_END: target and dwell are done (R308). -/
def execRampSegmentEnd (t : Nat) (d : Fin 8) (s : State) : Res :=
  let s := s.advance t
  let x := s.dom d
  if x.ramp = .running ∧ s.past x.rampFrom (x.seg.len x.rampR) then done ((s.foldRamp d).domMod d Domain.nextSeg) else done s

/-! ### Events of the outputs -/

/-- OUTPUT_HOLD_END: the disabled-level hold after a change ends (R313, R318). The hold after DIV, DOMAIN or PHASE_ADJ, at
most 1 us, may end sooner and starts the output; the 2 us after FORMAT or INVERT run beside it. -/
def execOutputHoldEnd (t : Nat) (out : OutId) (s : State) : Res :=
  let s := s.advance t
  match out with
  | .ck n =>
    let k := s.ck n
    let s := if k.formFrom.any fun f => s.past f (2 * usU) then s.ckMod n fun k => { k with formFrom := none } else s
    done (if k.holdFrom.isSome then s.ckStart n else s)
  | .pl n =>
    (match (s.pl n).holdFrom with
     | some f => if s.past f (10 * usU) then done (s.plMod n fun p => { p with holdFrom := none }) else done s
     | none => done s)

/-- 50 ns in 2^-16 ns (R318). -/
def gapU : Nat := 50 * nsU

/-- An edge instant at Kettle instant `k` of a restarted generator is emitted (R318). -/
def Pulse.emits (k : Nat) (p : Pulse) : Bool :=
  match p.restartAt with
  | some r => !p.high && decide (r + gapU ≤ k) && decide (p.fallAt + gapU ≤ k)
  | none => true

/-- A rising edge instant at Kettle instant `k`, the pulse `w` long (R315, R318, R322). -/
def Pulse.rise (k w : Nat) (p : Pulse) : Pulse :=
  let q := if p.emits k then { p with high := true, fallAt := k + w, restartAt := none } else p
  { q with lastEdge := k, edgeFrom := k + p.period / 2 }.slewBy (k - p.lastEdge)

/-- PULSE_EDGE: a generator reaches an edge instant: a rising one is emitted, or suppressed and counted, and the slew
correction applied; a falling one ends the pulse (R315, R318, R322, R339). -/
def execPulseEdge (t : Nat) (p : Fin 16) (rising : Bool) (s : State) : Res :=
  let s := s.advance t
  let d := (s.pl p).domain
  if !(s.dom d).running || s.kettle.lost then done s
  else if rising then
    let s := s.foldRamp d
    let x := s.pl p
    let k := x.nextPoint (s.domAt d x.edgeFrom)
    let e := x.riseAt k
    let y := s.domAt d s.now
    if e ≤ y then
      let at' := s.now - (y - e).toNat
      let s := s.count (0x0800 + 16 * p.val + (if x.emits at' then 0 else 1))
      done (s.plMod p (Pulse.rise at' (x.fallOf k - e).toNat))
    else done s
  else if (s.pl p).high && decide ((s.pl p).fallAt ≤ s.now) then done (s.plMod p fun x => { x with high := false })
  else done s

/-- SLEW_END: |phi| has come within 5 ps (R322). -/
def execSlewEnd (t : Nat) (p : Fin 16) (s : State) : Res :=
  let s := s.advance t
  let x := s.pl p
  if x.slewing && decide (x.phi.natAbs * 1000 ≤ 5 * 65536) then
    done (s.plMod p fun y => { y with slewing := false, slewReq := false })
  else done s

/-- Wait from the input to recognition on a domain's grid: 2 to 3 grid periods (R325). -/
def syncWait (waits : List Nat) (d : Fin 8) : Nat := max 327680 (min 491520 (waits.getD d.val 327680))

/-- Latency of a CKOUT and of a PULSE output beside that wait: 0.6 + 40 + 0.9 ns and 0.6 + 40 + 1.8 ns (R325). -/
def ckLag : Nat := 415 * nsU / 10
def plLag : Nat := 424 * nsU / 10

/-- An armed CKOUT output restarts (R324). -/
def State.ckSync (waits : List Nat) (n : Fin 24) (s : State) : State :=
  let k := s.ck n
  let x := s.dom k.domain
  if k.enable && x.running then
    let e := s.domAt k.domain (s.now + ckLag + syncWait waits k.domain)
    s.ckMod n fun k =>
      { k with syncRef := true, aligned := false, dphi := phaseAt e x.num (x.den * k.div), holdFrom := none,
               syncAt := s.now + syncWait waits k.domain }
  else s

/-- An armed PULSE output restarts: its first rising edge comes at the latency plus DELAY (R324). -/
def State.plSync (waits : List Nat) (n : Fin 16) (s : State) : State :=
  let p := s.pl n
  if p.enable && (s.dom p.domain).running then
    let s := s.foldRamp p.domain
    let k := s.now + plLag + syncWait waits p.domain
    s.plMod n fun p =>
      { p with syncRef := true, syncAt := s.now + syncWait waits p.domain, phi := phaseAt (s.domAt p.domain k) p.num p.den, restartAt := none, edgeFrom := k - 1000 }.judge s.slewOn
  else s

/-- The armed outputs of a domain are restarted, which counts once for the domain (R324, R339). -/
def State.syncDomain (waits : List Nat) (a : SyncArm) (d : Fin 8) (s : State) : State :=
  let cks := (List.finRange 24).filter fun n => a.ckout.getLsbD n.val && decide ((s.ck n).domain = d) && (s.ck n).enable
  let pls := (List.finRange 16).filter fun n => a.pulse.getLsbD n.val && decide ((s.pl n).domain = d) && (s.pl n).enable
  if (cks.isEmpty && pls.isEmpty) || !(s.dom d).running then s
  else
    let s := s.count (0x0700 + 16 * d.val + 1)
    pls.foldl (fun s n => s.plSync waits n) (cks.foldl (fun s n => s.ckSync waits n) s)

/-- SYNC_IN_EDGE: the first qualifying edge within TIMEOUT restarts every armed output and consumes the arm (R324,
R325, R326, R529). -/
def execSyncInEdge (t : Nat) (falling : Bool) (waits : List Nat) (s : State) : Res :=
  let s := s.advance t
  match s.out.arm with
  | some a =>
    if s.out.released && (a.falling == falling) && decide (s.now ≤ a.from_ + a.timeout * msU) then
      done (forFin 8 (State.syncDomain waits a) (s.onOut fun o => { o with arm := none }))
    else done s
  | none => done s

/-- The present cycle still brings the edge that the arm waits for: it acts before TIMEOUT (R326; log 18). -/
def State.syncComing (s : State) (a : SyncArm) : Bool :=
  s.pending.any fun i => match i with
    | .syncInEdge t falling _ => (a.falling == falling) && decide (t ≤ a.from_ + a.timeout * msU ∧ t ≤ s.now)
    | _ => false

/-- SYNC_ARM_TIMEOUT: the arm lapses (R324). -/
def execSyncArmTimeout (t : Nat) (s : State) : Res :=
  let s := s.advance t
  match s.out.arm with
  | some a => if s.past a.from_ (a.timeout * msU) && !s.syncComing a then done (s.onOut fun o => { o with arm := none, syncExpired := true }) else done s
  | none => done s

/-- OUTPUT_HANDOFF: an enabled output leaves KEEP at a hand-off point after the claim, the first such point ending the
switch-over gap; at an agreed handover the old active's goes to KEEP at a hand-off point from T + 20 ns on (R430 to
R433, R438). -/
def execOutputHandoff (t : Nat) (out : OutId) (s : State) : Res :=
  let s := s.advance t
  let gapEnd := fun (s : State) =>
    if s.pair.gapFrom = 0 then s
    else s.onPair fun p => { p with gapUs := satU 32 ((s.now - p.gapFrom) / usU), gapFrom := 0 }
  let release := s.pair.hoDone && (match s.pair.hoT with | some h => decide (h * secU + 20 * nsU ≤ s.mt) | none => false)
  if s.gates && !release then done s
  else match out with
  | .ck n =>
    let k := s.ck n
    let x := s.dom k.domain
    let off := k.dphi + ((k.phaseAdj * x.den * secU / (x.k * x.num) : Nat) : Int)
    if k.enable && decide (k.keep ≠ release) && handOk (s.domAt k.domain s.now) off (periodOf x.num (x.den * k.div) / 2 : Nat) x.num (x.den * k.div) then
      done (if release then s.ckMod n fun k => { k with keep := true } else gapEnd (s.ckMod n fun k => { k with keep := false }))
    else done s
  | .pl n =>
    let p := s.pl n
    let w : Int := if p.half then (p.period / 2 : Nat) else (p.width * nsU : Nat)
    if p.enable && decide (p.keep ≠ release) && handOk (s.domAt p.domain s.now) (p.delay * 65536 / 100 + p.phi) w p.num p.den then
      done (if release then s.plMod n fun p => { p with keep := true } else gapEnd (s.plMod n fun p => { p with keep := false }))
    else done s

/-! ### Words of OUT_STATUS (R338) -/

/-- Ramp codes (R338). -/
def RampState.code : RampState → Nat
  | .idle => 0 | .running => 1 | .held => 2

/-- DOMAIN_WORD of domain `d` (R338). -/
def State.domWord (s : State) (d : Fin 8) : Word :=
  let x := s.dom d
  pack [pbit x.enable 31, pbit x.locked 30, pbit x.filling 29, pbit x.noBand 28, pbit x.lowMargin 27, (x.ramp.code, 26, 25),
        (x.band, 22, 16), (if x.filling then 0 else x.k, 10, 0)]

/-- CKOUT word (R338). -/
def State.ckWord (s : State) (n : Fin 24) : Word :=
  let k := s.ck n
  pack [pbit k.enable 31, (k.format, 30, 29), pbit (s.ckAligned k) 28, pbit k.syncRef 27, pbit s.gates 26, (k.domain.val, 18, 16),
        (k.div, 15, 0)]

/-- PULSE word (R338). -/
def State.plWord (s : State) (n : Fin 16) : Word :=
  let p := s.pl n
  pack [pbit p.enable 31, pbit p.aligned 30, pbit p.slewing 29, pbit p.syncRef 28, pbit s.gates 27, pbit p.auto 26,
        pbit p.level33 25, (p.domain.val, 18, 16), (p.slewRate, 13, 0)]

/-- PHASE of a PULSE output: phi in 10 ps, saturating (R338). -/
def State.plPhase (s : State) (n : Fin 16) : Word :=
  wd (twos 32 (clampI (-(2 ^ 31)) (2 ^ 31 - 1) (rdiv ((s.pl n).phi * 100) 65536)))

/-- Word 0 of OUT_STATUS (R337, R338). -/
def State.outWord (s : State) : Word :=
  let al := (List.finRange 16).foldl (fun a n => if (s.pl n).aligned then a + 2 ^ n.val else a) 0
  pack [pbit s.out.arm.isSome 31, pbit s.out.syncExpired 30, pbit s.sys.mstate.slews 29, (al, 15, 0)]

/-! ### SYN_CONFIG -/

/-- A domain in bits 2:0 of word 0. -/
def argDom (a : Args) : Fin 8 := ⟨af a 0 2 0, by unfold af fld; omega⟩

/-- F_D after the arguments (R327, R328). -/
def fdArg (a : Args) (x : Domain) : Nat × Nat := (dflt a 1 (arg a 1).toNat x.num, dflt a 2 (arg a 2).toNat x.den)

/-- An enabled CKOUT of the domain would break R311 under F_D n/d (R328). -/
def State.ckBreaks (s : State) (d : Fin 8) (n m : Nat) : Bool :=
  (List.finRange 24).any fun i =>
    let k := s.ck i
    k.enable && decide (k.domain = d) && (!ckRateOk n m k.div k.format || decide (vcoK n m * k.div ≤ k.phaseAdj))

/-- A filled table has no band for the new F_D; one outside R301's range has no target to judge (R328). -/
def Domain.noBandFor (x : Domain) (n m : Nat) : Bool :=
  fdOk n m && decide (n * x.den ≠ m * x.num) && !x.filling && !x.table.isEmpty && (bandPick x.table n m).isNone

/-- SYN_CONFIG acceptance (R328). -/
def synConfigChecks (_ : Bool) (a : Args) (s : State) : Checks :=
  let d := argDom a
  let x := s.dom d
  let (n, m) := fdArg a x
  [cond (x.noBandFor n m) (wrongState 0x0004), rsv a 0 30 3, cond (decide (d.val = 0) && !ab a 0 31) (badArg 0 31 0x0001)] ++
  rateOk a 1 ++
  [cond (has a 1 && !fdOk n m) (badArg 1 0 0x0002), cond (has a 1 && s.ckBreaks d n m) (badArg 1 0 0x0003),
   cond (decide (x.ramp ≠ .idle)) (busyRes 0x0005)]

/-- The F_D of a domain changes: a powered one retunes in the band selected for it, a filling one takes it at the fill's
end, a powered-down one only stores it (R303, R306). -/
def State.setFd (d : Fin 8) (n m : Nat) (s : State) : State :=
  let x := s.dom d
  let s := if x.enable && !x.filling then s.domStop d else s
  s.domMod d fun y =>
    let y := { y with num := n, den := m, k := vcoK n m }
    if x.enable && !x.filling then
      (match bandPick y.table n m with
       | some b => { y with band := b, noBand := false, lowMargin := false, retuning := true }
       | none => { y with noBand := true })
    else y

/-- Power-up: the outputs stay at their disabled level during the fill and lock (R302, R306). -/
def State.domUp (d : Fin 8) (s : State) : State :=
  (s.domStop d).domMod d fun y => { y with enable := true, filling := true, noBand := false, lowMargin := false }

/-- Power-down: r is 0, the table is kept, the DPLL keeps the domain time (R302, R305, R310). -/
def State.domDown (d : Fin 8) (s : State) : State :=
  let s := (s.rampIdle d).domMod d fun y =>
    { y with enable := false, running := false, locked := false, filling := false, retuning := false, noBand := false, lowMargin := false }
  s.onOut fun o =>
    { o with ck := vmap o.ck fun k => if k.domain = d then { k with aligned := false } else k
             pl := vmap o.pl fun p => if p.domain = d then { p with high := false } else p }

/-- SYN_CONFIG at its apply edge; staged without a band for the new F_D, the domain stays on its old one and raises
BAND_GAP (R328). -/
def applySynConfig (a : Args) (s : State) : State :=
  let d := argDom a
  let x := s.dom d
  let (n, m) := fdArg a x
  let gap := x.noBandFor n m
  let s := if n * x.den = m * x.num then s.domMod d fun y => { y with num := n, den := m }
           else if gap then s else s.setFd d n m
  let on := ab a 0 31 || decide (d.val = 0)
  let s := if on && !x.enable then s.domUp d else if !on && x.enable then s.domDown d else s
  if gap then s.bandGap d else s

/-- SYN_CONFIG unstaged (R328). -/
def synConfigBody (_ : Fin 48) (a : Args) (s : State) : State × Reply :=
  let d := argDom a
  let s := applySynConfig a s
  let x := s.dom d
  (s, .ok [s.domWord d, wd x.vcoKhz, wd x.marginPpm])

/-- SYN_CONFIG (R328). -/
def execSynConfig (t : Nat) (tag : Fin 48) (s : State) : Res :=
  runCmd .synConfig tag synConfigChecks synConfigBody (s.advance t)

/-! ### SYN_RAMP_LOAD, SYN_RAMP_RUN -/

/-- Segments a SYN_RAMP_LOAD carries. -/
def rampN (a : Args) : Nat := af a 0 12 8

/-- SYN_RAMP_LOAD acceptance (R329). -/
def synRampLoadChecks (_ : Bool) (a : Args) (s : State) : Checks :=
  let n := rampN a
  let lim : Int := 50000000
  [rsv a 0 31 21, rsv a 0 15 13, rng a 0 12 8 1 21, rsv a 0 7 3, cond (decide (32 < af a 0 20 16 + n)) (badArg 0 16 0x0001),
   cond (decide (a.length < 1 + 3 * n)) (badArg 0xFF 0 0x0002)] ++
  ((List.range n).flatMap fun i =>
    [cond (decide (lim < as32 a (1 + 3 * i)) || decide (as32 a (1 + 3 * i) < -lim)) (badArg (1 + 3 * i) 0 0x0003),
     rng a (2 + 3 * i) 31 0 0 4000000000]) ++
  [cond (decide ((s.dom (argDom a)).ramp = .running)) (busyRes 0x0004)]

/-- Segment `i` of the arguments. -/
def segArg (a : Args) (i : Nat) : Seg :=
  { Seg.init with target := as32 a (1 + 3 * i), slope := (arg a (2 + 3 * i)).toNat, dwell := (arg a (3 + 3 * i)).toNat }

/-- SYN_RAMP_LOAD at its apply edge (R329). -/
def applyRampLoad (a : Args) (s : State) : State :=
  let first := af a 0 20 16
  s.domMod (argDom a) fun x =>
    { x with segs := vmapIdx x.segs fun i g => if first ≤ i ∧ i < first + rampN a then some (segArg a (i - first)) else g }

/-- SYN_RAMP_LOAD unstaged (R329). -/
def synRampLoadBody (_ : Fin 48) (a : Args) (s : State) : State × Reply :=
  let s := applyRampLoad a s
  (s, .ok [s.domWord (argDom a)])

/-- SYN_RAMP_LOAD (R329). -/
def execSynRampLoad (t : Nat) (tag : Fin 48) (s : State) : Res :=
  runCmd .synRampLoad tag synRampLoadChecks synRampLoadBody (s.advance t)

/-- START is refused under R309, or the domain is powered down (R330). -/
def State.rampRefused (s : State) (d : Fin 8) : Bool :=
  !(s.dom d).enable ||
  (decide (s.sys.mstate ≠ .test) &&
   (s.out.pl.toList.any (fun p => p.enable && decide (p.domain = d)) || s.ptp.lanes.toList.any (fun l => l.en && decide (l.txDomain = d))))

/-- SYN_RAMP_RUN acceptance (R330). -/
def synRampRunChecks (_ : Bool) (a : Args) (s : State) : Checks :=
  let d := argDom a
  let x := s.dom d
  let start := !ab a 0 31
  let never := (x.segs.toList.take (af a 0 20 16 + 1)).any Option.isNone
  [cond (start && s.rampRefused d) (wrongState 0x0001), rsv a 0 29 21, cond (start && never) (badArg 0 16 0x0003), rsv a 0 7 3,
   cond (start && decide (x.ramp ≠ .idle)) (busyRes 0x0002)]

/-- SYN_RAMP_RUN at its apply edge; a staged START that is refused now does not start, which is logged (R330). -/
def applyRampRun (a : Args) (s : State) : State :=
  let d := argDom a
  if ab a 0 31 then (if (s.dom d).ramp = .idle then s else s.rampIdle d)
  else if s.rampRefused d then s.notApplied 0x0602 0x0001
  else if (s.dom d).ramp ≠ .idle then s.notApplied 0x0602 0x0002
  else
    (s.count (0x0700 + 16 * d.val + 3)).domMod d fun x =>
      { x with ramp := .running, rampLast := af a 0 20 16, rampLoop := ab a 0 30, rampRepeat := af a 0 15 8, rampSeg := 0,
               rampRuns := 0, rampR := 0, rampFrom := s.now }

/-- SYN_RAMP_RUN unstaged (R330). -/
def synRampRunBody (_ : Fin 48) (a : Args) (s : State) : State × Reply :=
  let s := applyRampRun a s
  (s, .ok [s.domWord (argDom a)])

/-- SYN_RAMP_RUN (R330). -/
def execSynRampRun (t : Nat) (tag : Fin 48) (s : State) : Res :=
  runCmd .synRampRun tag synRampRunChecks synRampRunBody (s.advance t)

/-! ### SYN_BAND_TABLE, SYN_ROOT_STATUS -/

/-- SYN_BAND_TABLE arguments (R331). -/
def synBandTableChecks (_ : Bool) (a : Args) (_ : State) : Checks :=
  [rsv a 0 31 23, rsv a 0 15 15, rng a 0 14 8 1 64, rsv a 0 7 3, cond (decide (128 < af a 0 22 16 + af a 0 14 8)) (badArg 0 16 0x0001)]

/-- SYN_BAND_TABLE (R331). -/
def synBandTableBody (_ : Fin 48) (a : Args) (s : State) : State × Reply :=
  let x := s.dom (argDom a)
  let age := if x.filled then min 32767 ((s.now - x.fillAt) / (60 * secU)) else 0
  let rows := (List.range (af a 0 14 8)).map fun i => x.table.getD (af a 0 22 16 + i) (0, 0)
  (s, .ok (pack [pbit x.filled 31, (age, 30, 16), (x.band, 6, 0)] :: rows.flatMap fun r => [wd r.1, wd r.2]))

/-- SYN_BAND_TABLE (R331). -/
def execSynBandTable (t : Nat) (tag : Fin 48) (s : State) : Res :=
  runCmd .synBandTable tag synBandTableChecks synBandTableBody (s.advance t)

/-- SYN_ROOT_STATUS (R332). -/
def synRootStatusBody (_ : Fin 48) (_ : Args) (s : State) : State × Reply :=
  let r := s.root
  (s, .ok ([pack [(s.rootState, 31, 30), pbit r.onRing 29, (r.band.val, 4, 0)], wd r.losses, wd r.fails, wd r.lastRelockUs] ++
           time96 r.lastLoss ++ [wd r.ringKhz]))

/-- SYN_ROOT_STATUS (R332). -/
def execSynRootStatus (t : Nat) (tag : Fin 48) (s : State) : Res :=
  runCmd .synRootStatus tag (fun _ _ _ => []) synRootStatusBody (s.advance t)

/-! ### OUT_CONFIG -/

/-- The CKOUT output in bits 4:0 of word 0, if it exists. -/
def argCk (a : Args) : Option (Fin 24) := if h : af a 0 4 0 < 24 then some ⟨af a 0 4 0, h⟩ else none

/-- A domain in bits 10:8 of word 0. -/
def argDom8 (a : Args) : Fin 8 := ⟨af a 0 10 8, by unfold af fld; omega⟩

/-- OUT_CONFIG acceptance (R333). -/
def outConfigChecks (_ : Bool) (a : Args) (s : State) : Checks :=
  let x := s.dom (argDom8 a)
  let k := match argCk a with | some n => s.ck n | none => Ckout.init
  let div := dflt a 1 (af a 1 15 0) k.div
  [cond (ab a 0 31 && !x.enable) (wrongState 0x0004), rng a 0 30 29 0 2, rsv a 0 27 11, rsv a 0 7 5,
   cond (argCk a).isNone (badArg 0 0 0x0001), rsv a 1 31 16, rng a 1 15 0 1 65535,
   cond (!ckRateOk x.num x.den div (af a 0 30 29)) (badArg (if has a 1 then 1 else 0) 0 0x0002), rsv a 2 31 16,
   cond (decide (x.k * div ≤ dflt a 2 (af a 2 15 0) k.phaseAdj)) (badArg (if has a 2 then 2 else 0) 0 0x0003)]

/-- OUT_CONFIG at its apply edge (R313). -/
def applyOutConfig (a : Args) (s : State) : State :=
  match argCk a with
  | none => s
  | some n =>
    let k := s.ck n
    let en := ab a 0 31
    let div := dflt a 1 (af a 1 15 0) k.div
    let adj := dflt a 2 (af a 2 15 0) k.phaseAdj
    let place := decide (div ≠ k.div) || decide (argDom8 a ≠ k.domain) || decide (adj ≠ k.phaseAdj)
    let form := decide (af a 0 30 29 ≠ k.format) || decide (ab a 0 28 ≠ k.invert)
    let s := s.ckMod n fun k =>
      { k with enable := en, format := af a 0 30 29, invert := ab a 0 28, domain := argDom8 a, div := div, phaseAdj := adj }
    if !en then
      s.ckMod n fun k => { k with aligned := false, syncRef := false, holdFrom := none, formFrom := none, startDue := false, keep := false }
    else if !k.enable then outGate (s.ckStart n)
    else if place || form then
      s.ckMod n fun y =>
        { y with holdFrom := if place then some s.now else y.holdFrom, formFrom := if form then some s.now else y.formFrom,
                 aligned := y.aligned && !place, syncRef := y.syncRef && !place }
    else s

/-- OUT_CONFIG unstaged (R333). -/
def outConfigBody (_ : Fin 48) (a : Args) (s : State) : State × Reply :=
  let s := applyOutConfig a s
  match argCk a with
  | some n => (s, .ok [s.ckWord n])
  | none => (s, .fail (badArg 0 0 0x0001))

/-- OUT_CONFIG (R333). -/
def execOutConfig (t : Nat) (tag : Fin 48) (s : State) : Res :=
  runCmd .outConfig tag outConfigChecks outConfigBody (s.advance t)

/-! ### OUT_PULSE_CONFIG -/

/-- The PULSE output in bits 3:0 of word 0. -/
def argPl (a : Args) : Fin 16 := ⟨af a 0 3 0, by unfold af fld; omega⟩

/-- WIDTH of the arguments: WIDTH_HI is 0 when COUNT covers WIDTH_LO alone; ignored with HALF (R334). -/
def widthArg (a : Args) (p : Pulse) : Nat :=
  if ab a 0 28 then p.width else if has a 3 then (arg a 3).toNat + af a 5 15 0 * 2 ^ 32 else p.width

/-- Rate of the arguments (R334). -/
def plRate (a : Args) (p : Pulse) : Nat × Nat := (dflt a 1 (arg a 1).toNat p.num, dflt a 2 (arg a 2).toNat p.den)

/-- OUT_PULSE_CONFIG acceptance (R334). -/
def outPulseConfigChecks (_ : Bool) (a : Args) (s : State) : Checks :=
  let x := s.dom (argDom8 a)
  let p := s.pl (argPl a)
  let (n, m) := plRate a p
  let w := widthArg a p
  let lim : Int := 2000000000
  [cond (ab a 0 31 && !x.enable) (wrongState 0x0005),
   cond (ab a 0 31 && decide (x.ramp ≠ .idle) && decide (s.sys.mstate ≠ .test)) (wrongState 0x0006),
   rsv a 0 27 11, rsv a 0 7 4] ++ rateOk a 1 ++
  [cond (decide (m * 10 ^ 9 < 40 * n) || decide (86400 * n < m)) (badArg (if has a 1 then 1 else 0) 0 0x0002),
   cond (!ab a 0 28 && (decide (w < 5) || decide (m * 10 ^ 9 < (w + 5) * n))) (badArg (if has a 3 then 3 else 0) 0 0x0003),
   cond (has a 4 && (decide (lim < as32 a 4) || decide (as32 a 4 < -lim))) (badArg 4 0 0x0004), rsv a 5 31 16]

/-- OUT_PULSE_CONFIG at its apply edge (R317, R318). -/
def applyPulseConfig (a : Args) (s : State) : State :=
  let n := argPl a
  let s := (s.foldRamp (s.pl n).domain).foldRamp (argDom8 a)
  let p := s.pl n
  let en := ab a 0 31
  let (num, den) := plRate a p
  let w := widthArg a p
  let dly := dflt a 4 (as32 a 4) p.delay
  let again := decide (num * p.den ≠ den * p.num) || decide (argDom8 a ≠ p.domain) || decide (ab a 0 28 ≠ p.half) || decide (w ≠ p.width)
  let form := decide (ab a 0 30 ≠ p.level33) || decide (ab a 0 29 ≠ p.invert)
  let q := { p with enable := en, level33 := ab a 0 30, invert := ab a 0 29, half := ab a 0 28, domain := argDom8 a, num := num,
                    den := den, width := w, delay := dly }
  let q := if again then q.restart s.now
           else if dly ≠ p.delay then { q with phi := phaseAt (q.phi - (dly - p.delay) * 65536 / 100) num den } else q
  let q := if !en then { q with holdFrom := none, keep := false }
           else if form && p.enable then { q with holdFrom := some s.now } else q
  outGate (s.plMod n fun _ => s.plJudge q)

/-- OUT_PULSE_CONFIG unstaged (R334). -/
def outPulseConfigBody (_ : Fin 48) (a : Args) (s : State) : State × Reply :=
  let s := applyPulseConfig a s
  (s, .ok [s.plWord (argPl a), s.plPhase (argPl a)])

/-- OUT_PULSE_CONFIG (R334). -/
def execOutPulseConfig (t : Nat) (tag : Fin 48) (s : State) : Res :=
  runCmd .outPulseConfig tag outPulseConfigChecks outPulseConfigBody (s.advance t)

/-! ### OUT_REALIGN -/

/-- Domain `d` is named, or is the domain of a named output (R335). -/
def State.realignMeets (a : Args) (s : State) (d : Fin 8) : Bool :=
  ab a 0 d.val || (List.finRange 24).any (fun n => ab a 1 n.val && decide ((s.ck n).domain = d)) ||
  (List.finRange 16).any (fun n => ab a 2 n.val && decide ((s.pl n).domain = d))

/-- Condition under which a domain's part of OUT_REALIGN is refused: its DETAIL (R335). -/
def State.realignRefused (a : Args) (s : State) (d : Fin 8) : Option Nat :=
  if ab a 0 (8 + d.val) && s.metroRefused d then some 0x0002
  else if s.realignMeets a d && decide ((s.dom d).ramp ≠ .idle) then some 0x0003
  else none

/-- OUT_REALIGN acceptance (R335). -/
def outRealignChecks (_ : Bool) (a : Args) (s : State) : Checks :=
  let doms := af a 0 7 0
  let metro := af a 0 15 8
  let some' := fun k => (List.finRange 8).any fun d => s.realignRefused a d == some k
  [cond (some' 0x0002) (wrongState 0x0002), cond (some' 0x0003) (wrongState 0x0003), rsv a 0 31 16,
   cond (ab a 0 8 || (List.range 8).any fun d => ab a 0 (8 + d) && !ab a 0 d) (badArg 0 8 0x0001),
   cond (decide (doms = 0) && decide (metro = 0) && decide (af a 1 23 0 = 0) && decide (af a 2 15 0 = 0)) (badArg 0 0 0x0001),
   rsv a 1 31 24, rsv a 2 31 16]

/-- A named domain: its pending step first, METRO next, then every enabled output (R320, R321). -/
def realignDomain (metro : Bool) (d : Fin 8) (s : State) : State :=
  let s := s.resolveStep d
  let s := if metro && decide (d.val ≠ 0) then s.loadMetro d else s
  if (s.dom d).running then (s.count (0x0700 + 16 * d.val)).realignOuts d else s

/-- The outputs named, of domain `d`, that the domain's own re-alignment leaves out (R320). -/
def realignNamed (a : Args) (d : Fin 8) (s : State) : State :=
  let cks := (List.finRange 24).filter fun n => ab a 1 n.val && decide ((s.ck n).domain = d) && (s.ck n).enable && !ab a 0 d.val
  let pls := (List.finRange 16).filter fun n => ab a 2 n.val && decide ((s.pl n).domain = d) && !(ab a 0 d.val && (s.pl n).enable)
  if (cks.isEmpty && pls.isEmpty) || !(s.dom d).running then s
  else pls.foldl (fun s n => s.plRealign n) (cks.foldl (fun s n => s.ckRealign n) (if ab a 0 d.val then s else s.count (0x0700 + 16 * d.val)))

/-- The firmware of a STANDBY resolves a pending step onto candidate 65 at the end of HANDOVER (R426). -/
def State.standbyRealign (d : Fin 8) (s : State) : State :=
  if s.pair.role = .standby ∧ (s.dpll d).cur = some 65 ∧ (s.dpll d).stepPending then realignDomain false d s else s

/-- HANDOVER ends after 1 ms: the loop closes and SETTLE begins, or the switch ends without its target (R235, R238,
R426). -/
def execHandoverEnd (t : Nat) (d : Fin 8) (s : State) : Res :=
  let s := s.advance t
  let x := s.dpll d
  if x.sw = .handover ∧ s.past x.phFrom msU then
    if x.swLost then
      let s := s.ended d 3
      done (if x.swAct then s.fallback d else s)
    else
      let s := s.dpllMod d fun y => { y with sw := .settle, phFrom := s.now, swUpdates := 0, lockFrom := none, badRun := 0 }
      done (s.standbyRealign d)
  else done s

/-- OUT_REALIGN at its apply edge; a domain that meets a WRONG_STATE condition is skipped, which is logged (R335). -/
def applyRealign (a : Args) (s : State) : State :=
  forFin 8 (fun d s =>
    match s.realignRefused a d with
    | some k => s.notApplied 0x0702 k
    | none => realignNamed a d (if ab a 0 d.val then realignDomain (ab a 0 (8 + d.val)) d s else s)) s

/-- OUT_REALIGN unstaged (R335). -/
def outRealignBody (_ : Fin 48) (a : Args) (s : State) : State × Reply :=
  let s := applyRealign a s
  (s, .ok (time96 s.mt))

/-- OUT_REALIGN (R335). -/
def execOutRealign (t : Nat) (tag : Fin 48) (s : State) : Res :=
  runCmd .outRealign tag outRealignChecks outRealignBody (s.advance t)

/-! ### OUT_SLEW, OUT_SYNC_ARM, OUT_STATUS -/

/-- OUT_SLEW acceptance (R336). -/
def outSlewChecks (_ : Bool) (a : Args) (s : State) : Checks :=
  [cond (ab a 0 31 && !s.sys.mstate.slews) (wrongState 0x0001), rsv a 0 29 16, cond (decide (af a 0 15 0 = 0)) (badArg 0 0 0x0002),
   rsv a 1 31 16, rng a 1 15 0 1 10000 0x0003]

/-- OUT_SLEW (R322, R336). -/
def outSlewBody (_ : Fin 48) (a : Args) (s : State) : State × Reply :=
  let start := ab a 0 31
  let s := s.onOut fun o =>
    { o with pl := vmapIdx o.pl fun i p =>
        if ab a 0 i then
          { p with auto := ab a 0 30, slewRate := dflt a 1 (af a 1 15 0) p.slewRate, slewReq := p.slewReq || start }.judge s.slewOn
        else p }
  (s, .ok [wd ((List.finRange 16).foldl (fun x n => if (s.pl n).slewing then x + 2 ^ n.val else x) 0)])

/-- OUT_SLEW (R336). -/
def execOutSlew (t : Nat) (tag : Fin 48) (s : State) : Res :=
  runCmd .outSlew tag outSlewChecks outSlewBody (s.advance t)

/-- A named output is disabled, or its domain's ramp is not IDLE (R337). -/
def State.armBad (a : Args) (s : State) : Bool :=
  (List.finRange 24).any (fun n => ab a 0 n.val && (!(s.ck n).enable || decide ((s.dom (s.ck n).domain).ramp ≠ .idle))) ||
  (List.finRange 16).any (fun n => ab a 1 n.val && (!(s.pl n).enable || decide ((s.dom (s.pl n).domain).ramp ≠ .idle)))

/-- OUT_SYNC_ARM acceptance; with DISARM the other fields are ignored (R337). -/
def outSyncArmChecks (_ : Bool) (a : Args) (s : State) : Checks :=
  if ab a 0 31 then []
  else
    [cond (s.armBad a) (wrongState 0x0003), rsv a 0 29 24, rsv a 1 31 16,
     cond (decide (af a 0 23 0 = 0) && decide (af a 1 15 0 = 0)) (badArg 0 0 0x0002), rng a 2 31 0 1 3600000,
     cond s.out.arm.isSome (busyRes 0x0001)]

/-- OUT_SYNC_ARM (R324, R337). -/
def outSyncArmBody (_ : Fin 48) (a : Args) (s : State) : State × Reply :=
  let s := (forFin 8 State.foldRamp s).onOut fun o =>
    if ab a 0 31 then { o with arm := none }
    else
      { o with syncExpired := false,
               arm := some { SyncArm.init with falling := ab a 0 30, ckout := BitVec.ofNat 24 (af a 0 23 0),
                                               pulse := BitVec.ofNat 16 (af a 1 15 0), timeout := dflt a 2 (arg a 2).toNat 10000,
                                               from_ := s.now } }
  (s, .ok [s.outWord])

/-- OUT_SYNC_ARM (R337). -/
def execOutSyncArm (t : Nat) (tag : Fin 48) (s : State) : Res :=
  runCmd .outSyncArm tag outSyncArmChecks outSyncArmBody (s.advance t)

/-- OUT_STATUS (R338). -/
def outStatusBody (_ : Fin 48) (_ : Args) (s : State) : State × Reply :=
  let s := forFin 8 State.foldRamp s
  let armed := match s.out.arm with | some a => (a.ckout.toNat, a.pulse.toNat) | none => (0, 0)
  (s, .ok (s.outWord :: (List.finRange 8).map s.domWord ++ (List.finRange 24).map s.ckWord ++ (List.finRange 16).map s.plWord ++
           (List.finRange 16).map s.plPhase ++ [wd armed.1, wd armed.2]))

/-- OUT_STATUS (R338). -/
def execOutStatus (t : Nat) (tag : Fin 48) (s : State) : Res :=
  runCmd .outStatus tag (fun _ _ _ => []) outStatusBody (s.advance t)

end Sys2Proof.Machine
end

