-- ==== Sys2Proof/Machine/FwCmds.lean ====
section
/-!
DEFINITION. Firmware images, their checks, staging and commit (R115, R116, R530, R540, R541).
-/

namespace Sys2Proof.Machine

/-- ID_PART (R51). -/
def idPart : Word := 0xAE4B9648

/-- ID_REV: silicon 1.0 and the running firmware, 0 until FW_READY (R52, R532). -/
def State.idRev (s : State) : Word := wd (0x01000000 + s.sys.fwMajor * 256 + s.sys.fwMinor)

/-- Words the staging region holds (R115). -/
def stagingMax : Nat := 1048576

/-- LENGTH of an image agrees with the data present (R530). -/
def imageLenOk (w : List Word) : Bool :=
  decide ((w.getD 4 0).toNat = w.length) && decide (64 ≤ w.length) && decide (w.length ≤ stagingMax)

/-- MAGIC, FORMAT and PART match (R530). -/
def imagePartOk (w : List Word) : Bool := decide (w.getD 0 0 = 0x4B580001) && decide (w.getD 1 0 = idPart)

/-- An image passes its check; `sig`: the signature verifies (R530, log 12). -/
def imageOk (sig : Bool) (w : List Word) : Bool := imageLenOk w && imagePartOk w && sig

/-- Version and build of the image a slot holds (R530). -/
def imageVersion (b : Bool) (m : Image) : Nat × Nat × Nat :=
  if m.shipped then ((Config.shippedVersion b.toNat).1 % 256, (Config.shippedVersion b.toNat).2.1 % 256, (Config.shippedVersion b.toNat).2.2 % 2 ^ 32)
  else (fld (m.words.getD 2 0) 15 8, fld (m.words.getD 2 0) 7 0, (m.words.getD 3 0).toNat)

/-- Slot A or B. -/
def State.slot (s : State) (b : Bool) : Image := vget s.sys.slots (if b then 1 else 0)

/-- Slot A or B set. -/
def State.setSlot (s : State) (b : Bool) (m : Image) : State :=
  s.onSys fun y => { y with slots := vmod y.slots (if b then 1 else 0) fun _ => m }

/-- The slot a commit writes: the one that is not running; under the loader, the one NEXT names (R116, R532). -/
def State.commitSlot (s : State) : Bool := if s.sys.loader then s.sys.nextB else !s.sys.activeB

/-- SYS_FW_STAGE acceptance (R115). -/
def sysFwStageChecks (priv : Bool) (a : Args) (s : State) : Checks :=
  let n := af a 0 19 0
  [cond (!priv) notPermitted, rsv a 0 30 20, cond (ab a 0 31 && decide (n ≠ 0)) (badArg 0 0 0x0001),
   cond (decide (stagingMax < n + (a.length - 1))) (badArg 0 0 0x0002), cond (s.inFlight .sysFwCommit none) busyRes]

/-- What SYS_FW_STAGE is judged by in its turn: its OFFSET against the words that the pieces before it have staged (R106,
R115). -/
def sysFwStageTurn (priv : Bool) (a : Args) (s : State) : Checks :=
  let n := if ab a 0 31 then 0 else s.sys.staging.length
  [cond (!priv) notPermitted, rsv a 0 30 20, cond (decide (af a 0 19 0 ≠ n)) (badArg 0 0 0x0001),
   cond (decide (stagingMax < n + (a.length - 1))) (badArg 0 0 0x0002), cond s.sys.commitTag.isSome busyRes]

/-- SYS_FW_STAGE: FIRST empties the region (R115, R540). -/
def sysFwStageBody (_ : Fin 48) (a : Args) (s : State) : State × Reply :=
  let old := if ab a 0 31 then [] else s.sys.staging
  let l := old ++ a.drop 1
  (s.onSys fun y => { y with staging := l, staged := y.staged && !ab a 0 31 }, .ok [wd l.length])

/-- SYS_FW_STAGE (R115). -/
def execSysFwStage (t : Nat) (tag : Fin 48) (s : State) : Res :=
  runCmd .sysFwStage tag sysFwStageTurn sysFwStageBody (s.advance t)

/-- FW_STAGED_CHECK: the words staged have reached LENGTH and the image passes its check (R540). -/
def execFwStagedCheck (t : Nat) (sigOk : Bool) (s : State) : Res :=
  let s := s.advance t
  if s.hif.fwReady && imageOk sigOk s.sys.staging then done (s.onSys fun y => { y with staged := true }) else done s

/-- SYS_FW_COMMIT acceptance (R116). -/
def sysFwCommitChecks (priv : Bool) (a : Args) (s : State) : Checks :=
  [cond (!priv) notPermitted, rsv a 0 31 2, cond s.sys.commitTag.isSome busyRes]

/-- SYS_FW_COMMIT checks the staged image and begins to write the slot, which is no image from then until it has been
read back (R116, R541; log 30). -/
def sysFwCommitBody (sigOk : Bool) (i : Fin 48) (_ : Args) (s : State) : State × Reply :=
  let w := s.sys.staging
  if !imageLenOk w then (s, .fail (badArg 0xFF 0 0x0011))
  else if !imagePartOk w then (s, .fail (badArg 0xFF 0 0x0013))
  else if !sigOk then (s, .fail (badArg 0xFF 0 0x0012))
  else
    ((s.setSlot s.commitSlot { shipped := false, words := [] }).onSys fun y => { y with commitTag := some i, commitWriting := true },
     .deferred)

/-- SYS_FW_COMMIT (R116). -/
def execSysFwCommit (t : Nat) (tag : Fin 48) (sigOk : Bool) (s : State) : Res :=
  runCmd .sysFwCommit tag sysFwCommitChecks (sysFwCommitBody sigOk) (s.advance t)

/-- Whether a commit makes the slot NEXT: MAKE_NEXT, 1 by default; under the loader always (R116, R532). -/
def State.makesNext (s : State) (a : Args) : Bool := s.sys.loader || dflt a 0 (ab a 0 0) true

/-- FIRMWARE_SLOT_WRITTEN: the slot was written and read back; `ok1`: the first read-back agreed, `ok2`: the one after
the full rewrite (R541). A commit that has taken more than its 30 s ends with TIMEOUT and leaves the slot without an image
(R95, R116; log 58). -/
def execFirmwareSlotWritten (t : Nat) (ok1 ok2 : Bool) (s : State) : Res :=
  let s := s.advance t
  match s.sys.commitTag with
  | none => done s
  | some i =>
    let a := (s.tag i).args
    let b := s.commitSlot
    let w := s.sys.staging
    let late := s.past (s.tag i).busy (30 * secU)
    let s := s.onSys fun y => { y with commitTag := none, commitWriting := false }
    if late then done (s.holdFail i timeoutF)
    else if (ok1 || ok2) && imageLenOk w then
      let s := s.setSlot b { shipped := false, words := w }
      let s := if s.makesNext a then s.onSys fun y => { y with nextB := b } else s
      let v := imageVersion b (s.slot b)
      let s := s.holdOk i [wd b.toNat, wd (v.1 * 256 + v.2.1), wd v.2.2]
      done (if ab a 0 1 then s.onSys fun y => { y with resetDue := some (s.now + 100 * msU) } else s)
    else
      let s := (s.setSlot b { shipped := false, words := [] }).holdFail i (wrongState 0x0014)
      done (if s.sys.loader then s else s.report 0x060 .contained 0x68 ((if b then 512 else 256) + 3))

end Sys2Proof.Machine
end

