-- ==== Sys2Proof/Machine/Geo.lean ====
section
/-!
DEFINITION. Latitude, longitude and ellipsoidal height of a WGS 84 point given by its ECEF coordinates (R404, R405), in
integer arithmetic on fractions of 2^60. The ellipsoid's constants are those of WGS 84 (log 27).
-/

namespace Sys2Proof.Machine

/-- One, as a fraction of 2^60. -/
def fxOne : Int := 1152921504606846976

/-- Pi in 2^-60. -/
def fxPi : Int := 3622009729038561421

/-- Square root of a sum of two squares. -/
def hypI (a b : Int) : Int := (isqrt (a.natAbs ^ 2 + b.natAbs ^ 2) : Nat)

/-- tan of half the angle whose tan is `t`. -/
def halfTan (t : Int) : Int := t * fxOne / (fxOne + hypI fxOne t)

/-- Terms of the arctangent series from order 2 k + 1 on; `p` is the power of `t` due. -/
def atanSeries (t2 : Int) : Nat → Nat → Int → Int
  | 0, _, _ => 0
  | n + 1, k, p => p / (2 * (k : Int) + 1) - atanSeries t2 n (k + 1) (p * t2 / fxOne)

/-- Arctangent of 0 to 1, radians in 2^-60: the angle is halved three times first. -/
def atanFx (t : Int) : Int :=
  let u := halfTan (halfTan (halfTan t))
  8 * atanSeries (u * u / fxOne) 14 0 u

/-- Angle of a vector in the first quadrant. -/
def angle1 (y x : Int) : Int :=
  if x = 0 ∧ y = 0 then 0
  else if y ≤ x then atanFx (y * fxOne / x) else fxPi / 2 - atanFx (x * fxOne / y)

/-- Angle of a vector in (-pi, pi]. -/
def angleFx (y x : Int) : Int :=
  let a := angle1 y.natAbs x.natAbs
  let a := if x < 0 then fxPi - a else a
  if y < 0 then -a else a

/-- Radians to 2^-31 semicircles (R404). -/
def semis (a : Int) : Int := rdiv (a * 2 ^ 31) fxPi.toNat

/-- Semi-major axis in 2^-16 mm. -/
def geoA : Int := 6378137000 * 65536

/-- Semi-minor axis in 2^-16 mm: a (1 - f), 1 / f = 298.257223563. -/
def geoB : Int := geoA * 297257223563 / 298257223563

/-- A unit vector along (c, s). -/
def unit2 (c s : Int) : Int × Int :=
  let h := hypI c s
  if h = 0 then (0, 0) else (c * fxOne / h, s * fxOne / h)

/-- Direction (cos, sin) of the ellipsoid's normal from that of the parametric latitude (Bowring). -/
def normalFrom (p z : Int) (u : Int × Int) : Int × Int :=
  let c3 := u.1 * u.1 / fxOne * u.1 / fxOne
  let s3 := u.2 * u.2 / fxOne * u.2 / fxOne
  unit2 (p - (geoA * geoA - geoB * geoB) / geoA * c3 / fxOne) (z + (geoA * geoA - geoB * geoB) / geoB * s3 / fxOne)

/-- Parametric latitude of a normal direction. -/
def paramOf (v : Int × Int) : Int × Int := unit2 (v.1 * geoA) (v.2 * geoB)

/-- Latitude, longitude (2^-31 semicircles) and height (mm) of a point in mm (R404). -/
def geodetic (x y z : Int) : Int × Int × Int :=
  let p := hypI (x * 65536) (y * 65536)
  let zz := z * 65536
  let v1 := normalFrom p zz (unit2 (p * geoB) (zz * geoA))
  let v := normalFrom p zz (paramOf (normalFrom p zz (paramOf v1)))
  let n := if v = (0, 0) then geoB else hypI (geoA * v.1 / fxOne) (geoB * v.2 / fxOne)
  let h := (p * v.1 + zz * v.2) / fxOne - n
  (semis (angleFx v.2 v.1), satS 32 (semis (angleFx y x)), rdiv h 65536)

end Sys2Proof.Machine
end

