-- ==== Sys2Proof/Machine/Gnss.lean ====
section
/-!
DEFINITION. The GNSS receiver: states, marks for candidate 64 with their checks, antenna supervision, survey, snapshots,
and the GNSS commands (R380 to R409).
-/

namespace Sys2Proof.Machine

/-- Add to counter `i` of the receiver (R407). -/
def State.gnssCount (s : State) (i : Nat) (n : Nat := 1) : State := s.count (0x1700 + i) n

/-! ### Receiver state (R383, R390) -/

/-- NO_FIXED (R390). -/
def Gnss.noFixed (g : Gnss) : Bool := g.posFixed && decide (g.fixed.fix ≠ 2)

/-- The prediction of R393 starts empty. -/
def predRestart (s : State) : State := s.onGnss fun g => { g with pred := [], predReady := false, predDev := 0 }

/-- Measured group delays take force; a change of more than 1 ns of either band is reported (R381). -/
def State.takeGroup (d : GroupDelay) (s : State) : State :=
  let drift := match s.gnss.group with
    | some o => decide (1000 < (d.l1 - o.l1).natAbs) || decide (1000 < (d.l5 - o.l5).natAbs)
    | none => false
  let s := s.onGnss fun g => { g with group := some d }
  if drift then s.report 0x3D0 .corrected 0x40 else s

/-- RECEIVER_START_DONE: the front end has settled and its delays are measured (R381, R383). -/
def execReceiverStartDone (t : Nat) (group : GroupDelay) (s : State) : Res :=
  let s := s.advance t
  if s.gnss.rstate = .start then
    done ((s.onGnss fun g => { g with rstate := .search, lostFrom := none, caFound := false }).takeGroup group)
  else done s

/-! ### Signals and channels (R380, R384 to R386) -/

/-- The L1-band signal of a satellite is tracked. -/
def Gnss.hasL1 (g : Gnss) (v : GnssSat) : Bool := g.tracks.contains { sat := v, l5 := false }

/-- The L1-band signal of a satellite was lost within the last 10 s (R380). -/
def State.l1Recent (s : State) (v : GnssSat) : Bool := s.gnss.l1Gone.any fun p => decide (p.1 = v) && !s.past p.2 (10 * secU)

/-- GPS and QZSS transmit L1 C/A (R380). -/
def GnssSat.l1ca (v : GnssSat) : Bool := decide (v.const = 0) || decide (v.const = 3)

/-- L5-band signals 10 s after their satellite's L1-band signal was lost stop being tracked (R380, R407). -/
def State.gnssSweep (s : State) : State :=
  let stay := fun x : GnssTrack => !x.l5 || s.gnss.hasL1 x.sat || s.l1Recent x.sat
  let n := s.gnss.tracks.countP fun x => !stay x
  let s := s.onGnss fun g => { g with tracks := g.tracks.filter stay, l1Gone := g.l1Gone.filter fun p => !s.past p.2 (10 * secU) }
  if n = 0 then s else s.gnssCount 3 n

/-- The receiver knows time to 1 ms: by its own solution, or by the Metronome (R386; log 61). -/
def State.knowsTime (s : State) : Bool :=
  (match s.gnss.timeUnc with | some u => decide (u ≤ 10 ^ 9) | none => false) || (s.timeValid && decide (s.teNow 0 ≤ 10 ^ 9))

/-- The receiver holds a position: the fixed one or a NAV solution, taken to be within 100 km (R386; log 61). -/
def Gnss.knowsPos (g : Gnss) : Bool := decide (g.fixed.fix = 2) || decide (g.nav.fix ≠ 0)

/-- The signal belongs to a constellation and band in use; every other signal is ignored (R380, R401). -/
def Gnss.receives (g : Gnss) (x : GnssTrack) : Bool :=
  decide (g.const / 2 ^ x.sat.const.val % 2 = 1) && (if x.l5 then decide (g.bands / 2 % 2 = 1) else decide (g.bands % 2 = 1))

/-- A search can find the signal: an L5-band signal by handover from its satellite's L1-band signal; L1 C/A always; E1-C
and B1C by reacquisition, aided once time and position are known, cold only while no L1 C/A signal has been found
since SEARCH was entered (R380, R385, R386; log 61). -/
def State.searches (s : State) (x : GnssTrack) : Bool :=
  if x.l5 then s.gnss.hasL1 x.sat || s.l1Recent x.sat
  else x.sat.l1ca || s.l1Recent x.sat || (s.knowsTime && s.gnss.knowsPos) || !s.gnss.caFound

/-- A free channel can take the signal. -/
def State.canTrack (s : State) (x : GnssTrack) : Bool :=
  decide (s.gnss.rstate ≠ .off) && decide (s.gnss.rstate ≠ .start) && s.gnss.receives x && s.searches x &&
  !s.gnss.tracks.contains x && decide (s.gnss.tracks.length < 96)

/-- SEARCH is left: to TIMING with a fixed position in force, else to NAV (R383). -/
def Gnss.leaveSearch (g : Gnss) : Gnss :=
  { g with rstate := if g.fixedNow then .timing else .nav, lostFrom := none, pos60 := [] }

/-- ACQUISITION_FOUND: a channel starts tracking; `solved`: with it SEARCH has a position, or one usable satellite with
valid time for a fixed position (R383, R385). -/
def execAcquisitionFound (t : Nat) (x : GnssTrack) (solved : Bool) (s : State) : Res :=
  let s := (s.advance t).gnssSweep
  if !s.canTrack x then done s
  else
    let s := (s.onGnss fun g =>
      { g with tracks := g.tracks ++ [x], l1Gone := if x.l5 then g.l1Gone else g.l1Gone.filter fun p => decide (p.1 ≠ x.sat),
               caFound := g.caFound || (!x.l5 && x.sat.l1ca) }).gnssCount 2
    if s.gnss.rstate = .search ∧ solved then done (s.onGnss Gnss.leaveSearch) else done s

/-- SIGNAL_LOSS: a channel stops tracking (R380, R407). -/
def execSignalLoss (t : Nat) (x : GnssTrack) (s : State) : Res :=
  let s := s.advance t
  if !s.gnss.tracks.contains x then done s.gnssSweep
  else
    done ((s.onGnss fun g =>
      { g with tracks := g.tracks.filter (fun y => decide (y ≠ x)),
               l1Gone := if x.l5 then g.l1Gone else g.l1Gone ++ [(x.sat, s.now)] }).gnssCount 3).gnssSweep

/-- Satellites of constellation `c` that a channel tracks. -/
def Gnss.sats (g : Gnss) (c : Fin 4) : Nat := ((g.tracks.map GnssTrack.sat).eraseDups.countP fun v => decide (v.const = c))

/-- TRACKED (R403). -/
def Gnss.tracked (g : Gnss) : Word := pack [(g.sats 0, 31, 24), (g.sats 1, 23, 16), (g.sats 2, 15, 8), (g.sats 3, 7, 0)]

/-- SATELLITES_LOST: too few usable satellites for 10 s: back to SEARCH (R383). -/
def execSatellitesLost (t : Nat) (s : State) : Res :=
  let s := s.advance t
  match s.gnss.lostFrom with
  | some f =>
    if (s.gnss.rstate = .nav ∨ s.gnss.rstate = .timing) ∧ s.past f (10 * secU) then
      done (s.onGnss fun g => { g with rstate := .search, lostFrom := none, caFound := false, markValid := false, timeUnc := none })
    else done s
  | none => done s

/-- GNSS_FRONT_END: the internal test signal is not tracked for 1 s (R457). -/
def execGnssFrontEnd (t : Nat) (s : State) : Res :=
  let s := s.advance t
  if s.gnss.rstate = .off ∨ s.gnss.rstate = .start then done s else done (s.report 0x3D0 .contained 0x41)

/-! ### Antenna supervision (R382) -/

/-- Codes of ANT (R382). -/
def Ant.code : Ant → Nat | .normal => 0 | .antOpen => 1 | .short => 2 | .unsupervised => 3

/-- ANT changes: logged, never a fault record (R382, R478). -/
def State.antTo (s : State) (a : Ant) : State :=
  let old := s.gnss.ant
  if old = a then s
  else (s.onGnss fun g => { g with ant := a, antFrom := s.now }).log 0x09 0x01 0 [wd (old.code * 256 + a.code)]

/-- The supply is supervised. -/
def Gnss.supervised (g : Gnss) : Bool := g.en && g.biasEn

/-- ANT_OPEN: below 2 mA for 1 s (R382). -/
def execAntOpen (t : Nat) (ma : Nat) (s : State) : Res :=
  let s := s.advance t
  if s.gnss.supervised ∧ s.gnss.biasOn ∧ ma < 2 ∧ s.gnss.ant ≠ .antOpen then
    done (((s.onGnss fun g => { g with antMa := ma, snap := { g.snap with antFault := g.snap.antFault || g.snap.capTag.isSome } }).antTo .antOpen).gnssCount 10)
  else done s

/-- ANT_SHORT: above 100 mA, limited to 120 mA (R382). -/
def execAntShort (t : Nat) (s : State) : Res :=
  let s := s.advance t
  if s.gnss.supervised ∧ s.gnss.biasOn ∧ s.gnss.ant ≠ .short then
    done (((s.onGnss fun g => { g with antMa := 120, snap := { g.snap with antFault := g.snap.antFault || g.snap.capTag.isSome } }).antTo .short).gnssCount 9)
  else done s

/-- ANT_SHORT_OFF: 10 ms into a short, or into a retry that meets it again, the supply is switched off (R382). -/
def execAntShortOff (t : Nat) (s : State) : Res :=
  let s := s.advance t
  if s.gnss.supervised ∧ s.gnss.ant = .short ∧ s.gnss.biasOn ∧ s.past s.gnss.antFrom (10 * msU) then
    done (s.onGnss fun g => { g with biasOn := false, antMa := 0, antFrom := s.now })
  else done s

/-- ANT_SHORT_RETRY: 1 s after the supply went off it is driven again for 10 ms (R382). -/
def execAntShortRetry (t : Nat) (stillShort : Bool) (s : State) : Res :=
  let s := s.advance t
  if s.gnss.supervised ∧ s.gnss.ant = .short ∧ !s.gnss.biasOn ∧ s.past s.gnss.antFrom secU then
    done (s.onGnss fun g => { g with biasOn := true, antFrom := s.now, antMa := if stillShort then 120 else g.antMa })
  else done s

/-- ANT_NORMAL: 2 to 100 mA for 1 s (R382). -/
def execAntNormal (t : Nat) (ma : Nat) (s : State) : Res :=
  let s := s.advance t
  if s.gnss.supervised ∧ s.gnss.biasOn ∧ 2 ≤ ma ∧ ma ≤ 100 then
    done ((s.onGnss fun g => { g with antMa := ma }).antTo .normal)
  else done s

/-! ### The mark and its checks (R387 to R395) -/

/-- Delay removed from G in ps: that of the L1 band, DELAY and its group delay; with both bands less the share of the
L5-band excess in the dual-frequency combination, the squared carriers being as 154 to 115 (R381, R391; log 27). -/
def Gnss.pathPs (g : Gnss) (dual : Bool) : Int :=
  let d := g.group.getD {}
  (g.delay : Int) + d.l1 - (if dual then rdiv ((g.bandDiff + d.l5 - d.l1) * 13225) 10491 else 0)

/-- The signals of the second that a channel tracks (R384). -/
def Gnss.heard (g : Gnss) (m : MarkIn) : List SigIn := m.sigs.filter fun x => g.tracks.contains x.track

/-- Usable signals: the satellite above ELEV_MASK, the C/N0 above CN0_MASK (R384). -/
def Gnss.usable (g : Gnss) (m : MarkIn) : List SigIn :=
  (g.heard m).filter fun x => decide ((g.elevMask : Int) < x.elev) && decide (10 * g.cn0Mask < x.cn0)

/-- Satellites of constellation `c` among signals. -/
def satsIn (l : List SigIn) (c : Fin 4) : Nat := (l.map fun x => x.track.sat).eraseDups.countP fun v => decide (v.const = c)

/-- Satellites among signals. -/
def satsAll (l : List SigIn) : Nat := (l.map fun x => x.track.sat).eraseDups.length

/-- Signals' satellites laid out as TRACKED (R403). -/
def satsWord (l : List SigIn) : Word := pack [(satsIn l 0, 31, 24), (satsIn l 1, 23, 16), (satsIn l 2, 15, 8), (satsIn l 3, 7, 0)]

/-- A residual beyond max(5 x solution rms, 30 ns) (R392). -/
def residualBad (l : List SigIn) (x : SigIn) : Bool :=
  decide (30000 < x.residual.natAbs) &&
  decide (25 * l.foldl (fun a y => a + y.residual.natAbs ^ 2) 0 < l.length * x.residual.natAbs ^ 2)

/-- The L1 ionosphere delay of a satellite tracked in both bands lies outside 0 to 300 ns, or has changed by more than
10 ns in the second (R392). -/
def Gnss.ionoBad (g : Gnss) (m : MarkIn) (v : GnssSat) : Bool :=
  match m.iono.lookup v with
  | none => false
  | some d =>
    g.hasL1 v && g.tracks.contains { sat := v, l5 := true } && (decide (d < 0) || decide (300000 < d) ||
      match g.ionoLast.lookup v with | some o => decide (10000 < (d - o).natAbs) | none => false)

/-- CHECKED: at least 4 usable signals (R392). -/
def Gnss.checks (g : Gnss) (m : MarkIn) : Bool := decide (4 ≤ (g.usable m).length)

/-- Signals that the residual and ionosphere checks exclude for the second (R392). -/
def Gnss.excluded (g : Gnss) (m : MarkIn) : List SigIn :=
  if g.checks m then (g.usable m).filter fun x => residualBad (g.usable m) x || g.ionoBad m x.track.sat else []

/-- Usable signals that those checks leave. -/
def Gnss.remaining (g : Gnss) (m : MarkIn) : List SigIn := (g.usable m).filter fun x => !(g.excluded m).contains x

/-- The constellation that G is realised from: PRIMARY, or while it has no satellite the first of GPS, Galileo and
BeiDou that has one (R388; log 61). -/
def Gnss.primaryNow (g : Gnss) (m : MarkIn) : Fin 4 :=
  ((Fin.ofNat 4 g.primary :: [0, 1, 2]).find? fun c => decide (0 < satsIn (g.remaining m) c)).getD (Fin.ofNat 4 g.primary)

/-- The constellations checked, those of at least 2 satellites, with their biases (R392). -/
def Gnss.biases (g : Gnss) (m : MarkIn) : List (Fin 4 × Int) :=
  (List.finRange 4).filterMap fun c =>
    match m.bias.lookup c with
    | some b => if 2 ≤ satsIn (g.remaining m) c then some (c, b) else none
    | none => none

/-- Two biases differ by more than ISB_LIMIT (R392). -/
def Gnss.apart (g : Gnss) (a b : Int) : Bool := decide (g.isbLimit * 1000 < (a - b).natAbs)

/-- A constellation differs from the primary by more than ISB_LIMIT (R392). -/
def Gnss.disagree (g : Gnss) (m : MarkIn) : Bool :=
  g.checks m &&
  match m.bias.lookup (g.primaryNow m) with
  | some b => (g.biases m).any fun p => decide (p.1 ≠ g.primaryNow m) && g.apart p.2 b
  | none => false

/-- The constellation excluded: of three or more, the one that disagrees with all others while those agree (R392). -/
def Gnss.oddOne (g : Gnss) (m : MarkIn) : Option (Fin 4) :=
  let l := g.biases m
  if g.disagree m ∧ 3 ≤ l.length then
    (l.find? fun p => l.all fun q => decide (q.1 = p.1) || (g.apart p.2 q.2 && l.all fun r => decide (r.1 = p.1) || !g.apart q.2 r.2)).map
      (·.1)
  else none

/-- Signals used in the solution (R384, R392). -/
def Gnss.usedSigs (g : Gnss) (m : MarkIn) : List SigIn :=
  (g.remaining m).filter fun x => decide (g.oddOne m ≠ some x.track.sat.const)

/-- SIGNALS and CONSTELLATION of the second, as their bits of CAUSES (R392, R403). -/
def Gnss.secondCauses (g : Gnss) (m : MarkIn) : BitVec 4 :=
  (if (g.usable m).length < 3 * (g.excluded m).length then 1#4 else 0) ||| (if g.disagree m ∧ g.oddOne m = none then 2#4 else 0)

/-- The satellites suffice for a time solution: one with the fixed position held in TIMING, else 4 (R383). -/
def Gnss.solvesTime (g : Gnss) (m : MarkIn) : Bool :=
  decide ((if g.rstate = .timing then 1 else 4) ≤ satsAll (g.usedSigs m))

/-- The NAV position of the second: of at least 4 satellites, in TIMING of at least 5 usable signals (R383, R394). -/
def Gnss.navOf (g : Gnss) (m : MarkIn) : Option Fix :=
  if 4 ≤ satsAll (g.usedSigs m) ∧ (g.rstate ≠ .timing ∨ 5 ≤ (g.usable m).length) then
    m.nav.map fun p => { p with fix := 1, sats := satsAll (g.usedSigs m), dual := (g.usedSigs m).any (·.track.l5) }
  else none

/-- A number put in its place of a rising list. -/
def rankIn (x : Nat) : List Nat → List Nat
  | [] => [x]
  | y :: l => if x ≤ y then x :: y :: l else y :: rankIn x l

/-- The median, of an even number the mean of the middle two, rounded down; 0 of none (R403; log 61). -/
def median (l : List Nat) : Nat :=
  let r := l.foldr rankIn []
  (r.getD ((r.length - 1) / 2) 0 + r.getD (r.length / 2) 0) / 2

/-- Marks of the prediction's window: ticks between 1,088 s and 64 s before `k` (R393). -/
def predWindow (k : Nat) (l : List PredMark) : List PredMark :=
  l.filter fun p => decide (k ≤ p.k + 1088 * secU) && decide (p.k + 64 * secU ≤ k)

/-- G less its least-squares line against Kettle time, at tick `k` (R393). -/
def predDev (w : List PredMark) (k : Nat) (g : Int) : Int :=
  match w with
  | [] => 0
  | p0 :: _ =>
    let x := fun p : PredMark => (p.k : Int) - p0.k
    let y := fun p : PredMark => (p.g - p0.g) - x p
    let sum := fun f : PredMark → Int => w.foldl (fun a p => a + f p) 0
    let n : Int := w.length
    let sx := sum x
    let sy := sum y
    let den := n * sum (fun p => x p * x p) - sx * sx
    let xk := (k : Int) - p0.k
    let yk := (g - p0.g) - xk
    if den = 0 then yk - rdiv sy w.length
    else
      let slope := n * sum (fun p => x p * y p) - sx * sy
      rdiv (yk * n * den - sy * den - slope * (n * xk - sx)) (n * den).toNat

/-- Limit of the time check in ps: JUMP_LIMIT and the Kettle terms over the seconds from the window's newest mark
(R393). -/
def State.jumpPs (s : State) (w : List PredMark) (k : Nat) : Nat :=
  match w.getLast? with
  | none => s.gnss.jumpLimit * 1000
  | some p =>
    let gap := (k - p.k) / secU
    let (ud, uk, sk) := s.modelUnc s.age.model
    let tc := rdiv (w.foldl (fun a p => a + p.temp) 0) w.length
    teHold 0 uk ud sk (s.gnss.jumpLimit * 1000) gap ((s.age.caseTemp - tc).natAbs * gap) 0 0

/-- The time check of a mark: PRED_READY, PRED_DEV, TIME_JUMP; an accepted mark joins the history (R393). -/
def State.timeCheck (k : Nat) (g : Int) (s : State) : State × Bool :=
  if !s.kettle.warm then (s.onGnss fun x => { x with predReady := false, predDev := 0 }, false)
  else
    let s := match s.gnss.pred.getLast? with
      | some p => if p.k + 86400 * secU < k then predRestart s else s
      | none => s
    let w := predWindow k s.gnss.pred
    let ready := decide (64 ≤ w.length)
    let dev := if ready then predDev w k g else 0
    let jump := ready && decide (s.jumpPs w k * 65536 < dev.natAbs * 1000)
    let keep := s.gnss.pred.filter fun p => decide (k ≤ p.k + 1088 * secU)
    (s.onGnss fun x =>
      { x with predReady := ready, predDev := satS 32 (rdiv (dev * 1000) 65536),
               pred := if jump then x.pred else keep ++ [{ k := k, g := g, temp := s.age.caseTemp }] }, jump)

/-- The mean of the last 60 positions in TIMING lies beyond POS_LIMIT of the fixed position, horizontally or vertically
(R394). -/
def Gnss.drifted (g : Gnss) : Bool :=
  if g.rstate ≠ .timing ∨ g.pos60.length < 60 then false
  else
    let mean := fun f : Int × Int × Int → Int => rdiv (g.pos60.foldl (fun a p => a + f p) 0) 60
    let (x, y, z) := (mean (·.1), mean (·.2.1), mean (·.2.2))
    let dv := ((geodetic x y z).2.2 - (geodetic g.fixed.x g.fixed.y g.fixed.z).2.2).natAbs
    let dd := (x - g.fixed.x).natAbs ^ 2 + (y - g.fixed.y).natAbs ^ 2 + (z - g.fixed.z).natAbs ^ 2
    let lim := g.posLimit * 1000
    decide (lim < dv) || decide (lim ^ 2 < dd - dv ^ 2)

/-- SPOOF_ALARM sets or clears: logged with the causes, ALARM_SINCE (R395, R478). -/
def State.spoofTo (s : State) (on : Bool) : State :=
  (s.onGnss fun g => { g with spoof := on, alarmSince := s.mt }).log 0x09 0x02 0
    [wd (on.toNat * 2 ^ 31 + s.gnss.causes.toNat * 2 ^ 27)]

/-- One judgement per second: exclusions, causes, the alarm, CLEAR_TIME (R392, R395). -/
def State.judgeSecond (m : MarkIn) (jump drift : Bool) (s : State) : State :=
  let now := s.gnss
  let causes := now.secondCauses m ||| (if jump then 8#4 else 0) ||| (if drift then 4#4 else 0)
  let bad := jump || drift
  let sets := bad && !s.gnss.spoof
  let ever := s.gnss.spoof || decide (s.gnss.alarmSince ≠ 0)
  let s := s.onGnss fun g =>
    { g with causes := causes, checked := now.checks m, consistent := now.checks m && decide (causes = 0),
             seen := if sets then causes else if ever then g.seen ||| causes else g.seen,
             clean := if bad then 0 else satU 16 (g.clean + 1), constExcl := match now.oddOne m with | some c => 2 ^ c.val | none => 0 }
  let s := (s.gnssCount 4 (now.excluded m).length).gnssCount 5 (now.oddOne m).isSome.toNat
  let s := if now.checks m && decide (causes ≠ 0) then s.gnssCount 8 else s
  if sets then
    let s := s.spoofTo true
    let s := if jump then s.gnssCount 6 else s
    if drift then s.gnssCount 7 else s
  else s

/-- SPOOF_ALARM_CLEAR: CLEAR_TIME whole seconds from the first without a cause (R395). -/
def execSpoofAlarmClear (t : Nat) (s : State) : Res :=
  let s := s.advance t
  if s.gnss.spoof ∧ !s.gnss.latch ∧ s.gnss.clearTime < s.gnss.clean then done (gnssExt (s.spoofTo false)) else done s

/-- The receiver's view of the second: satellites, levels, what is lost (R383, R388, R389, R403). -/
def State.gnssSees (m : MarkIn) (s : State) : State :=
  s.onGnss fun g =>
    let few := decide (satsAll (g.usable m) < if g.rstate = .nav then 4 else 1)
    let l := g.usedSigs m
    { g with used := satsWord l, cn0 := satU 16 (median ((g.heard m).map (·.cn0))), almanacs := m.almanacs,
             dual := l.any (·.track.l5), primaryLost := !l.isEmpty && decide (satsIn l (Fin.ofNat 4 g.primary) = 0),
             lostFrom := if few then some (g.lostFrom.getD s.now) else none }

/-- A second of a survey: counted in NAV, without an alarm and with no failed consistency check (R390, R395). -/
def State.surveySecond (m : MarkIn) (s : State) : State :=
  match s.gnss.survey, s.gnss.navOf m with
  | some v, some p =>
    if s.gnss.rstate = .nav ∧ !s.gnss.spoof ∧ !(s.gnss.checked && !s.gnss.consistent) then
      let w : Survey :=
        { v with n := v.n + 1, sx := v.sx + p.x, sy := v.sy + p.y, sz := v.sz + p.z, sxx := v.sxx + p.x.natAbs ^ 2,
                 syy := v.syy + p.y.natAbs ^ 2, szz := v.szz + p.z.natAbs ^ 2 }
      s.onGnss fun g => { g with survey := some w }
    else s
  | _, _ => s

/-- The NAV solution of the second: kept, and in TIMING for the position check (R394, R404). -/
def State.navSecond (m : MarkIn) (s : State) : State :=
  match s.gnss.navOf m with
  | none => s
  | some p =>
    s.onGnss fun g =>
      { g with nav := { p with at_ := s.mt },
               pos60 := if g.rstate = .timing then (g.pos60 ++ [(p.x, p.y, p.z)]).drop (g.pos60.length + 1 - 60) else g.pos60 }

/-- Broadcast UTC_OFFSET and leap schedule become source 1 of R126; a schedule that breaks R127 is ignored and logged
(R127, R388). -/
def State.gnssUtc (m : MarkIn) (s : State) : State :=
  match m.utc with
  | some u =>
    let v : TimeSrc := { utc := some u, event := m.event, next := if m.event = 0 then 0 else u + m.leap }
    let n := s.time.gnss.receive v
    (if n = s.time.gnss then s else utcUpdate (s.onTime fun x => { x with gnss := n })).logBad v.bad s
  | none => s

/-- The GNSS record is written when what it keeps has changed, ephemerides at most once every 10 min (R397). -/
def State.gnssSave (old : Gnss) (utc : TimeSrc) (s : State) : State :=
  if s.gnss.nav ≠ old.nav ∨ s.gnss.fixed ≠ old.fixed ∨ s.gnss.almanacs ≠ old.almanacs ∨ s.time.gnss ≠ utc ∨
     (s.gnss.timeUnc.isSome ∧ s.past s.gnss.ephAt (600 * secU)) then
    (s.onGnss fun g => { g with ephAt := s.now }).fwWrite 0x0040
  else s

/-- The time M of a tick: the Metronome, or while it is not valid the receiver's count of Kettle time from G of its first
mark (R387). -/
def State.markBase (k : Nat) (g : Int) (s : State) : Int × State :=
  if s.timeValid then (s.metroAt k, s.onGnss fun x => { x with countBase := none })
  else match s.gnss.countBase with
    | some b => (b + k, s)
    | none => (g, s.onGnss fun x => { x with countBase := some (g - k) })

/-- What a second ends with: the group delays it measured take force for the next mark, and a solution, or one usable
satellite with valid time for a fixed position, ends SEARCH (R381, R383; log 61). -/
def State.gnssAfter (m : MarkIn) (s : State) : State :=
  let s := match m.group with | some d => s.takeGroup d | none => s
  let g := s.gnss
  let s := s.onGnss fun g => { g with ionoLast := m.iono }
  if g.rstate = .search ∧ (if g.fixedNow then 1 ≤ satsAll (g.usedSigs m) ∧ s.timeValid else (g.navOf m).isSome) then
    s.onGnss Gnss.leaveSearch
  else s

/-- GNSS_MARK: one Metronome second of the receiver (R387 to R395). -/
def execGnssMark (t : Nat) (m : MarkIn) (s : State) : Res :=
  let s := (s.advance t).gnssSweep
  let old := s.gnss
  let utc := s.time.gnss
  if old.rstate = .off ∨ old.rstate = .start then done s
  else
    let s := s.gnssSees m
    let on := old.rstate = .nav ∨ old.rstate = .timing
    match (if on && s.gnss.solvesTime m then m.g else none) with
    | none =>
      let s := ((s.onGnss fun g => { g with markValid := false, timeUnc := none }).navSecond m).gnssCount 1
      let s := gnssExt (s.judgeSecond (if on then m else { m with sigs := [] }) false s.gnss.drifted)
      done ((s.gnssAfter m).gnssSave old utc)
    | some raw =>
      let g := raw + ofPs (s.gnss.pathPs s.gnss.dual)
      let s := (s.onGnss fun x => { x with markValid := true, timeUnc := some (satU 32 m.unc), uncLast := satU 32 m.unc }).gnssCount 0
      let s := s.navSecond m
      let (s, jump) := s.timeCheck m.tick g
      let s := gnssExt (s.judgeSecond m jump s.gnss.drifted)
      let s := (s.surveySecond m).gnssUtc m
      let (base, s) := s.markBase m.tick g
      done (((refSample refGnss m.tick (base - g) s).gnssAfter m).gnssSave old utc)

/-! ### GNSS_CONFIG and GNSS_CABLE_DELAY -/

/-- GNSS_CONFIG acceptance (R401). -/
def gnssConfigChecks (_ : Bool) (a : Args) (_ : State) : Checks :=
  let p := af a 0 25 24
  [cond (decide (p = 3) || decide (af a 0 19 16 / 2 ^ p % 2 = 0)) (badArg 0 24 0x0001),
   cond (!(decide (af a 0 13 12 = 1) || decide (af a 0 13 12 = 3))) (badArg 0 12 0x0002),
   rsv a 0 23 20 0x0003, rng a 0 19 16 1 15 0x0003, rsv a 0 15 14 0x0003, rsv a 0 11 0 0x0003,
   rng a 1 31 24 0 60 0x0003, rng a 1 23 16 20 45 0x0003, rng a 1 15 0 60 65535 0x0003, rng a 2 31 0 10 100000 0x0003,
   rng a 3 31 16 5 10000 0x0003, rng a 3 15 0 5 10000 0x0003]

/-- The supply follows ENABLE and BIAS_EN (R382). -/
def State.biasUpd (s : State) : State :=
  let on := s.gnss.supervised
  if on then
    (if s.gnss.ant = .unsupervised then (s.onGnss fun g => { g with biasOn := true }).antTo .normal else s)
  else (s.onGnss fun g => { g with biasOn := false, antMa := 0 }).antTo .unsupervised

/-- The receiver is powered up or down (R383, R401). -/
def State.gnssPower (old : Bool) (s : State) : State :=
  if s.gnss.en = old then s
  else if s.gnss.en then refOn refGnss (s.onGnss fun g => { g with rstate := .start, startFrom := s.now })
  else
    let s := s.gnssEnd
    gnssExt <| refOff refGnss (s.onGnss fun g =>
      { g with rstate := .off, checked := false, consistent := false, tracks := [],
               l1Gone := [], caFound := false, ionoLast := [], used := 0, markValid := false, timeUnc := none, lostFrom := none,
               pos60 := [], testLost := none, survey := none, snap := { g.snap with capTag := none, procTag := none } })

/-- CLEAR: the alarm ends and the prediction restarts; the causes are judged afresh (R395). -/
def gnssClear (s : State) : State :=
  let s := s.onGnss fun g => { g with causes := 0, clean := 0 }
  gnssExt (predRestart (if s.gnss.spoof then s.spoofTo false else s))

/-- GNSS_CONFIG at its apply edge: signals of constellations and bands no longer in use are no longer tracked, which
is no loss (R380, R401; log 61). -/
def applyGnssConfig (a : Args) (s : State) : State :=
  let was := s.gnss.en
  let s := s.onGnss fun g =>
    { g with en := ab a 0 31, biasEn := ab a 0 30, bias5 := ab a 0 29, posFixed := ab a 0 28, latch := ab a 0 27,
             primary := af a 0 25 24, const := af a 0 19 16, bands := af a 0 13 12,
             elevMask := dflt a 1 (af a 1 31 24) g.elevMask, cn0Mask := dflt a 1 (af a 1 23 16) g.cn0Mask,
             clearTime := dflt a 1 (af a 1 15 0) g.clearTime, jumpLimit := dflt a 2 (af a 2 31 0) g.jumpLimit,
             posLimit := dflt a 3 (af a 3 31 16) g.posLimit, isbLimit := dflt a 3 (af a 3 15 0) g.isbLimit }
  let s := if ab a 0 26 then gnssClear s else s
  let s := s.onGnss fun g => { g with tracks := g.tracks.filter g.receives }
  gnssMode (s.gnssPower was).biasUpd

/-- RSTATE codes (R383). -/
def RState.code : RState → Nat | .off => 0 | .start => 1 | .search => 2 | .nav => 3 | .timing => 4

/-- Word 0 of GNSS_STATUS (R403). -/
def State.gnssWord (s : State) : Word :=
  let g := s.gnss
  pack [(g.rstate.code, 31, 29), pbit g.survey.isSome 28, pbit g.noFixed 27, pbit g.spoof 26,
        pbit (decide (g.ant = .antOpen) || decide (g.ant = .short)) 25, pbit g.consistent 24, pbit g.checked 23,
        pbit g.markValid 22, pbit g.dual 21, pbit g.primaryLost 20, pbit g.predReady 19, pbit g.almanacs 18,
        (g.ant.code, 17, 16), (g.tracks.length, 6, 0)]

/-- GNSS_CONFIG unstaged (R401). -/
def gnssConfigBody (_ : Fin 48) (a : Args) (s : State) : State × Reply :=
  let s := applyGnssConfig a s
  (s, .ok [s.gnssWord])

/-- GNSS_CONFIG (R401). -/
def execGnssConfig (t : Nat) (tag : Fin 48) (s : State) : Res :=
  runCmd .gnssConfig tag gnssConfigChecks gnssConfigBody (s.advance t)

/-- GNSS_CABLE_DELAY acceptance (R402). -/
def gnssCableChecks (_ : Bool) (a : Args) (_ : State) : Checks :=
  [rng a 0 31 0 0 10000000 0x0001, srng a 1 31 0 (-10000) 10000 0x0001]

/-- GNSS_CABLE_DELAY at its apply edge: the histories of candidate 64 and of the prediction move with it (R391, R409). -/
def applyGnssCable (a : Args) (s : State) : State :=
  let old := s.gnss.pathPs s.gnss.dual
  let s := s.onGnss fun g => { g with delay := (arg a 0).toNat, bandDiff := as32 a 1 }
  let dv := ofPs (s.gnss.pathPs s.gnss.dual) - ofPs old
  (s.onGnss fun g => { g with pred := g.pred.map fun p => { p with g := p.g + dv } }).candMod refGnss (Cand.delayed dv 0)

/-- GNSS_CABLE_DELAY unstaged (R402). -/
def gnssCableBody (_ : Fin 48) (a : Args) (s : State) : State × Reply :=
  let s := applyGnssCable a s
  (s, .ok [wd s.gnss.delay, wd (twos 32 s.gnss.bandDiff)])

/-- GNSS_CABLE_DELAY (R402). -/
def execGnssCableDelay (t : Nat) (tag : Fin 48) (s : State) : Res :=
  runCmd .gnssCableDelay tag gnssCableChecks gnssCableBody (s.advance t)

/-! ### GNSS_STATUS and GNSS_POSITION -/

/-- CLEAR_LEFT (R403). -/
def Gnss.clearLeft (g : Gnss) : Nat := if g.spoof && !g.latch then g.clearTime - (g.clean - 1) else 0

/-- GNSS_STATUS (R403). -/
def gnssStatusBody (_ : Fin 48) (_ : Args) (s : State) : State × Reply :=
  let g := s.gnss
  (s, .ok ([s.gnssWord, pack [(g.causes.toNat, 31, 28), (g.seen.toNat, 27, 24), (g.constExcl, 19, 16), (g.clearLeft, 15, 0)],
            g.tracked, g.used, pack [(g.cn0, 31, 16), (g.antMa, 15, 0)], wd (g.timeUnc.getD 0xFFFFFFFF),
            wd (twos 32 (if g.predReady then g.predDev else 0))] ++ time96 g.alarmSince))

/-- GNSS_STATUS (R403). -/
def execGnssStatus (t : Nat) (tag : Fin 48) (s : State) : Res :=
  runCmd .gnssStatus tag (fun _ _ _ => []) gnssStatusBody (s.advance t)

/-- A signed 32-bit word. -/
def s32 (v : Int) : Word := wd (twos 32 (satS 32 v))

/-- The position record; all zero but for FIX when there is none (R404). -/
def Fix.words (f : Fix) : List Word :=
  if f.fix = 0 then List.replicate 15 0
  else
    let held := decide (f.fix = 2)
    [pack [(f.fix, 31, 30), pbit (held && f.surveyed) 29, pbit f.dual 28, (if held then 0 else min 96 f.sats, 15, 8),
           (if held then 0 else min 255 f.pdop, 7, 0)],
     s32 f.lat, s32 f.lon, s32 f.height, wd (satU 32 f.hUnc), wd (satU 32 f.vUnc)] ++ s64 f.x ++ s64 f.y ++ s64 f.z ++ time96 f.at_

/-- GNSS_POSITION (R404). -/
def gnssPositionBody (_ : Fin 48) (a : Args) (s : State) : State × Reply :=
  (s, .ok (if ab a 0 0 then s.gnss.fixed else s.gnss.nav).words)

/-- GNSS_POSITION (R404). -/
def execGnssPosition (t : Nat) (tag : Fin 48) (s : State) : Res :=
  runCmd .gnssPosition tag (fun _ a _ => [rsv a 0 31 1]) gnssPositionBody (s.advance t)

/-! ### GNSS_SURVEY (R390, R405) -/

/-- A fixed position from its coordinates. -/
def fixAt (x y z : Int) (surveyed : Bool) (hUnc vUnc at_ : Nat) : Fix :=
  let (lat, lon, h) := geodetic x y z
  { fix := 2, surveyed := surveyed, lat := lat, lon := lon, height := h, hUnc := hUnc, vUnc := vUnc, x := x, y := y, z := z, at_ := at_ }

/-- A new fixed position: held in NVS; more than 1 m from the old one the prediction restarts (R390, R397). -/
def State.setFixed (f : Fix) (s : State) : State :=
  let o := s.gnss.fixed
  let far := decide (o.fix = 2) && decide (1000 ^ 2 < (f.x - o.x).natAbs ^ 2 + (f.y - o.y).natAbs ^ 2 + (f.z - o.z).natAbs ^ 2)
  let s := if far then predRestart s else s
  gnssMode ((s.onGnss fun g => { g with fixed := f }).fwWrite 0x0040)

/-- 10 km in mm. -/
def tenKm : Nat := 10000000

/-- GNSS_SURVEY acceptance (R405). -/
def gnssSurveyChecks (_ : Bool) (a : Args) (s : State) : Checks :=
  let act := af a 0 31 30
  let set := decide (act = 1)
  let start := decide (act = 0)
  [cond ((start || set) && decide (s.gnss.rstate = .off)) (wrongState 0x0002),
   rng a 0 31 30 0 2, rsv a 0 29 0,
   cond (start && (rng a 1 31 0 60 86400).1) (badArg 1 0), cond (start && (rng a 2 31 0 0 100000).1) (badArg 2 0),
   cond (set && decide (a.length < 7)) (badArg 0xFF 0 0x0003),
   cond (set && decide (tenKm < (geodetic (as64 a 1) (as64 a 3) (as64 a 5)).2.2.natAbs)) (badArg 1 0 0x0003),
   cond (set && (rng a 7 31 0 1 100000).1) (badArg 7 0),
   cond (start && s.gnss.survey.isSome) (busyRes 0x0001)]

/-- GNSS_SURVEY's immediate part (R405). -/
def gnssSurveyBody (i : Fin 48) (a : Args) (s : State) : State × Reply :=
  if af a 0 31 30 = 0 then
    let v : Survey := { Survey.init with tag := i, from_ := s.now, duration := dflt a 1 (arg a 1).toNat 3600, target := (arg a 2).toNat }
    (gnssMode (s.onGnss fun g => { g with survey := some v }), .deferred)
  else if af a 0 31 30 = 1 then
    let u := dflt a 7 (arg a 7).toNat 1000
    let s := s.setFixed (fixAt (as64 a 1) (as64 a 3) (as64 a 5) false u u s.mt)
    (s, .ok s.gnss.fixed.words)
  else (gnssMode ((s.onGnss fun g => { g with fixed := {} }).fwWrite 0x0040), .ok [])

/-- GNSS_SURVEY (R405). -/
def execGnssSurvey (t : Nat) (tag : Fin 48) (s : State) : Res :=
  runCmd .gnssSurvey tag gnssSurveyChecks gnssSurveyBody (s.advance t)

/-- The 1 sigma uncertainty of the mean of `n` values with sum `sm` and sum of squares `sq` is at most `tgt` mm (R390). -/
def meanWithin (n : Nat) (sm : Int) (sq tgt : Nat) : Bool := decide (n * sq ≤ sm.natAbs ^ 2 + tgt ^ 2 * n ^ 2 * (n - 1))

/-- The survey has met its TARGET. -/
def Survey.met (v : Survey) : Bool :=
  decide (v.target ≠ 0) && decide (60 ≤ v.n) && meanWithin v.n v.sx v.sxx v.target && meanWithin v.n v.sy v.syy v.target &&
  meanWithin v.n v.sz v.szz v.target

/-- SURVEY_END: at DURATION or TARGET; the mean becomes the fixed position, its stated uncertainties free values (R390,
R405; log 28). -/
def execSurveyEnd (t : Nat) (s : State) : Res :=
  let s := s.advance t
  match s.gnss.survey with
  | none => done s
  | some v =>
    if s.past v.from_ (v.duration * secU) ∨ v.met then
      let s := s.onGnss fun g => { g with survey := none }
      if v.n < 60 then done (gnssMode (s.holdFail v.tag (timeoutF 0x0004)))
      else
        let (k, s) := s.draw
        let (j, s) := s.draw
        let s := s.setFixed (fixAt (rdiv v.sx v.n) (rdiv v.sy v.n) (rdiv v.sz v.n) true (Config.freeWord k).toNat (Config.freeWord j).toNat s.mt)
        done (s.holdOk v.tag s.gnss.fixed.words)
    else done s

/-! ### GNSS_SNAPSHOT (R398, R399, R406) -/

/-- GNSS_SNAPSHOT acceptance (R406). -/
def gnssSnapshotChecks (_ : Bool) (a : Args) (s : State) : Checks :=
  let act := af a 0 31 30
  let cap := decide (act = 0)
  let st := af a 0 29 28
  let busy := s.gnss.snap.capTag.isSome || s.gnss.snap.procTag.isSome
  [cond (decide (s.gnss.rstate = .off)) (wrongState 0x0001),
   cond (cap && (decide (st = 1) || decide (st = 2)) && !s.timeValid) (wrongState 0x0002),
   cond (cap && decide (st = 2) && decide (readingOfPat (a96 a 1) < s.mt + 100 * usU)) (wrongState 0x0002),
   cond (decide (act = 1) && (!s.gnss.snap.held || !s.timeValid)) (wrongState 0x0004),
   rng a 0 31 30 0 2, cond (cap && decide (st = 3)) (badArg 0 28), rsv a 0 27 7,
   cond (cap && !(decide (1 ≤ af a 0 6 0) && decide (af a 0 6 0 ≤ 64))) (badArg 0 0),
   cond (cap && decide (st = 2) && !patOk (a96 a 1)) (badArg 1 0),
   cond ((cap || decide (act = 1)) && busy) (busyRes 0x0003)]

/-- GNSS_SNAPSHOT's immediate part; a new capture replaces the one held (R398, R406). -/
def gnssSnapshotBody (i : Fin 48) (a : Args) (s : State) : State × Reply :=
  let act := af a 0 31 30
  if act = 0 then
    let st := af a 0 29 28
    let at_ := if st = 0 then s.mt else if st = 1 then (s.msec + 1) * secU else readingOfPat (a96 a 1)
    let bad := decide (s.gnss.ant = .antOpen) || decide (s.gnss.ant = .short)
    (s.onGnss fun g =>
      { g with snap := { g.snap with held := false, capTag := some i, capFrom := s.now, capAt := at_, capLen := af a 0 6 0,
                                     capStart := st, antFault := bad, cold := !s.kettle.warm } }, .deferred)
  else if act = 1 then (s.onGnss fun g => { g with snap := { g.snap with procTag := some i, procFrom := s.now } }, .deferred)
  else (s.onGnss fun g => { g with snap := { g.snap with held := false } }, .ok [])

/-- GNSS_SNAPSHOT (R406). -/
def execGnssSnapshot (t : Nat) (tag : Fin 48) (s : State) : Res :=
  runCmd .gnssSnapshot tag gnssSnapshotChecks gnssSnapshotBody (s.advance t)

/-- The response of a CAPTURE (R406). -/
def Snap.words (x : Snap) : List Word :=
  [pack [pbit x.held 31, pbit x.antFault 30, pbit x.cold 29, (1, 15, 8), (x.length, 6, 0)], wd 0xC00000, wd (15000 * x.length),
   wd 60000000] ++ time96 x.first ++ [s32 x.skew]

/-- The last sample of the capture in flight is written. -/
def State.captureOver (s : State) : Bool :=
  let x := s.gnss.snap
  if x.capStart = 0 then s.past x.capFrom (x.capLen * msU) else decide (x.capAt + x.capLen * msU ≤ s.mt)

/-- SNAPSHOT_CAPTURE_END: the capture completes; its samples are free values (R398, R406). -/
def execSnapshotCaptureEnd (t : Nat) (skew : Int) (s : State) : Res :=
  let s := s.advance t
  match s.gnss.snap.capTag with
  | some i =>
    if s.captureOver then
      let (k, s) := s.draw
      let s := (s.onGnss fun g =>
        { g with snap := { g.snap with held := true, capTag := none, length := g.snap.capLen, first := g.snap.capAt, skew := skew,
                                       base := k, cold := g.snap.cold || !s.kettle.warm } }).gnssCount 11
      done (s.holdOk i s.gnss.snap.words)
    else done s
  | none => done s

/-- SNAPSHOT_PROCESS_END: a position of FIX 3, or no fix; TIMEOUT after the 20 s of R399 (R95, R399, R406; log 58). -/
def execSnapshotProcessEnd (t : Nat) (fix : Option Fix) (s : State) : Res :=
  let s := s.advance t
  match s.gnss.snap.procTag with
  | some i =>
    let f : Fix := match fix with | some f => { f with fix := 3 } | none => {}
    let late := decide (s.gnss.snap.procFrom + 20 * secU < s.now)
    let s := s.onGnss fun g => { g with snap := { g.snap with procTag := none } }
    if late then done (s.holdFail i timeoutF) else done (s.holdOk i f.words)
  | none => done s

end Sys2Proof.Machine
end

