-- ==== Sys2Proof/Machine/LoopCmds.lean ====
section
/-!
DEFINITION. The commands of selection and of the loops: REF_SELECT, REF_PRIORITY, LOOP_CONFIG, LOOP_BW_SCHEDULE,
LOOP_STATUS, LOOP_HOLDOVER_CONFIG, LOOP_FORCE_HOLDOVER (R250 to R257, R289 to R296).
-/

namespace Sys2Proof.Machine

/-- SW_PHASE (R253). -/
def SwPhase.code : SwPhase → Nat
  | .none => 0 | .measure => 1 | .handover => 2 | .settle => 3

/-- MANUAL is set and its USE is 0 (R251). -/
def Dpll.manualUnusable (d : Dpll) : Bool := match d.manual with | some r => !(vget d.use r).use | none => false

/-- The selection word (R253). -/
def State.selWord (s : State) (d : Fin 8) : Word :=
  let x := s.dpll d
  pack [(x.sw.code, 31, 30), pbit x.bridging 29, pbit x.pendingEval 28, pbit x.manualUnusable 27,
        pbit (x.manual.isSome && decide (x.cur ≠ x.manual)) 26, pbit (x.steering && decide (x.buildOut ≠ 0)) 25,
        pbit x.stepPending 24, (refCode x.target, 23, 16), (refCode x.cur, 15, 8), (refCode x.next, 7, 0)]

/-- SWITCH_MS (R253). -/
def State.switchMs (s : State) (d : Fin 8) : Nat :=
  if (s.dpll d).sw = .none then 0 else satU 16 ((s.now - (s.dpll d).swFrom) / msU)

/-- The candidate a field names, 0x7F none. -/
def candOf (v : Nat) : Option (Fin 66) := if h : v < 66 then some ⟨v, h⟩ else none

/-- The DPLL in bits 2:0 of word 0. -/
def argDpll (a : Args) : Fin 8 := ⟨af a 0 2 0, by unfold af fld; omega⟩

/-! ### REF_SELECT -/

/-- REF_SELECT acceptance (R251, R252). -/
def refSelectChecks (_ : Bool) (a : Args) (_ : State) : Checks :=
  let m := af a 0 15 8
  let h := af a 2 31 0
  [rng a 0 31 30 0 1, rsv a 0 27 16, rsv a 0 7 3,
   cond (decide (65 < m) && decide (m ≠ 0x7F)) (badArg 0 8 0x0001),
   cond (ab a 0 28 && decide (argDpll a = 0)) (badArg 0 28 0x0002),
   cond (decide (af a 0 31 30 = 1) && decide (m = 0x7F)) (badArg 0 30 0x0003),
   rng a 1 31 16 1 10000 0x0004, rng a 1 15 0 1 65535 0x0004,
   cond (has a 2 && decide (h ≠ 0) && !(decide (100 ≤ h) && decide (h ≤ 1000000))) (badArg 2 0 0x0004)]

/-- REF_SELECT at its apply edge: an evaluation point of the DPLL (R231, R251). -/
def applyRefSelect (a : Args) (s : State) : State :=
  s.dpllMod (argDpll a) fun x =>
    { x with forcedMode := decide (af a 0 31 30 = 1), revert := ab a 0 29, timeAsFreq := ab a 0 28,
             manual := candOf (af a 0 15 8), slopeLimit := dflt a 1 (af a 1 31 16) x.slopeLimit,
             settleThr := dflt a 1 (af a 1 15 0) x.settleThr, hitLimit := dflt a 2 (af a 2 31 0) x.hitLimit,
             evalDue := decide (x.dstate ≠ .disabled) }

/-- REF_SELECT unstaged (R253). -/
def refSelectBody (_ : Fin 48) (a : Args) (s : State) : State × Reply :=
  let s := applyRefSelect a s
  let d := argDpll a
  (s, .ok (s.selWord d :: s64 (s.dpll d).buildOut ++ [pack [((s.dpll d).lastOutcome, 31, 30), (s.switchMs d, 15, 0)]]))

/-- REF_SELECT (R251). -/
def execRefSelect (t : Nat) (tag : Fin 48) (s : State) : Res :=
  runCmd .refSelect tag refSelectChecks refSelectBody (s.advance t)

/-! ### REF_PRIORITY -/

/-- Entry byte i of a REF_PRIORITY (R254). -/
def prioByte (a : Args) (i : Nat) : Nat := af a (1 + i / 4) (8 * (3 - i % 4) + 7) (8 * (3 - i % 4))

/-- The check of entry byte i: reserved bits 0; after entry N - 1, zero (R255). -/
def prioCheck (a : Args) (n i : Nat) : Bool × Fail :=
  let b := prioByte a i
  cond (if i < n then decide (b / 16 % 8 ≠ 0) else decide (b ≠ 0))
    (badArg (1 + i / 4) (8 * (3 - i % 4) + (if i < n then 4 else 0)) 0x0003)

/-- REF_PRIORITY acceptance (R254, R255). -/
def refPriorityChecks (_ : Bool) (a : Args) (_ : State) : Checks :=
  let first := af a 0 22 16
  let n := af a 0 14 8
  [rsv a 0 31 23, rsv a 0 15 15, rsv a 0 7 3,
   cond (decide (n = 0) || decide (66 < first + n)) (badArg 0 (if 65 < first then 16 else 8) 0x0001),
   cond (decide (a.length < 1 + (n + 3) / 4)) (badArg 0xFF 0 0x0002)] ++
  (List.range (4 * ((n + 3) / 4))).map (prioCheck a n)

/-- REF_PRIORITY at its apply edge (R254, R231). -/
def applyRefPriority (a : Args) (s : State) : State :=
  let first := af a 0 22 16
  let n := af a 0 14 8
  State.regroup <| s.dpllMod (argDpll a) fun x =>
    { x with use := vmapIdx x.use fun i u =>
               if first ≤ i ∧ i < first + n then
                 { u with use := decide (128 ≤ prioByte a (i - first)), prio := prioByte a (i - first) % 16 }
               else u,
             evalDue := decide (x.dstate ≠ .disabled) }

/-- A table entry as REF_PRIORITY reports it (R254). -/
def Use.byte (u : Use) : Nat := u.use.toNat * 128 + u.prio

/-- The table of a DPLL, four entries a word (R256). -/
def Dpll.tableWords (d : Dpll) : List Word :=
  let b := fun i => if h : i < 66 then (vget d.use ⟨i, h⟩).byte else 0
  (List.range 17).map fun w => wd (b (4 * w) * 2 ^ 24 + b (4 * w + 1) * 2 ^ 16 + b (4 * w + 2) * 2 ^ 8 + b (4 * w + 3))

/-- REF_PRIORITY unstaged (R256). -/
def refPriorityBody (_ : Fin 48) (a : Args) (s : State) : State × Reply :=
  let s := applyRefPriority a s
  (s, .ok (s.selWord (argDpll a) :: (s.dpll (argDpll a)).tableWords))

/-- REF_PRIORITY (R254). -/
def execRefPriority (t : Nat) (tag : Fin 48) (s : State) : Res :=
  runCmd .refPriority tag refPriorityChecks refPriorityBody (s.advance t)

/-! ### LOOP_CONFIG, LOOP_BW_SCHEDULE, LOOP_HOLDOVER_CONFIG -/

/-- DRIFT_USED and TEMP_USED: the terms in the c of a DPLL that holds (R273). -/
def Dpll.termsUsed (d : Dpll) : Bool × Bool :=
  let on := decide (d.dstate = .holdover) || d.bridging
  (on && d.terms.1, on && d.terms.2)

/-- The state word of LOOP_STATUS (R295). -/
def State.loopWord (s : State) (d : Fin 8) : Word :=
  let x := s.dpll d
  let u := x.termsUsed
  pack [(x.dstate.code, 31, 29), (x.hoCause.code, 28, 26), pbit x.stepPending 25, pbit (x.slewing && decide (x.buildOut ≠ 0)) 24,
        pbit x.hoShort 23, pbit x.overBudget 22, pbit x.clampUse 21, pbit x.pullLimited 20, pbit u.1 19, pbit u.2 18,
        pbit x.teValid 17, pbit (!s.kettle.warm) 16, (x.stepUse, 15, 12),
        (if d.val = 0 then s.clockClass else 0, 7, 0)]

/-- LOOP_CONFIG acceptance (R290, R291). -/
def loopConfigChecks (staged : Bool) (a : Args) (s : State) : Checks :=
  [rsv a 0 30 24 0x0002, rsv a 0 15 3 0x0002, rng a 0 23 16 5 100 0x0002,
   cond (!ab a 0 31 && decide (argDpll a = 0)) (badArg 0 31 0x0001),
   rng a 1 31 0 10 4000000000 0x0002, rng a 2 31 0 100 100000000 0x0002, rng a 3 31 0 1000 1000000000 0x0002,
   rng a 4 31 16 1 500 0x0002, rng a 4 15 0 1 1000 0x0002, rsv a 5 31 16 0x0002,
   cond (!staged && !ab a 0 31 && decide ((s.dpll (argDpll a)).sw ≠ .none)) (busyRes 0x0003)]

/-- LOOP_CONFIG at its apply edge: an ENABLE 0 that meets a switch waits for its end; enabling is an evaluation point
(R231, R290, R291). -/
def applyLoopConfig (a : Args) (s : State) : State :=
  let d := argDpll a
  let on := ab a 0 31
  let s := s.dpllMod d fun x =>
    { x with damping := af a 0 23 16, bw := dflt a 1 (af a 1 31 0) x.bw, lockThr := dflt a 2 (af a 2 31 0) x.lockThr,
             stepThr := dflt a 3 (af a 3 31 0) x.stepThr, pullLimit := dflt a 4 (af a 4 31 16) x.pullLimit,
             recSlew := dflt a 4 (af a 4 15 0) x.recSlew, lockTime := dflt a 5 (af a 5 15 0) x.lockTime }
  let x := s.dpll d
  if on then
    if x.dstate = .disabled then
      (s.toFreerun d).dpllMod d fun y => { y with enable := true, evalDue := true }
    else s.dpllMod d fun y => { y with enable := true, offDue := false }
  else if d.val = 0 ∨ x.dstate = .disabled then s
  else if x.sw = .none then s.disable d
  else s.dpllMod d fun y => { y with offDue := true }

/-- LOOP_CONFIG unstaged (R289). -/
def loopConfigBody (_ : Fin 48) (a : Args) (s : State) : State × Reply :=
  let s := applyLoopConfig a s
  (s, .ok [s.loopWord (argDpll a)])

/-- The posted command is staged. -/
def State.stagedTag (s : State) (i : Fin 48) : Bool := hdrStaged (s.tag i).hdr

/-- LOOP_CONFIG (R290). -/
def execLoopConfig (t : Nat) (tag : Fin 48) (s : State) : Res :=
  let s := s.advance t
  runCmd .loopConfig tag (fun _ => loopConfigChecks (s.stagedTag tag)) loopConfigBody s

/-- The checks of step i of a schedule (R292). -/
def bwStepCheck (a : Args) (i : Nat) : Checks :=
  [rng a (1 + 2 * i) 31 0 10 4000000000 0x0003, rsv a (2 + 2 * i) 31 16 0x0003, rng a (2 + 2 * i) 15 0 1 65535 0x0003,
   cond (decide (0 < i) && decide (af a (2 * i - 1) 31 0 < af a (1 + 2 * i) 31 0)) (badArg (1 + 2 * i) 0 0x0002)]

/-- LOOP_BW_SCHEDULE acceptance (R292). -/
def loopBwChecks (_ : Bool) (a : Args) (_ : State) : Checks :=
  let n := af a 0 27 24
  [rsv a 0 30 28 0x0003, rng a 0 27 24 0 8 0x0003, rng a 0 23 8 1 65535 0x0003, rsv a 0 7 3 0x0003,
   cond (decide (a.length < 1 + 2 * n)) (badArg 0xFF 0 0x0001)] ++ (List.range n).flatMap (bwStepCheck a)

/-- LOOP_BW_SCHEDULE at its apply edge: without RESTART the step in force stays; the final bandwidth, or a step past the
new N, is the final bandwidth (R265, R292). -/
def applyLoopBw (a : Args) (s : State) : State :=
  let d := argDpll a
  let again := ab a 0 31
  s.dpllMod d fun x =>
    { x with steps := (List.range (af a 0 27 24)).map (fun i => (af a (1 + 2 * i) 31 0, af a (2 + 2 * i) 15 0)),
             restartAfter := af a 0 23 8,
             stepIdx := if again && x.cur.isSome then 0
                        else if x.stepIdx < min x.steps.length (af a 0 27 24) then x.stepIdx else 8,
             dwell := if again && x.cur.isSome then 0 else x.dwell,
             restartDue := if again then x.cur.isNone else x.restartDue }

/-- LOOP_BW_SCHEDULE unstaged (R289). -/
def loopBwBody (_ : Fin 48) (a : Args) (s : State) : State × Reply :=
  let s := applyLoopBw a s
  (s, .ok [s.loopWord (argDpll a)])

/-- LOOP_BW_SCHEDULE (R292). -/
def execLoopBwSchedule (t : Nat) (tag : Fin 48) (s : State) : Res :=
  runCmd .loopBwSchedule tag loopBwChecks loopBwBody (s.advance t)

/-- LOOP_HOLDOVER_CONFIG acceptance (R293). -/
def loopHoldoverChecks (_ : Bool) (a : Args) (_ : State) : Checks :=
  [rsv a 0 29 3 0x0001, rng a 1 31 0 1 86400 0x0001, rng a 2 31 0 0 3600 0x0001, rng a 3 31 0 1 1000000 0x0001]

/-- LOOP_HOLDOVER_CONFIG at its apply edge (R277, R293). -/
def applyLoopHoldover (a : Args) (s : State) : State :=
  let d := argDpll a
  (s.dpllMod d fun x =>
    { x with driftEn := ab a 0 31, tempEn := ab a 0 30, window := dflt a 1 (af a 1 31 0) x.window,
             guard := dflt a 2 (af a 2 31 0) x.guard, budget := dflt a 3 (af a 3 31 0) x.budget }).refreshTe d

/-- LOOP_HOLDOVER_CONFIG unstaged (R289). -/
def loopHoldoverBody (_ : Fin 48) (a : Args) (s : State) : State × Reply :=
  let s := applyLoopHoldover a s
  (s, .ok [s.loopWord (argDpll a)])

/-- LOOP_HOLDOVER_CONFIG (R293). -/
def execLoopHoldoverConfig (t : Nat) (tag : Fin 48) (s : State) : Res :=
  runCmd .loopHoldoverConfig tag loopHoldoverChecks loopHoldoverBody (s.advance t)

/-! ### LOOP_FORCE_HOLDOVER, LOOP_STATUS -/

/-- LOOP_FORCE_HOLDOVER acceptance (R294). -/
def loopForceChecks (_ : Bool) (a : Args) (s : State) : Checks :=
  let x := s.dpll (argDpll a)
  [cond (decide (x.dstate = .disabled)) (wrongState 0x0002), rsv a 0 30 3,
   cond (decide (x.sw ≠ .none)) (busyRes 0x0001)]

/-- FORCE or release (R288, R294). -/
def loopForceBody (_ : Fin 48) (a : Args) (s : State) : State × Reply :=
  let d := argDpll a
  let x := s.dpll d
  let s :=
    if ab a 0 31 then
      if x.forced then s else (s.dpllMod d fun y => { y with forced := true }).enterHold d .forced
    else if x.forced then
      s.dpllMod d fun y =>
        { y with forced := false, hoCause := if y.hoCause = .forced then .noRef else y.hoCause, evalDue := true }
    else s
  (s, .ok [s.loopWord d])

/-- LOOP_FORCE_HOLDOVER (R294). -/
def execLoopForceHoldover (t : Nat) (tag : Fin 48) (s : State) : Res :=
  runCmd .loopForceHoldover tag loopForceChecks loopForceBody (s.advance t)

/-- LOOP_STATUS acceptance (R295). -/
def loopStatusChecks (_ : Bool) (a : Args) (_ : State) : Checks := [rsv a 0 31 3 0x0001]

/-- LOOP_STATUS (R295). -/
def loopStatusBody (_ : Fin 48) (a : Args) (s : State) : State × Reply :=
  let d := argDpll a
  let x := s.dpll d
  (s, .ok ([s.loopWord d, s.selWord d] ++ s64 x.err ++ s64 x.c ++ s64 x.hoAvg ++
    [wd x.bwUse, wd (satU 32 (s.teNow d)), wd (s.feNow d), wd (s.toBudget d), wd (satU 32 ((s.now - x.stFrom) / secU))] ++
    time96 x.since ++ [wd x.windowUsed]))

/-- LOOP_STATUS (R295). -/
def execLoopStatus (t : Nat) (tag : Fin 48) (s : State) : Res :=
  runCmd .loopStatus tag loopStatusChecks loopStatusBody (s.advance t)

end Sys2Proof.Machine
end

