-- ==== Sys2Proof/Machine/MeasCmds.lean ====
section
/-!
DEFINITION. The MEAS commands, and the events of the fabric that raise no fault: edges, releases, time limits of captures,
intervals and gates (R144, R146, R156, R160, R166 to R175, R182 to R194).
-/

namespace Sys2Proof.Machine

/-! ### Events -/

/-- REFERENCE_EDGE: `t` is the CLK_CORE edge that latches it (R144). -/
def execReferenceEdge (t : Nat) (ch : Fin 66) (e : EdgeIn) (s : State) : Res :=
  let s := s.advance t
  done ((s.edge t ch e).fifo ch)

/-- STAMP_RELEASE: the oldest stamp of the channel whose look-back has passed, when the channel is in turn (R146, R153). -/
def execStampRelease (t : Nat) (ch : Fin 66) (s : State) : Res :=
  let s := (s.advance t).fifo ch
  match (s.chan ch).lookback with
  | x :: r =>
    if decide (x.edge + lookU ≤ s.now) && s.inTurn ch then done (((s.chanMod ch fun c => { c with lookback := r }).serve ch).deliver ch x)
    else done s
  | [] => done s

/-- COMPARATOR_SETTLED: 2 us after the change (R156). -/
def execComparatorSettled (t : Nat) (ch : Fin 66) (s : State) : Res :=
  let s := s.advance t
  if (s.chan ch).settling && s.past (s.chan ch).settleAt (2 * usU) then done (s.chanMod ch fun c => { c with settling := false })
  else done s

/-- VIDEO_SYNC_MISSING: no sync within 2 % of its expected time; three in a row lose the lock (R160, R175). -/
def execVideoSyncMissing (t : Nat) (ch : Fin 66) (s : State) : Res :=
  let s := s.advance t
  let c := s.chan ch
  if c.mode = 2 ∧ (c.video = .lineLock ∨ c.video = .frameLock) ∧ c.lineSpan ≤ ((s.now : Int) - c.syncDue) * 50 then
    let s := s.count (16 * ch.val + 7)
    if c.videoMiss + 1 < 3 then done (s.chanMod ch fun c => { c with videoMiss := c.videoMiss + 1 })
    else done (s.videoTo ch c.noVideo)
  else done s

/-- CAPTURE_DURATION_END (R168). -/
def execCaptureDurationEnd (t : Nat) (ch : Fin 66) (s : State) : Res :=
  let s := s.advance t
  let p := (s.chan ch).capture
  if (p.st = .armed ∨ p.st = .capturing) ∧ p.ended s.mt s.now then
    done (s.chanMod ch fun c => { c with capture := { c.capture with st := .done, byDuration := true } })
  else done s

/-- The interval of a tag. -/
def State.ivOf (s : State) (i : Fin 48) : Option Interval := s.meas.ivs.find? fun v => decide (v.tag = i)

/-- INTERVAL_START_TIMEOUT: no start edge within START_WAIT, whose last stamps are released, ends the command (R146, R173,
R174). -/
def execIntervalStartTimeout (t : Nat) (tag : Fin 48) (s : State) : Res :=
  let s := s.advance t
  match s.ivOf tag with
  | some v =>
    if v.cur.isNone ∧ s.past v.waitFrom (v.startWait * msU + lookU) then
      if v.done = 0 then done (s.endFail tag (timeoutF 0x0006)) else done (s.ivPut v true { v with noStart := true })
    else done s
  | none => done s

/-- The window of an attempt that began with `x` has closed and its stamps are released (R146, R173). -/
def State.windowShut (s : State) (v : Interval) (x : Stamp) : Bool := decide (x.time + v.close * usU + lookU ≤ s.mt)

/-- INTERVAL_WINDOW_CLOSE: the attempt ends without a stop at the window's close, or is discarded for a step (R173). -/
def execIntervalWindowClose (t : Nat) (tag : Fin 48) (s : State) : Res :=
  let s := s.advance t
  match s.ivOf tag with
  | some v =>
    (match v.cur with
     | some x =>
       if v.stepped then done (s.ivPut v false (v.shed s.time.stepK))
       else if s.windowShut v x then
         let e := x.time + v.close * usU
         let w := (v.tally x e).next (s.kettleOf e)
         done ((s.count (16 * v.stopCh.val + 5)).ivPut v false { w with timeouts := v.timeouts + 1 })
       else done s
     | none => done s)
  | none => done s

/-! ### MEAS_CONFIG_CH -/

/-- The channel in bits 5:0 of word 0. -/
def argCh (a : Args) : Fin 66 := ⟨af a 0 5 0, by unfold af fld; omega⟩

/-- The lane of a link channel is powered (R143, R166). -/
def State.lanePowered (s : State) (ch : Fin 66) : Bool := match laneOf ch with | some l => (s.lane l).en | none => false

/-- Words from `i` up must be 0 (R166). -/
def zeroFrom (a : Args) (i : Nat) : Checks :=
  (List.range a.length).map fun k => cond (decide (i ≤ k) && decide (arg a k ≠ 0)) (badArg k 0)

/-- MEAS_CONFIG_CH acceptance (R166). -/
def measConfigChecks (_ : Bool) (a : Args) (s : State) : Checks :=
  let ch := argCh a
  let mode := af a 1 1 0
  let thr := asf a 1 31 16
  if ch.val < 16 then
    [rsv a 0 31 9, rsv a 0 7 6,
     cond (decide (mode = 2) && decide (3 < ch.val)) (badArg 1 0 0x0001), rng a 1 1 0 0 2,
     cond (decide (mode = 2) && ab a 1 7) (badArg 1 7 0x0002),
     cond (decide (mode = 0) && !(decide (-1200 ≤ thr) && decide (thr ≤ 3600))) (badArg 1 16 0x0003),
     cond (decide (mode = 1) && !(decide (-500 ≤ thr) && decide (thr ≤ 500))) (badArg 1 16 0x0003),
     rsv a 1 15 12, rng a 1 9 8 0 2, rsv a 1 6 2, rsv a 2 31 16, rng a 2 15 0 1 65535, rsv a 3 31 10, rng a 3 9 8 0 2,
     rsv a 3 7 5, rng a 3 4 0 0 16] ++ zeroFrom a 4
  else
    [cond (!s.lanePowered ch) (wrongState 0x0004), rsv a 0 31 9, rsv a 0 7 6, rsv a 1 31 24, rng a 1 23 0 16 16777215] ++
    zeroFrom a 2

/-- The configuration a MEAS_CONFIG_CH gives a channel; omitted words take their Default (R166). -/
def Chan.configured (a : Args) (pin : Bool) (c : Chan) : Chan :=
  if pin then
    { c with enable := ab a 0 8, threshold := dflt a 1 (asf a 1 31 16) 0, hyst := dflt a 1 (af a 1 11 10) 1,
             slope := dflt a 1 (af a 1 9 8) 0, term := ab a 1 7, mode := dflt a 1 (af a 1 1 0) 0,
             div := dflt a 2 (af a 2 15 0) 1, event := dflt a 3 (af a 3 9 8) 2, format := dflt a 3 (af a 3 4 0) 0 }
  else { c with enable := ab a 0 8, clkDiv := dflt a 1 (af a 1 23 0) 1024 }

/-- A pin channel that stays powered changes its configuration (R156, R160, R188, R210). -/
def State.pinChange (ch : Fin 66) (n : Chan) (s : State) : State :=
  let o := s.chan ch
  let cmp := decide ((o.threshold, o.hyst, o.term, o.mode) ≠ (n.threshold, n.hyst, n.term, n.mode))
  let qual := decide ((o.mode, o.slope, o.div) ≠ (n.mode, n.slope, n.div))
  let video := decide (o.mode ≠ n.mode) || (decide (n.format ≠ 0) && decide (o.videoFmt ≠ 0) && decide (n.format ≠ o.videoFmt))
  let n := if cmp then { n with settling := true, settleAt := s.now } else n
  let n := if video then n.noVideo else n
  let s := s.videoTo ch n
  let s := if qual then refLoss ch (s.gatesEnd ch) else s
  refCond ch s

/-- MEAS_CONFIG_CH at its apply edge (R156, R157, R166). -/
def applyMeasConfig (a : Args) (s : State) : State :=
  let ch := argCh a
  let o := s.chan ch
  let n := o.configured a (decide (ch.val < 16))
  if ch.val < 16 then
    if n.enable && !o.enable then refOn ch ((s.chanMod ch fun _ => n).chanUp ch)
    else if !n.enable && o.enable then refOff ch ((s.chanMod ch fun _ => n).chanDown ch)
    else if n.enable then s.pinChange ch n
    else s.chanMod ch fun _ => n
  else
    let s := s.chanMod ch fun _ => n
    if n.enable ≠ o.enable then refCond ch (refLoss ch (s.gatesEnd ch))
    else if n.clkDiv ≠ o.clkDiv then s.gatesEnd ch
    else s

/-- CAL codes (R149). -/
def CalState.code : CalState → Nat
  | .off => 0 | .lin => 1 | .full => 2 | .failed => 3

/-- VIDEO_STATE codes (R160). -/
def VideoState.code : VideoState → Nat
  | .none => 0 | .search => 1 | .lineLock => 2 | .frameLock => 3

/-- MEAS_CONFIG_CH unstaged (R167). -/
def measConfigBody (_ : Fin 48) (a : Args) (s : State) : State × Reply :=
  let s := applyMeasConfig a s
  let c := s.chan (argCh a)
  (s, .ok [pack [(c.videoFmt, 20, 16), (c.video.code, 14, 12), (c.cal.code, 11, 10), pbit c.enable 8, ((argCh a).val, 5, 0)]])

/-- MEAS_CONFIG_CH (R166). -/
def execMeasConfigCh (t : Nat) (tag : Fin 48) (s : State) : Res :=
  runCmd .measConfigCh tag measConfigChecks measConfigBody (s.advance t)

/-! ### MEAS_ARM, MEAS_READ -/

/-- 100 us ahead (R168, R192). -/
def State.soon (s : State) : Nat := s.mt + 100 * usU

/-- A START_AT of words i to i + 2 lies less than 100 us ahead. -/
def startBad (a : Args) (i : Nat) (s : State) : Bool := decide (readingOfPat (a96 a i) < s.soon)

/-- MEAS_ARM acceptance (R168). -/
def measArmChecks (_ : Bool) (a : Args) (s : State) : Checks :=
  let ch := argCh a
  let start := af a 0 31 30
  let rel := ab a 0 29
  let lim := dflt a 1 (af a 1 10 0) 1024
  let ok := (s.chan ch).enable || s.lanePowered ch
  if rel then [cond (!ok) (wrongState 0x0001), rsv a 0 28 6]
  else
    [cond (!ok) (wrongState 0x0001), cond (!s.timeValid && (decide (start = 1) || decide (start = 2))) (wrongState 0x0004),
     rng a 0 31 30 0 2, rsv a 0 28 6, rng a 1 31 16 1 65535, rsv a 1 15 11, rng a 1 10 0 1 1024, rng a 2 31 0 1 10000,
     cond (!patOk (a96 a 3)) (badArg 3 0), cond (decide (start = 2) && startBad a 3 s) (badArg 3 0 0x0002),
     cond (decide (4096 < s.capUse - (s.chan ch).capture.limit + lim)) (busyRes 0x0003)]

/-- CAPTURE state codes (R168). -/
def CapState.code : CapState → Nat
  | .idle => 0 | .armed => 1 | .capturing => 2 | .done => 3

/-- The capture a MEAS_ARM arms (R168). -/
def armed (a : Args) (s : State) : Capture :=
  let start := af a 0 31 30
  { Capture.init with
    st := .armed, start := start, decim := dflt a 1 (af a 1 31 16) 1, limit := dflt a 1 (af a 1 10 0) 1024
    duration := dflt a 2 (af a 2 31 0) 10000, from_ := s.now
    startAt := if start = 0 then s.mt else if start = 1 then (s.msec + 1) * secU else readingOfPat (a96 a 3) }

/-- MEAS_ARM (R168, R169). -/
def measArmBody (_ : Fin 48) (a : Args) (s : State) : State × Reply :=
  let ch := argCh a
  let n := if ab a 0 29 then Capture.init else armed a s
  let s := s.chanMod ch fun c => { c with capture := n }
  (s, .ok [pack [(n.st.code, 9, 8), (ch.val, 5, 0)], pack [(s.capUse, 12, 0)]])

/-- MEAS_ARM (R168). -/
def execMeasArm (t : Nat) (tag : Fin 48) (s : State) : Res :=
  runCmd .measArm tag measArmChecks measArmBody (s.advance t)

/-- MEAS_READ acceptance (R170). -/
def measReadChecks (_ : Bool) (a : Args) (_ : State) : Checks :=
  [rsv a 0 31 26, rsv a 0 15 6, rsv a 1 31 6, rng a 1 5 0 1 63]

/-- A stamp record (R165). -/
def Stamp.words (x : Stamp) : List Word :=
  time96 x.time ++
  [pack [pbit x.invalid 31, pbit x.lin 30, (x.kind, 29, 28), pbit (x.falling && decide (x.kind = 0)) 27, pbit x.gap 26,
         pbit x.frame 25, pbit x.field2 24, (x.line, 23, 12), (x.seq, 11, 0)]]

/-- MEAS_READ (R170, R171). -/
def measReadBody (_ : Fin 48) (a : Args) (s : State) : State × Reply :=
  let ch := argCh a
  let c := s.chan ch
  let p := c.capture
  let out := (p.stamps.drop (af a 0 25 16)).take (dflt a 1 (af a 1 5 0) 63)
  (s, .ok ([pack [(p.st.code, 31, 30), pbit p.byDuration 29, (p.stamps.length, 26, 16), (p.decim, 15, 0)],
            pack [(af a 0 25 16, 25, 16), (ch.val, 5, 0)],
            pack [(c.video.code, 31, 29), (c.videoFmt, 28, 24), (c.cal.code, 21, 20), pbit c.enable 19, (out.length, 5, 0)]] ++
           out.flatMap Stamp.words))

/-- MEAS_READ (R170). -/
def execMeasRead (t : Nat) (tag : Fin 48) (s : State) : Res :=
  runCmd .measRead tag measReadChecks measReadBody (s.advance t)

/-! ### MEAS_INTERVAL -/

/-- The channel is enabled and stamps the slope or stream selected (R172). -/
def State.stamps (s : State) (ch : Fin 66) (sel : Nat) : Bool :=
  let c := s.chan ch
  if ch.val < 16 then
    c.enable && (if c.mode = 2 then decide (sel = 2) else decide (sel = 2) || decide (c.slope = 2) || decide (c.slope = sel))
  else s.lanePowered ch && c.enable

/-- Channel in bits 13:8 of word 0. -/
def argStop (a : Args) : Fin 64 := ⟨af a 0 13 8, by unfold af fld; omega⟩

/-- Channel in bits 5:0 of word 0. -/
def argStart (a : Args) : Fin 64 := ⟨af a 0 5 0, by unfold af fld; omega⟩

/-- A channel number as a stamping point. -/
def point (c : Fin 64) : Fin 66 := ⟨c.val, by omega⟩

/-- OPEN; 0 unless COUNT covers both words (R172). -/
def openArg (a : Args) : Int := if has a 3 then as64 a 2 else 0

/-- MEAS_INTERVAL acceptance (R172). -/
def measIntervalChecks (_ : Bool) (a : Args) (s : State) : Checks :=
  let close : Int := dflt a 4 (af a 4 31 0) 1000000
  [cond (!s.stamps (point (argStart a)) (af a 0 17 16) || !s.stamps (point (argStop a)) (af a 0 19 18)) (wrongState 0x0003),
   rsv a 0 31 20, rng a 0 19 18 0 2, rng a 0 17 16 0 2, rsv a 0 15 14, rsv a 0 7 6, rng a 1 15 0 1 65535,
   cond (decide (argStart a = argStop a) && decide (openArg a < 0)) (badArg 2 0 0x0001),
   cond (decide (openArg a < -65536000)) (badArg 2 0), rng a 4 31 0 1 10000000,
   cond (decide (close * usU ≤ openArg a)) (badArg 2 0 0x0002), rng a 5 31 0 1 3600000,
   cond (decide (16 ≤ s.meas.ivs.length)) (busyRes 0x0004)]

/-- MEAS_INTERVAL: its immediate part (R172, R173). -/
def measIntervalBody (i : Fin 48) (a : Args) (s : State) : State × Reply :=
  let v : Interval :=
    { Interval.init with
      tag := i, startCh := argStart a, stopCh := argStop a, startSel := af a 0 17 16, stopSel := af a 0 19 18
      skip := af a 1 31 16, attempts := af a 1 15 0, opn := openArg a, close := dflt a 4 (af a 4 31 0) 1000000
      startWait := dflt a 5 (af a 5 31 0) 10000, waitFrom := s.now }
  ((s.onMeas fun m => { m with ivs := m.ivs ++ [v] }).swapBoth v, .deferred)

/-- MEAS_INTERVAL (R172). -/
def execMeasInterval (t : Nat) (tag : Fin 48) (s : State) : Res :=
  runCmd .measInterval tag measIntervalChecks measIntervalBody (s.advance t)

/-! ### MEAS_FREQ -/

/-- NUM and DEN of the arguments (R191). -/
def numArg (a : Args) : Nat := (arg a 2).toNat
def denArg (a : Args) : Nat := (arg a 3).toNat

/-- GATE in ms (R191). -/
def gateArg (a : Args) : Nat := dflt a 1 (af a 1 31 0) 1000

/-- The channel a MEAS_FREQ names is on (R192). -/
def State.freqOn (s : State) (ch : Fin 66) : Bool := (s.chan ch).enable && (decide (ch.val < 16) || s.lanePowered ch)

/-- MEAS_FREQ acceptance (R191, R192). -/
def measFreqChecks (_ : Bool) (a : Args) (s : State) : Checks :=
  let ch := argCh a
  let start := af a 0 31 30
  let k := af a 0 23 16
  let rate := (s.stampRateOf ch (numArg a) (denArg a)).getD (0, 1)
  [cond (!s.freqOn ch) (wrongState 0x0001),
   cond (decide (ch.val < 16) && decide ((s.chan ch).mode ≠ 2) && decide ((s.chan ch).slope = 2)) (wrongState 0x0002),
   cond (decide (numArg a = 0) && decide (denArg a = 0) && (s.stampRateOf ch 0 0).isNone) (wrongState 0x0003),
   cond (!s.timeValid && (decide (start = 1) || decide (start = 2))) (wrongState 0x0008),
   rng a 0 31 30 0 2, rsv a 0 28 24, cond (decide (k ≠ 0) && !(decide (20 ≤ k) && decide (k ≤ 100))) (badArg 0 16),
   rsv a 0 15 6, rng a 1 31 0 1 10000000,
   cond (decide ((numArg a = 0) ≠ (denArg a = 0))) (badArg 2 0 0x0004), rsv a 4 31 16, rng a 4 15 0 1 65535,
   cond (decide (gateArg a * rate.1 ≤ 2 * rate.2 * 1000)) (badArg 1 0 0x0005),
   cond (!patOk (a96 a 5)) (badArg 5 0), cond (decide (start = 2) && startBad a 5 s) (badArg 5 0 0x0007),
   cond (decide (32 ≤ s.meas.freqs.length)) (busyRes 0x0006)]

/-- MEAS_FREQ: its immediate part reserves an accumulator set (R185, R191). -/
def measFreqBody (i : Fin 48) (a : Args) (s : State) : State × Reply :=
  let ch := argCh a
  let start := af a 0 31 30
  let rate := (s.stampRateOf ch (numArg a) (denArg a)).getD (1, 1)
  let ph := (s.phaseRateOf ch (numArg a) (denArg a)).getD (1, 1)
  let e := (gateArg a * rate.1 + rate.2 * 1000 - 1) / (rate.2 * 1000)
  let g : FreqGate :=
    { FreqGate.init with
      tag := i, ch := argStart a, base := ab a 0 29, ksigma := af a 0 23 16, gate := gateArg a, num := rate.1, den := rate.2
      pnum := ph.1, pden := ph.2, d := max (dflt a 4 (af a 4 15 0) 1) ((e + 16777215) / 16777216)
      start := if start = 0 then s.mt else if start = 1 then (s.msec + 1) * secU else readingOfPat (a96 a 5)
      cold := decide (start = 0) && !s.kettle.warm, phaseValid := s.timeValid }
  (s.onMeas fun m => { m with freqs := m.freqs ++ [g] }, .deferred)

/-- MEAS_FREQ (R191). -/
def execMeasFreq (t : Nat) (tag : Fin 48) (s : State) : Res :=
  runCmd .measFreq tag measFreqChecks measFreqBody (s.advance t)

/-- Square root of n / d, rounded up. -/
def sqrtUp (n d : Nat) : Nat := let f := isqrt (n / d); if f * f * d = n then f else f + 1

/-- Square root of n / d, rounded to nearest. -/
def sqrtNear (n d : Nat) : Nat := (isqrt (4 * n / d) + 1) / 2

/-- Sum of squared residuals, times the count and the determinant. -/
def Acc.rss (a : Acc) : Nat := ((a.n * a.stt - a.st * a.st) * a.det - a.bNum * a.bNum).toNat

/-- Y_UNC in 2^-64, rounded up (R189). -/
def Acc.yUnc (num den : Nat) (a : Acc) : Nat :=
  let c := a.det.toNat
  sqrtUp (a.rss * num * num * 2 ^ 128) (c * c * (a.n - 2) * den * den * secU * secU)

/-- n_c: the multiple of the decimation nearest the mean kept index, the lower on a tie (R189). -/
def FreqGate.centre (g : FreqGate) : Int := -(((g.acc.n * g.d : Nat) - 2 * g.acc.sn) / (2 * (g.acc.n * g.d) : Nat)) * g.d

/-- The response of a gate (R193). -/
def FreqGate.reply (g : FreqGate) : List Word :=
  let a := g.acc
  let b := if g.base then g.accK else g.acc
  let c := a.det
  let x := a.aNum + a.bNum * g.centre
  let cut := a.t0 + x / c
  let per : Int := (g.pden : Int) * secU * c
  let r := ((a.t0 * c + x) * g.pnum) % per
  let ph := (if 2 * r ≤ per then r else r - per) / (g.pnum * c)
  let y := (b.y g.num g.den).getD 0
  let rms := sqrtNear a.rss (a.n * c.toNat * (a.n - 2))
  let unc := sqrtUp a.rss (a.n * a.n * c.toNat * (a.n - 2))
  let sat := decide (2 ^ 32 ≤ g.outliers) || decide (2 ^ 32 ≤ g.invalid) || decide (2 ^ 16 ≤ g.slips) ||
    decide (2 ^ 16 ≤ g.gaps) || decide (2 ^ 32 ≤ rms) || decide (sat64 y ≠ y) || decide (sat64 ph ≠ ph)
  [pack [pbit g.phaseValid 31, pbit g.stepped 30, pbit g.stepSeen 29, pbit (decide (g.slips ≠ 0)) 28, pbit g.base 27,
         pbit g.linUsed 26, pbit sat 25, pbit g.cold 24, (g.d, 15, 0)],
   wd a.n, wd (satU 32 g.outliers), wd (satU 32 g.invalid), pack [(satU 16 g.slips, 31, 16), (satU 16 g.gaps, 15, 0)]] ++
  s64 y ++ w64 (satU 64 (b.yUnc g.num g.den)) ++
  (if g.phaseValid then time96 cut.toNat ++ s64 ph ++ w64 (satU 64 unc) else List.replicate 7 0) ++
  [wd (satU 32 rms)] ++ time96 g.start

/-- FREQ_GATE_END: with the stamps of the gate released, the fit is solved, or too few stamps were kept (R146, R192). -/
def execFreqGateEnd (t : Nat) (tag : Fin 48) (s : State) : Res :=
  let s := s.advance t
  match s.meas.freqs.find? fun g => decide (g.tag = tag) with
  | some g =>
    if (g.start + g.gate * msU + lookU : Nat) ≤ (s.mt : Int) - g.stepSum then
      let g := { g with cold := g.cold || (!s.kettle.warm && g.coldSpell s s.kettle.coldFrom s.now), phaseValid := g.phaseValid && s.timeValid }
      let s := s.onMeas fun m => { m with freqs := m.freqs.filter fun h => decide (h.tag ≠ tag) }
      if 3 ≤ g.acc.n then done (s.holdOk tag g.reply) else done (s.holdFail tag (timeoutF 0x0009))
    else done s
  | none => done s

/-! ### MEAS_CAL_STATUS -/

/-- 1/1024 bin to bins, to nearest. -/
def bins (v : Nat) : Nat := (v + 512) / 1024

/-- The two words of a stamping point (R194). -/
def State.calWords (s : State) (p : Fin 66) : List Word :=
  let c := s.chan p
  if c.cal = .off then [0, 0]
  else
    let formed := if c.line1 then c.formedB else c.formedA
    let has := !c.table.isEmpty
    let age := if has then (s.now - formed) / secU else 0
    [pack [(c.cal.code, 31, 30), pbit c.line1 29, pbit (has && decide (3 * s.age.plan.refreshS * secU < s.now - formed)) 28,
           pbit (decide (c.cal = .failed)) 27, (bins (c.pair.2 - c.pair.1), 19, 10), (bins c.pair.1, 9, 0)],
     pack [(satU 16 age, 31, 16), (satU 16 c.drift, 15, 0)]]

/-- Points in a calibration state. -/
def State.calIn (s : State) (k : CalState) : Nat := (s.meas.chans.toList.filter fun c => decide (c.cal = k)).length

/-- MEAS_CAL_STATUS (R194). -/
def measCalBody (_ : Fin 48) (_ : Args) (s : State) : State × Reply :=
  let k := s.kettle
  (s, .ok ([pack [pbit k.warm 31, pbit (k.ovenFault || k.sensorFault) 30, (satU 16 k.warmTime, 15, 0)],
            pack [(twos 16 (satS 16 k.ovenErr), 31, 16), (k.heater, 15, 0)],
            pack [(s.age.plan.swapUs, 31, 16), (s.age.plan.refreshS, 15, 0)],
            pack [(s.calIn .failed, 15, 8), (s.calIn .lin, 7, 0)]] ++ (List.finRange 66).flatMap s.calWords))

/-- MEAS_CAL_STATUS (R194). -/
def execMeasCalStatus (t : Nat) (tag : Fin 48) (s : State) : Res :=
  runCmd .measCalStatus tag (fun _ _ _ => []) measCalBody (s.advance t)

end Sys2Proof.Machine
end

