-- ==== Sys2Proof/Machine/PtpRx.lean ====
section
/-!
DEFINITION. The lane and message-engine events: messages received, messages due, grants, time-outs, ESMC, frames for the
host, lane measurements (R343 to R367, R378, R379).
-/

namespace Sys2Proof.Machine

/-! ### Lane state (R343, R345) -/

/-- A staged change of LANE_EN, RATE or FEC held until now takes effect (R370). -/
def State.applyHeld (l : Fin 48) (s : State) : State :=
  match (s.lane l).held with
  | some a => (s.laneMod l fun x => { x with held := none }).lanePower l (ab a 0 31) (af a 0 30 29) (ab a 0 28)
  | none => s

/-- LANE_MEASURING_END: both delays are measured after 3.5 ms; the lane is DOWN (R343, R345). -/
def execLaneMeasuringEnd (t : Nat) (l : Fin 48) (tx rx : Nat) (s : State) : Res :=
  let s := s.advance t
  let x := s.lane l
  if x.lstate = .measuring ∧ s.past x.measFrom (3500 * usU) then
    let s := s.laneMod l fun x => { x with txDelay := satU 32 tx, rxDelay := satU 32 rx, checkAt := s.now, lstate := .down }
    let s := s.chanMod (linkChan l) fun c => { c with dIn := ofPs rx }
    done (s.applyHeld l)
  else done s

/-- BLOCK_LOCK_GAINED: DOWN to UP; the port leaves FAULTY (R343, R349). -/
def execBlockLockGained (t : Nat) (l : Fin 48) (s : State) : Res :=
  let s := s.advance t
  if (s.lane l).lstate = .down then done ((bmcaAll (s.laneTo l .up)).joinGroups l) else done s

/-- BLOCK_LOCK_LOST: UP to DOWN (R343, R377). -/
def execBlockLockLost (t : Nat) (l : Fin 48) (s : State) : Res :=
  let s := s.advance t
  if (s.lane l).lstate = .up then done ((s.laneCount l 22).laneTo l .down) else done s

/-- The event-log entry of a changed path delay; `rx` 1 for the receive delay (R345, R478). -/
def State.logDelay (s : State) (l : Fin 48) (rx old new : Nat) : State := s.log 0x08 0x01 l.val [wd rx, wd old, wd new]

/-- A transmit-delay check of a lane: beyond 250 ps contained and reset, beyond 50 ps corrected and taken (R345). -/
def State.checkLane (l : Fin 48) (tx : Nat) (s : State) : State :=
  let old := (s.lane l).txDelay
  let dv := ((tx : Int) - old).natAbs
  let s := ((s.laneMod l fun x => { x with checkAt := s.now }).laneCount l 25).rollDone 5
  if 250 < dv then s.report (0x300 + 4 * l.val) .contained 0x31
  else if 50 < dv then
    ((s.laneMod l fun x => { x with txDelay := satU 32 tx }).logDelay l 0 old tx).report (0x300 + 4 * l.val) .corrected 0x30
  else s

/-- LANE_DELAY: every 10 min, one lane at a time; discarded while a higher use holds the loopback channel (R345, R411,
R513, R515). Without a lane: the partner lane. -/
def execLaneDelay (t : Nat) (lane : Option (Fin 48)) (tx : Nat) (s : State) : Res :=
  let s := s.advance t
  if s.loopbackBusy || !s.rolls then done s
  else match lane with
    | some l =>
      if ((s.lane l).lstate = .down ∨ (s.lane l).lstate = .up) ∧ s.past (s.lane l).checkAt (600 * secU) then done (s.checkLane l tx) else done s
    | none =>
      if s.pair.en ∧ s.pair.measured ∧ s.past s.pair.checkAt (600 * secU) then
        done ((s.onPair fun p => { p with txDelay := satU 32 tx, checkAt := s.now }).rollDone 5)
      else done s

/-- SERDES_ADAPT: the equaliser search of an UP lane; its eye margin (R513, R516). -/
def execSerdesAdapt (t : Nat) (l : Fin 48) (margin : Nat) (s : State) : Res :=
  let s := s.advance t
  if (s.lane l).lstate = .up ∧ s.rolls then
    done ((s.laneMod l fun x => { x with eyeMargin := satU 16 margin, adaptAt := s.now }).rollDone 6)
  else done s

/-! ### Sync, Follow_Up, Delay_Resp and peer delay: the port as a reference (R352) -/

/-- A message of the parent's stream of kind `k`: let in, or dropped as unsolicited unicast. -/
def State.parentMsg (s : State) (l : Fin 48) (h : MsgHdr) (k : GrantKind) (f : State → State) : State :=
  if s.unsolicited l h k then s.laneCount l 6 else if (s.lane l).fromParent h then f s else s

/-- RX_SYNC: a one-step Sync gives an offset, a two-step one waits for its Follow_Up; without a stamp, or with an
INVALID one, it gives none (R352). -/
def execRxSync (t : Nat) (l : Fin 48) (h : MsgHdr) (twoStep : Bool) (origin : Nat) (s : State) : Res :=
  rxWith t l h (fun s => s.parentMsg l h .sync fun s =>
    let s := if h.logInt.isSome then s.laneMod l fun x => { x with parSync := h.logInt } else s
    let e := s.evAt l h.rx
    let s := s.evDone l h.rx
    match e with
    | none => s
    | some e =>
      if e.invalid then s
      else if twoStep then s.laneMod l fun x => { x with fu := some e, syncSeq := h.seq, syncCorr := h.corr }
      else
        let t1 : Int := origin + h.corr
        (s.laneMod l fun x => { x with t1 := some t1, t2 := s.nowTime e, fu := none }).offsetSample l t1 e) s

/-- RX_FOLLOW_UP: it completes the two-step Sync of its sequenceId (R352). -/
def execRxFollowUp (t : Nat) (l : Fin 48) (h : MsgHdr) (origin : Nat) (s : State) : Res :=
  rxWith t l h (fun s => s.parentMsg l h .sync fun s =>
    let x := s.lane l
    match x.fu with
    | some e =>
      if x.syncSeq = h.seq then
        let t1 : Int := origin + h.corr + x.syncCorr
        (s.laneMod l fun x => { x with t1 := some t1, t2 := s.nowTime e, fu := none }).offsetSample l t1 e
      else s
    | none => s) s

/-- The response answers this port's own request in flight. -/
def State.answers (s : State) (l : Fin 48) (h : MsgHdr) (reqId reqPort : Nat) : Bool :=
  decide (reqId = s.ptp.clockId) && decide (reqPort = l.val + 1) && decide (h.seq = (s.lane l).reqSeq)

/-- RX_DELAY_RESP: one exchange of the end-to-end mechanism, with the last complete Sync (R352). -/
def execRxDelayResp (t : Nat) (l : Fin 48) (h : MsgHdr) (t4 reqId reqPort : Nat) (s : State) : Res :=
  rxWith t l h (fun s =>
    let x := s.lane l
    if s.peer l || !x.fromParent h || !s.answers l h reqId reqPort then s
    else match x.t1, x.t3 with
      | some t1, some t3 =>
        let ok := match s.evAt l h.rx with | some e => !e.invalid | none => true
        let s := s.laneMod l fun x => { x with t3 := none }
        if ok then s.delaySample l (rdiv ((x.t2 - t1) + ((t4 : Int) - h.corr - t3)) 2) else s
      | _, _ => s) s

/-- RX_PDELAY_RESP: a one-step response completes the exchange, a two-step one waits for its follow-up (R352). -/
def execRxPdelayResp (t : Nat) (l : Fin 48) (h : MsgHdr) (twoStep : Bool) (t2 reqId reqPort : Nat) (s : State) : Res :=
  rxWith t l h (fun s =>
    let e := s.evAt l h.rx
    let s := s.evDone l h.rx
    if !s.peer l || !s.answers l h reqId reqPort then s
    else match (s.lane l).t3, e with
      | some t1, some e =>
        if e.invalid then s.laneMod l fun x => { x with t3 := none }
        else if twoStep then s.laneMod l fun x => { x with pdT4 := some (s.nowTime e), pdT2 := (t2 : Int) - h.corr }
        else (s.laneMod l fun x => { x with t3 := none }).delaySample l (rdiv ((s.nowTime e - t1) - h.corr) 2)
      | _, _ => s) s

/-- RX_PDELAY_RESP_FOLLOW_UP: it completes a two-step peer-delay exchange (R352). -/
def execRxPdelayRespFollowUp (t : Nat) (l : Fin 48) (h : MsgHdr) (t3 reqId reqPort : Nat) (s : State) : Res :=
  rxWith t l h (fun s =>
    if !s.peer l || !s.answers l h reqId reqPort then s
    else match (s.lane l).t3, (s.lane l).pdT4 with
      | some t1, some t4 =>
        (s.laneMod l fun x => { x with t3 := none, pdT4 := none }).delaySample l
          (rdiv ((t4 - t1) - ((t3 : Int) - (s.lane l).pdT2) - h.corr) 2)
      | _, _ => s) s

/-! ### Requests the port serves (R354, R359 to R361) -/

/-- The Delay_Req of a client with a grant: its rate within the second is judged, then it is answered (R361, R373). -/
def State.clientReq (l : Fin 48) (h : MsgHdr) (s : State) : State × Bool :=
  match s.ptp.clients.find? fun c => c.isOf l h && c.delay.on with
  | none => (s, true)
  | some c =>
    let fresh := s.past c.secFrom secU
    let n := if fresh then 1 else c.secReqs + 1
    let lim := max 1 (rate32 (c.delay.log - 1) / 32)
    let isOver := decide (lim < n)
    let s := s.onPtp fun p =>
      { p with clients := p.clients.map fun y =>
          if y.isOf l h then
            { y with secFrom := if fresh then s.now else y.secFrom, secReqs := n,
                     delayReqs := if isOver then y.delayReqs else satU 32 (y.delayReqs + 1) }
          else y }
    (s, !isOver)

/-- The address an answer goes to: the requester's, when it asked by unicast. -/
def MsgHdr.answerTo (h : MsgHdr) : Option Nat := if h.unicast then some h.addr else none

/-- RX_DELAY_REQ: a MASTER port answers with the receive stamp; ASYMMETRY is applied to the correction it serves (R348,
R354, R359 to R361). A request without a stamp, or with an INVALID one, has no answer (log 60). -/
def execRxDelayReq (t : Nat) (l : Fin 48) (h : MsgHdr) (s : State) : Res :=
  rxWith t l h (fun s =>
    let e := s.evAt l h.rx
    let s := s.evDone l h.rx
    if h.unicast && !(s.ptp.clients.any fun c => c.isOf l h && c.delay.on) then s.dropFrom l h 6
    else if s.peer l || decide ((s.lane l).pstate ≠ 6) then s
    else if s.suspended l then s.laneCount l 17
    else
      match s.clientReq l h, e with
      | (s, false), _ => s.dropFrom l h 5
      | (s, true), some e =>
        if e.invalid then s else s.send l h.answerTo [.delayResp h.seq e.time (h.corr - (s.lane l).asym) h.id h.port]
      | (s, true), none => s) s

/-- RX_PDELAY_REQ: any port with the peer-delay mechanism answers, one-step or two-step (R348, R354, R359, log 60). -/
def execRxPdelayReq (t : Nat) (l : Fin 48) (h : MsgHdr) (s : State) : Res :=
  rxWith t l h (fun s =>
    let e := s.evAt l h.rx
    let s := s.evDone l h.rx
    if !s.peer l then s
    else if s.suspended l then s.laneCount l 17
    else match e with
      | none => s
      | some e =>
        if e.invalid then s
        else if (s.lane l).twoStep then
          s.send l h.answerTo [.pdelayResp h.seq true e.time 0 h.id h.port, .pdelayRespFollowUp h.seq s.mt h.corr h.id h.port]
        else s.send l h.answerTo [.pdelayResp h.seq false e.time (h.corr + ((s.mt : Int) - s.nowTime e)) h.id h.port]) s

/-! ### Announce (R349, R361) -/

/-- An Announce as the foreign-master table holds it. -/
def foreignOf (h : MsgHdr) (a : AnnData) (now n : Nat) : Foreign :=
  { id := h.id, port := h.port, prio1 := a.prio1, cls := a.cls, acc := a.acc, var := a.var, prio2 := a.prio2, gm := a.gm,
    steps := a.steps, src := a.src, utc := a.utc, flags := a.flags, last := now, n := n, addr := h.answerTo }

/-- The Metronome second that begins the next UTC day under the new offset. -/
def nextUtcDay (sec : Nat) (u : Int) : Nat := (((sec : Int) - u) / 86400 * 86400 + 86400 + u).toNat

/-- Offset and leap schedule an Announce carries: valid with its utcValid flag; a leap flag schedules the event at the end
of the UTC day (R126, R127). -/
def State.annSrc (s : State) (a : AnnData) : TimeSrc :=
  if a.flags / 4 % 2 = 0 then TimeSrc.init
  else
    let leap : Int := if a.flags % 2 = 1 then 1 else if a.flags / 2 % 2 = 1 then -1 else 0
    if leap = 0 ∨ !s.timeValid then { utc := some a.utc, event := 0, next := 0 }
    else { utc := some a.utc, event := nextUtcDay s.msec (a.utc + leap), next := a.utc + leap }

/-- The Announce enters the foreign-master table; a new master that finds it full is ignored (R361). -/
def State.foreignPut (l : Fin 48) (h : MsgHdr) (a : AnnData) (s : State) : State × Bool :=
  let x := s.lane l
  if x.foreign.any fun f => decide (f.id = h.id ∧ f.port = h.port) then
    (s.laneMod l fun x => { x with foreign := x.foreign.map fun f =>
      if f.id = h.id ∧ f.port = h.port then foreignOf h a s.now (min 2 (f.n + 1)) else f }, true)
  else if x.fmMax ≤ x.foreign.length then (s.laneCount l 7, false)
  else (s.laneMod l fun x => { x with foreign := x.foreign ++ [foreignOf h a s.now 1] }, true)

/-- RX_ANNOUNCE (R349, R353, R361). -/
def execRxAnnounce (t : Nat) (l : Fin 48) (h : MsgHdr) (a : AnnData) (s : State) : Res :=
  rxWith t l h (fun s =>
    let x := s.lane l
    if h.id = s.ptp.clockId then s.laneCount l 15
    else if x.acceptN ≠ 0 ∧ !(x.accept.take x.acceptN).contains h.id then s.laneCount l 8
    else if s.unsolicited l h .ann then s.laneCount l 6
    else if x.role = 2 then s
    else
      match s.foreignPut l h a with
      | (s, false) => s
      | (s, true) =>
        let s := if (s.lane l).fromParent h then (s.laneMod l fun x => { x with annAt := s.now, src := s.annSrc a }).teRefUpd l else s
        bmcaAll s) s

/-- ANNOUNCE_RECEIPT_TIMEOUT: no Announce from the parent, or none at all while LISTENING (R353, R361). -/
def execAnnounceReceiptTimeout (t : Nat) (l : Fin 48) (s : State) : Res :=
  let s := s.advance t
  let x := s.lane l
  if s.portUp l && (decide (x.pstate = 4) || decide (x.pstate = 7) || decide (x.pstate = 8) || decide (x.pstate = 9)) &&
     s.past x.annAt (s.ptp.annTimeout * logU s.ptp.annLog) then
    let s := (s.laneCount l 2).laneMod l fun y =>
      { y with annAt := s.now, foreign := y.foreign.filter fun f => !decide (f.id = x.parentId ∧ f.port = x.parentPort) }
    let s := s.leaveSlave l
    done (bmcaAll (s.setPort l (if x.role = 3 then 4 else 6)))
  else done s

/-- FOREIGN_MASTER_AGEOUT: an entry ages out after 4 announce intervals (R361). -/
def execForeignMasterAgeout (t : Nat) (l : Fin 48) (id port : Nat) (s : State) : Res :=
  let s := s.advance t
  let due := fun f : Foreign => decide (f.id = id ∧ f.port = port) && s.past f.last (4 * logU s.ptp.annLog)
  if (s.lane l).foreign.any due then
    done (bmcaAll (s.laneMod l fun x => { x with foreign := x.foreign.filter fun f => !due f }))
  else done s

/-- TIME_ACTIVITY_TIMEOUT: Sync or delay samples come too rarely (R353, R361). -/
def execTimeActivityTimeout (t : Nat) (l : Fin 48) (s : State) : Res :=
  let s := s.advance t
  if (s.lane l).timeAct && !s.timeActNow l then done (s.timeActOff l) else done s

/-! ### Unicast grants (R355 to R357) -/

/-- RX_REQUEST_UNICAST: expired grants act first; then granted or denied (R356, R379). -/
def execRxRequestUnicast (t : Nat) (l : Fin 48) (h : MsgHdr) (kind : GrantKind) (log : Int) (duration : Nat) (s : State) : Res :=
  rxWith t l h (fun s =>
    let s := s.lapseAll
    if s.denies l h kind log then (s.laneCount l 14).signal l h.addr fun n => .grant n h.addr kind log 0
    else s.grantTo l h kind log duration) s

/-- RX_CANCEL_UNICAST: the grant ends and is acknowledged; from a unicast master, the grant held (R356). -/
def execRxCancelUnicast (t : Nat) (l : Fin 48) (h : MsgHdr) (kind : GrantKind) (s : State) : Res :=
  rxWith t l h (fun s =>
    let s := match (s.lane l).umOf h.addr with
      | some m => s.laneMod l fun x => { x with umGrant := x.umGrant.filter fun g => decide (g.1 ≠ umKey m kind) }
      | none => s.clientMod l (Client.isOf l h) fun c => c.setGrant kind Grant.init
    s.signal l h.addr fun n => .ackCancel n h.addr kind) s

/-- RX_ACKNOWLEDGE_CANCEL: the engine has cancelled no grant that it holds; the message is received (R354). -/
def execRxAcknowledgeCancel (t : Nat) (l : Fin 48) (h : MsgHdr) (_ : GrantKind) (s : State) : Res :=
  rxWith t l h (fun s => s) s

/-- RX_GRANT_UNICAST: a unicast master grants, or denies with duration 0 (R357). -/
def execRxGrantUnicast (t : Nat) (l : Fin 48) (h : MsgHdr) (kind : GrantKind) (_ : Int) (duration : Nat) (s : State) : Res :=
  rxWith t l h (fun s =>
    match (s.lane l).umOf h.addr with
    | none => s
    | some m =>
      let k := umKey m kind
      s.laneMod l fun x =>
        { x with umGrant := x.umGrant.filter (fun g => decide (g.1 ≠ k)) ++ (if duration = 0 then [] else [(k, s.now + duration * secU)])
                 umRetry := x.umRetry.filter (fun g => decide (g.1 ≠ k)) ++ (if duration = 0 then [(k, s.now)] else []) }) s

/-- GRANT_EXPIRY: a grant ends at its duration (R356). -/
def execGrantExpiry (t : Nat) (slot : Nat) (kind : GrantKind) (s : State) : Res :=
  let s := s.advance t
  match s.ptp.clients.find? fun c => decide (c.slot = slot) with
  | some c => done (s.lapse c.lane (fun y => decide (y.slot = slot)) kind)
  | none => done s

/-- Interval of the profile for a kind of message. -/
def State.profLog (s : State) : GrantKind → Int
  | .sync => s.ptp.syncLog | .delay => s.ptp.delayLog | .ann => s.ptp.annLog

/-- An address the port needs and has not resolved: the engine asks for it ahead of the frame (R364; log 60). -/
def State.needAddr (l : Fin 48) (a : Nat) (s : State) : State :=
  let x := s.lane l
  if x.transport = 0 ∨ x.resolved.contains a then s
  else s.laneMod l fun y => { y with sent := s.tagged l (.resolve a) :: y.sent, resolving := y.resolving.filter (· ≠ a) ++ [a] }

/-- The port asks unicast master `m` for a grant of MAX_GRANT at the profile's interval (R357). -/
def State.askGrant (s : State) (l : Fin 48) (m : Nat) (k : GrantKind) : State :=
  let a := (s.lane l).masters.getD m 0
  (s.signal l a fun n => .request n a k (s.profLog k) (s.lane l).maxGrant).needAddr l a

/-- GRANT_RENEWAL: the first request, and one 10 s before a grant held ends (R357). -/
def execGrantRenewal (t : Nat) (l : Fin 48) (m : Fin 2) (kind : GrantKind) (s : State) : Res :=
  let s := s.advance t
  let x := s.lane l
  let k := umKey m.val kind
  let held := x.umGrant.any fun g => decide (g.1 = k) && decide (s.now + 10 * secU < g.2)
  let denied := x.umRetry.any fun g => decide (g.1 = k)
  if s.portUp l && decide (m.val < x.umUsed) && !held && !denied then done (s.askGrant l m.val kind) else done s

/-- GRANT_DENIAL_RETRY: 16 s after a denial (R357). -/
def execGrantDenialRetry (t : Nat) (l : Fin 48) (m : Fin 2) (kind : GrantKind) (s : State) : Res :=
  let s := s.advance t
  let x := s.lane l
  let k := umKey m.val kind
  if s.portUp l && decide (m.val < x.umUsed) && x.umRetry.any (fun g => decide (g.1 = k) && s.past g.2 (16 * secU)) then
    done ((s.laneMod l fun x => { x with umRetry := x.umRetry.filter fun g => decide (g.1 ≠ k) }).askGrant l m.val kind)
  else done s

/-! ### Messages due (R354, R359) -/

/-- Sync, and its Follow_Up on a two-step port, with the time at which the timestamp point leaves (R346, R360). -/
def State.syncMsgs (s : State) (l : Fin 48) (seq : Nat) : List TxMsg :=
  if (s.lane l).twoStep then [.sync seq none, .followUp seq s.mt] else [.sync seq (some s.mt)]

/-- A Sync sent counts for SYNC_RATE (R372). -/
def State.syncSent (s : State) (l : Fin 48) : State := s.laneMod l fun x => { x with secSyncs := x.secSyncs + 1 }

/-- The client of a port by its entry number. -/
def State.clientNo (s : State) (l : Fin 48) (n : Nat) : Option Client :=
  s.ptp.clients.find? fun c => decide (c.lane = l ∧ c.number = n)

/-- Change client `n` of port `l`. -/
def State.clientUpd (s : State) (l : Fin 48) (n : Nat) (f : Client → Client) : State :=
  s.onPtp fun p => { p with clients := p.clients.map fun c => if c.lane = l ∧ c.number = n then f c else c }

/-- The port's streams are suspended; a Sync whose timestamp point leaves in the very cycle of a root-loss declaration
still completes (R359, R379). -/
def State.syncHeld (s : State) (l : Fin 48) : Bool :=
  s.portQuiet l || decide (s.sys.mstate = .faultHold) || (s.ringed && !(s.root.inLoss && decide (s.root.lossAt = s.now)))

/-- SYNC_TX: the multicast stream of a MASTER port, or a client's (R354, R359). -/
def execSyncTx (t : Nat) (l : Fin 48) (client : Option Nat) (s : State) : Res :=
  let s := (s.advance t).promote l
  let x := s.lane l
  if !s.portUp l || decide (x.pstate ≠ 6) || s.syncHeld l then done s
  else match client with
    | none =>
      if x.multicast ∧ s.past x.lastSync (logU s.ptp.syncLog) then
        done (((s.send l none (s.syncMsgs l x.seqSync)).syncSent l).laneMod l fun y => { y with seqSync := seqNext y.seqSync, lastSync := s.now })
      else done s
    | some n => match s.clientNo l n with
      | some c =>
        if c.sync.on ∧ s.past c.lastSync (logU c.sync.log) then
          done (((s.send l (some c.addr) (s.syncMsgs l c.seqSync)).syncSent l).clientUpd l n fun y => { y with seqSync := seqNext y.seqSync, lastSync := s.now })
        else done s
      | none => done s

/-- ANNOUNCE_TX: it goes on through a root loss and in FAULT_HOLD; PTP_QUIET stops it (R359, R435). -/
def execAnnounceTx (t : Nat) (l : Fin 48) (client : Option Nat) (s : State) : Res :=
  let s := (s.advance t).promote l
  let x := s.lane l
  if !s.portUp l || decide (x.pstate ≠ 6) || s.portQuiet l then done s
  else match client with
    | none =>
      if x.multicast ∧ s.past x.lastAnn (logU s.ptp.annLog) then
        done ((s.send l none [.announce x.seqAnn s.announced]).laneMod l fun y => { y with seqAnn := seqNext y.seqAnn, lastAnn := s.now })
      else done s
    | some n => match s.clientNo l n with
      | some c =>
        if c.ann.on ∧ s.past c.lastAnn (logU c.ann.log) then
          done ((s.send l (some c.addr) [.announce c.seqAnn s.announced]).clientUpd l n fun y => { y with seqAnn := seqNext y.seqAnn, lastAnn := s.now })
        else done s
      | none => done s

/-- A request of the port leaves: its timestamp and sequenceId are kept (R352). -/
def State.requestOut (l : Fin 48) (dest : Option Nat) (m : TxMsg) (s : State) : State :=
  (s.send l dest [m]).laneMod l fun x =>
    { x with t3 := some (s.mt : Int), reqSeq := x.seqReq, seqReq := seqNext x.seqReq, lastReq := s.now, pdT4 := none }

/-- The address of a parent that serves the port by unicast. -/
def State.parentAddr (s : State) (l : Fin 48) : Option Nat :=
  match (s.lane l).parent with | some f => f.addr | none => none

/-- A unicast parent has granted the port Delay_Resp, or the parent serves it by multicast. -/
def State.delayAllowed (s : State) (l : Fin 48) : Bool :=
  match s.parentAddr l with
  | none => true
  | some a => match (s.lane l).umOf a with
    | some m => (s.lane l).umGrant.any fun g => decide (g.1 = umKey m .delay) && decide (s.now < g.2)
    | none => false

/-- DELAY_REQ_TX: a port with a parent asks at its interval (R347, R352). -/
def execDelayReqTx (t : Nat) (l : Fin 48) (s : State) : Res :=
  let s := s.advance t
  let x := s.lane l
  if s.portUp l && !s.peer l && (decide (x.pstate = 8) || decide (x.pstate = 9)) && s.past x.lastReq (logU s.ptp.delayLog) &&
     s.delayAllowed l then
    done (s.requestOut l (s.parentAddr l) (.delayReq x.seqReq))
  else done s

/-- PDELAY_REQ_TX: every port with the peer-delay mechanism asks at its interval (R347, R352). -/
def execPdelayReqTx (t : Nat) (l : Fin 48) (s : State) : Res :=
  let s := s.advance t
  let x := s.lane l
  if s.portUp l && s.peer l && s.past x.lastReq (logU s.ptp.delayLog) then done (s.requestOut l none (.pdelayReq x.seqReq)) else done s

/-- masterLockingStatus (R369). -/
def State.lockingStatus (s : State) : Nat :=
  match (s.dpll 0).dstate with
  | .disabled => 1 | .freerun => 1 | .acquiring => 2 | .holdover => 3 | .locked => 4

/-- METADATA_TLV_TX: the SMPTE metadata TLV of a MASTER port under profile 2 (R347, R369). -/
def execMetadataTlvTx (t : Nat) (l : Fin 48) (s : State) : Res :=
  let s := (s.advance t).promote l
  let x := s.lane l
  if s.portUp l && decide (s.ptp.profile = 2) && s.ptp.smEn && decide (x.pstate = 6) && s.past x.lastMeta (logU s.ptp.smLog) then
    done ((s.send l none [.metadata x.seqMgmt s.ptp.smNum s.ptp.smDen s.lockingStatus s.ptp.localOffset]).laneMod l
      fun y => { y with seqMgmt := seqNext y.seqMgmt, lastMeta := s.now })
  else done s

/-! ### Other frames (R364, R365) -/

/-- RX_MANAGEMENT: not interpreted; to the host with HOST_COPY, else dropped and counted (R354). -/
def execRxManagement (t : Nat) (l : Fin 48) (h : MsgHdr) (bytes : List (BitVec 8)) (s : State) : Res :=
  rxWith t l h (fun s => if (s.lane l).hostCopy then s.toHost l bytes else s.laneCount l 18) s

/-- What an UP lane does with a frame that is no PTP message; a port with a tag drops and counts one without it (R348,
R364). -/
def State.frameIn (s : State) (l : Fin 48) (vlan : Option Nat) (f : State → State) : State :=
  if (s.lane l).lstate ≠ .up then s else if (s.lane l).tagOk vlan then f s else s.laneCount l 18

/-- RX_ARP_NDP: the engine answers a request for the port's own address and takes the answer to a request of its own; the
rest goes to the host with HOST_COPY (R364). -/
def execRxArpNdp (t : Nat) (l : Fin 48) (vlan : Option Nat) (own : Bool) (answers : Option Nat) (bytes : List (BitVec 8)) (s : State) : Res :=
  let s := s.advance t
  done (s.frameIn l vlan fun s =>
    if own then s.putFrame l (s.tagged l .answer)
    else match answers.filter fun a => (s.lane l).resolving.contains a with
      | some a => s.laneMod l fun x => { x with resolving := x.resolving.filter (· ≠ a), resolved := x.resolved ++ [a] }
      | none => if (s.lane l).hostCopy then s.toHost l bytes else s)

/-- RX_IGMP_MLD: asked, the engine reports the groups it has joined; other frames are dropped (R364). -/
def execRxIgmpMld (t : Nat) (l : Fin 48) (vlan : Option Nat) (group : Bool) (s : State) : Res :=
  let s := s.advance t
  done (s.frameIn l vlan fun s =>
    if group then s.laneMod l fun x => { x with sent := x.joined.map fun a => s.tagged l (.join a) } else s)

/-- RX_OTHER_FRAME: dropped and counted (R364). -/
def execRxOtherFrame (t : Nat) (l : Fin 48) (s : State) : Res :=
  let s := s.advance t
  done (if (s.lane l).lstate = .up then s.laneCount l 18 else s)

/-- HOST_FRAME_SEND: a complete host frame leaves in a gap (R365). -/
def execHostFrameSend (t : Nat) (l : Fin 48) (s : State) : Res :=
  let s := s.advance t
  match (s.lane l).sendQ with
  | b :: r =>
    if (s.lane l).lstate = .up then
      done (((s.laneMod l fun x => { x with sendQ := r }).putFrame l { msg := .host b }).laneCount l 19)
    else done s
  | [] => done s

/-! ### ESMC (R366) -/

/-- RX_ESMC: the QL of the last PDU is kept (R366). -/
def execRxEsmc (t : Nat) (l : Fin 48) (vlan : Option Nat) (ql : BitVec 4) (s : State) : Res :=
  let s := s.advance t
  done (s.frameIn l vlan fun s =>
    if (s.lane l).esmcRx then
      (s.laneMod l fun x => { x with rxQl := ql.toNat, esmcAt := s.now, esmcTimeout := false }).ssmUpd l
    else s)

/-- ESMC_TIMEOUT: no PDU for 5 s; the QL is taken as DNU (R366). -/
def execEsmcTimeout (t : Nat) (l : Fin 48) (s : State) : Res :=
  let s := s.advance t
  let x := s.lane l
  if x.esmcRx && !x.esmcTimeout && s.past x.esmcAt (5 * secU) then
    done (((s.laneMod l fun x => { x with esmcTimeout := true, rxQl := 15 }).laneCount l 23).ssmUpd l)
  else done s

/-- ESMC_INFO_TX: an information PDU each second, an event PDU when the QL has changed (R366). -/
def execEsmcInfoTx (t : Nat) (l : Fin 48) (s : State) : Res :=
  let s := s.advance t
  let x := s.lane l
  let q := s.qlOut l
  if x.lstate ≠ .up ∨ !x.esmcTx then done s
  else if s.past x.esmcSent secU then
    done ((s.putFrame l (s.tagged l (.esmc (decide (q ≠ x.txQl)) q))).laneMod l fun y => { y with txQl := q, esmcSent := s.now })
  else if q ≠ x.txQl then done ((s.putFrame l (s.tagged l (.esmc true q))).laneMod l fun y => { y with txQl := q })
  else done s

end Sys2Proof.Machine
end

