-- ==== Sys2Proof/Machine/Pair.lean ====
section
/-!
DEFINITION. The pair unit: the Clapper, roles and claims, heartbeats, cross-measurement for candidate 65, state
snapshots, commanded handover, and the PAIR commands (R410 to R442).
-/

namespace Sys2Proof.Machine

/-- Add 1 to counter `i` of the pair unit (R440). -/
def State.pairCount (s : State) (i : Nat) : State := s.count (0x1800 + i)

/-- 3.0 ms, the limit of a silent path (R420). -/
def silentU : Nat := 3 * msU

/-- HB_OUT: a square wave of 1 kHz from the pair unit's power-up on, low while it is down (R410, R415; log 29). -/
def State.hbOut (s : State) : Bool := s.pair.en && decide ((s.now - s.pair.enFrom) / (500 * usU) % 2 = 1)

/-- A path delivered within the last 3.0 ms (R420). -/
def State.pathOk (s : State) (a : Option Nat) : Bool := match a with | some f => decide (s.now ≤ f + silentU) | none => false

/-! ### Configuration digest (R419, R421) -/

/-- A Bool as a number. -/
def bi (b : Bool) : Int := b.toNat

/-- Configuration of a channel. -/
def Chan.cfg (c : Chan) : List Int :=
  [bi c.enable, c.threshold, c.hyst, c.slope, bi c.term, c.mode, c.div, c.event, c.format, c.clkDiv]

/-- Configuration of a candidate. -/
def Cand.cfg (c : Cand) : List Int :=
  [bi c.enable, bi c.time, bi c.tTrace, bi c.fTrace, bi c.ssm, c.num, c.den, c.extDelay, c.accept, c.reject, c.fmWindow,
   c.phaseLimit, c.xchk, c.actMult, c.pmConfirm, bi c.fmBase, bi c.wtrEn, c.wtrTime]

/-- Configuration of a DPLL. -/
def Dpll.cfg (d : Dpll) : List Int :=
  d.use.toList.flatMap (fun u => [bi u.use, (u.prio : Int)]) ++
  [bi d.forcedMode, bi d.revert, bi d.timeAsFreq, (match d.manual with | some r => (r.val : Int) | none => -1), d.slopeLimit,
   d.settleThr, d.hitLimit, bi d.enable, d.damping, d.bw, d.lockThr, d.stepThr, d.pullLimit, d.recSlew, d.lockTime] ++
  d.steps.flatMap (fun p => [(p.1 : Int), (p.2 : Int)]) ++ [(d.restartAfter : Int), d.window, d.guard, bi d.driftEn, bi d.tempEn, d.budget]

/-- Configuration of a domain. -/
def Domain.cfg (d : Domain) : List Int :=
  [bi d.enable, (d.num : Int), d.den, bi d.rampLoop, d.rampLast, d.rampRepeat] ++
  d.segs.toList.flatMap fun o => match o with | some g => [g.target, g.slope, g.dwell] | none => []

/-- Configuration of the outputs. -/
def Out.cfg (o : Out) : List Int :=
  o.ck.toList.flatMap (fun k => [bi k.enable, (k.format : Int), bi k.invert, k.domain.val, k.div, k.phaseAdj]) ++
  o.pl.toList.flatMap fun p =>
    [bi p.enable, bi p.level33, bi p.invert, bi p.half, (p.domain.val : Int), p.num, p.den, p.width, p.delay, bi p.auto, p.slewRate]

/-- The configuration of the TIME, MEAS, REF, LOOP, SYN and OUT groups (R419). -/
def State.cfg (s : State) : List Int :=
  [s.time.host.utc.getD 0, s.time.host.event, s.time.host.next, bi s.time.hostOverride] ++ s.meas.chans.toList.flatMap Chan.cfg ++
  s.ref.cands.toList.flatMap Cand.cfg ++ s.loop.dplls.toList.flatMap Dpll.cfg ++ s.out.doms.toList.flatMap Domain.cfg ++ s.out.cfg

/-- This module's DIGEST. -/
def State.digest (s : State) : Word := Config.digest s.cfg

/-- CONFIG_MISMATCH: the digests differ, or the asymmetries do not cancel (R421). -/
def State.mismatchNow (s : State) : Bool :=
  if s.pair.frameAt.isSome then decide (s.pair.partner.digest ≠ s.digest) || decide (s.pair.asym + s.pair.partner.asym ≠ 0)
  else s.pair.mismatch

/-! ### Candidate 65 -/

/-- A partner that is alive but not FIT sets EXT_REJ of candidate 65 (R422, R205). -/
def pairExt (s : State) : State := refExtRej refPair (s.pair.alive && !s.pair.partner.fit) s

/-! ### Roles and claims (R416 to R418, R429) -/

/-- A takeover takes the items of the held snapshot (R427, R429). -/
def State.takeSnap (s : State) : State :=
  let n := s.pair.snap
  if n.seq = 0 then s
  else
    let s := s.onLoop fun l => { l with traceHeld := n.traceHeld.getD 0 l.traceHeld, fTraceHeld := n.fTrace }
    utcUpdate (s.onTime fun x => { x with taken := n.time })

/-- The module becomes ACTIVE by `cause`; after a partner loss with the held snapshot's items (R416, R429, R432). -/
def State.toActive (cause : Nat) (s : State) : State :=
  let s := s.onPair fun p =>
    { p with lastCause := cause, gapFrom := if cause = 1 ∨ cause = 2 then p.ilkInFrom else 0, gapUs := if cause = 3 then 0 else p.gapUs }
  let s := s.roleTo .active
  if cause = 1 then s.takeSnap else s

/-- ILK_OUT is asserted or deasserted; the outputs follow (R412). -/
def State.ilkTo (on : Bool) (s : State) : State :=
  outGate (s.onPair fun p => { p with ilkOut := on, bothFrom := if on && p.ilkIn then some s.now else none })

/-- The claim itself: ILK_OUT asserted, CLAIMING, then ACTIVE as ILK_IN is deasserted (R416, R417). -/
def State.claimNow (cause : Nat) (s : State) : State :=
  let s := (s.onPair fun p => { p with claimFirst := none, claimCause := cause }).pairCount 3
  let s := (s.ilkTo true).roleTo .claiming
  if s.pair.ilkIn then s else s.toActive cause

/-- A claim begins: slot A samples ILK_IN once, slot B once more 50 us later. None in FAULT_HOLD, with SLOT_CONFLICT, or
while ILK_IN is asserted (R416, R417, R418, R421). -/
def State.claim (cause : Nat) (s : State) : State :=
  if !s.pair.en ∨ s.pair.slotConflict ∨ s.pair.ilkIn ∨ s.sys.mstate = .faultHold ∨ s.pair.claimFirst.isSome then s
  else if s.sys.slotB then s.onPair fun p => { p with claimFirst := some s.now, claimCause := cause }
  else s.claimNow cause

/-- INIT is judged: STANDBY beside an ACTIVE partner or with ILK_IN asserted; else a claim beside a partner in INIT or
STANDBY (R416, R418). -/
def initJudge (s : State) : State :=
  if s.pair.role ≠ .init ∨ s.sys.mstate = .faultHold then s
  else if (s.pair.alive ∧ s.pair.partner.role = 4) ∨ s.pair.ilkIn then s.roleTo .standby
  else if s.pair.alive ∧ (s.pair.partner.role = 1 ∨ s.pair.partner.role = 2) then s.claim 0
  else s

/-- CLAIM_SECOND_SAMPLE: slot B claims when its second sample finds ILK_IN deasserted too (R417). -/
def execClaimSecondSample (t : Nat) (s : State) : Res :=
  let s := s.advance t
  match s.pair.claimFirst with
  | some f =>
    if s.past f (50 * usU) then
      let c := s.pair.claimCause
      let s := s.onPair fun p => { p with claimFirst := none }
      done (if s.pair.ilkIn ∨ s.pair.slotConflict ∨ s.sys.mstate = .faultHold ∨ !s.pair.en then s else s.claimNow c)
    else done s
  | none => done s

/-- RELEASE_DETECT: ILK_IN deasserted for 50 us, and a heartbeat since then reports the partner's ILK_OUT deasserted
(R418). -/
def execReleaseDetect (t : Nat) (s : State) : Res :=
  let s := s.advance t
  let p := s.pair
  let heard : Bool := match p.frameAt with | some f => decide (p.ilkInFrom ≤ f) | none => false
  if p.role = .standby ∧ !p.ilkIn ∧ s.past p.ilkInFrom (50 * usU) ∧ heard ∧ !p.partner.ilkOut then done (s.claim 2) else done s

/-- INIT_WAIT: no heartbeat on either path for INIT_WAIT (R418; log 29). -/
def execInitWait (t : Nat) (s : State) : Res :=
  let s := s.advance t
  let p := s.pair
  let last := max p.enFrom (max (p.frameAt.getD 0) (p.pinAt.getD 0))
  if p.role = .init ∧ !p.ilkIn ∧ s.past last (p.initWait * msU) then done (s.claim 0) else done s

/-- Since when the partner's report of ILK_OUT and ILK_IN disagree, while it is alive (R421). -/
def State.ilkJudge (s : State) : State :=
  if !s.pair.alive ∨ s.pair.frameAt.isNone then s
  else
    s.onPair fun p =>
      let dis := decide (p.partner.ilkOut ≠ p.ilkIn)
      { p with ilkFault := p.ilkFault && dis, ilkDisFrom := if dis then some (p.ilkDisFrom.getD s.now) else none }

/-- ILK_IN_ASSERT: the outputs are gated; INIT goes to STANDBY; a claim between its samples sees the pin at the second
(R412, R413, R416, R417). -/
def execIlkInAssert (t : Nat) (s : State) : Res :=
  let s := s.advance t
  if s.pair.ilkIn then done s
  else
    let s := s.onPair fun p =>
      { p with ilkIn := true, ilkInFrom := s.now, bothFrom := if p.ilkOut then some s.now else none }
    let first := s.pair.claimFirst
    let s := (initJudge (outGate s)).ilkJudge
    done (s.onPair fun p => { p with claimFirst := first })

/-- ILK_IN_DEASSERT: a CLAIMING module becomes ACTIVE; INIT may claim, and a STANDBY whose partner was lost while ILK_IN
held it back (R416, R418, R420; log 29). -/
def execIlkInDeassert (t : Nat) (s : State) : Res :=
  let s := s.advance t
  if !s.pair.ilkIn then done s
  else
    let s := (outGate (s.onPair fun p => { p with ilkIn := false, ilkInFrom := s.now, bothFrom := none })).ilkJudge
    done (if s.pair.role = .claiming then s.toActive s.pair.claimCause
          else if s.pair.role = .standby ∧ !s.pair.alive ∧ (s.pair.frameAt.isSome ∨ s.pair.pinAt.isSome) then s.claim 1
          else initJudge s)

/-- PAIR_CONTEST: both interlock pins asserted for more than 1 us: slot B withdraws to INIT, slot A stays gated (R413). -/
def execPairContest (t : Nat) (s : State) : Res :=
  let s := s.advance t
  match s.pair.bothFrom with
  | some f =>
    if s.pair.en ∧ f + usU < s.now then
      let s := (s.pairCount 4).handoverEnd
      if s.sys.slotB then
        let s := s.onPair fun p => { p with claimFirst := none }
        done (((s.ilkTo false).roleTo .init).report 0x3E0 .contained 0x50)
      else done (s.onPair fun p => { p with bothFrom := none })
    else done s
  | none => done s

/-! ### Life of the partner (R420) -/

/-- The partner comes to life: Chime PAIR (R78). -/
def State.aliveNow (s : State) : State := if s.pair.alive then s else (s.onPair fun p => { p with alive := true }).chime 11

/-- Since when both paths deliver, a path having delivered now after `prev` with the other at `other` (R420). -/
def State.bothNow (s : State) (prev other : Option Nat) : State :=
  s.onPair fun p =>
    { p with bothOkFrom := if s.pathOk other then (if s.pathOk prev then some (p.bothOkFrom.getD s.now) else some s.now) else none }

/-- HB_IN_EDGE (R420). -/
def execHbInEdge (t : Nat) (s : State) : Res :=
  let s := s.advance t
  if !s.pair.en then done s
  else
    let prev := s.pair.pinAt
    let s := s.bothNow prev s.pair.frameAt
    done (pairExt (s.onPair fun p => { p with pinAt := some s.now }).aliveNow)

/-- Partner loss is due: 3.0 ms after the later of the last frame and the last edge (R420). -/
def State.lossDue (s : State) : Bool := s.pair.alive && s.past (max (s.pair.frameAt.getD 0) (s.pair.pinAt.getD 0)) silentU

/-- The partner is lost: candidate 65 and an agreed handover end, a STANDBY claims (R418, R420, R442). -/
def State.partnerLost (s : State) : State :=
  let s := ((s.onPair fun p => { p with alive := false, bothOkFrom := none, ilkDisFrom := none }).pairCount 2).chime 11
  let s := pairExt (refLoss refPair s)
  let s := if s.pair.hoDone then s else s.handoverEnd
  if s.pair.role = .standby then s.claim 1 else s

/-- PARTNER_LOSS (R420). -/
def execPartnerLoss (t : Nat) (s : State) : Res :=
  let s := s.advance t
  done (if s.lossDue then s.partnerLost else s)

/-- PATH_FAULT: one path silent for 3.0 ms while the other delivers (R420). -/
def execPathFault (t : Nat) (s : State) : Res :=
  let s := s.advance t
  let p := s.pair
  let silent := fun a : Option Nat => s.past (a.getD (max p.enFrom p.measFrom)) silentU && !s.pathOk a
  if p.en ∧ p.alive ∧ !p.pathFault ∧ ((silent p.frameAt ∧ s.pathOk p.pinAt) ∨ (silent p.pinAt ∧ s.pathOk p.frameAt)) then
    done ((((s.onPair fun p => { p with pathFault := true, bothOkFrom := none }).pairCount 9).chime 11).report 0x3E0 .contained 0x51)
  else done s

/-- PATH_FAULT_CLEAR: both paths have delivered for 1 s (R420). -/
def execPathFaultClear (t : Nat) (s : State) : Res :=
  let s := s.advance t
  match s.pair.bothOkFrom with
  | some f =>
    if s.pair.pathFault ∧ s.past f secU ∧ s.pathOk s.pair.frameAt ∧ s.pathOk s.pair.pinAt then
      done ((s.onPair fun p => { p with pathFault := false }).chime 11)
    else done s
  | none => done s

/-- PAIR_ILK: the partner's report and ILK_IN have disagreed for 10 ms (R421). -/
def execPairIlk (t : Nat) (s : State) : Res :=
  let s := s.advance t
  match s.pair.ilkDisFrom with
  | some f =>
    if s.pair.alive ∧ !s.pair.ilkFault ∧ s.past f (10 * msU) then
      done (((s.onPair fun p => { p with ilkFault := true }).chime 11).report 0x3E0 .contained 0x52)
    else done s
  | none => done s

/-! ### Heartbeats (R419, R421 to R424) -/

/-- The module is FIT: ACTIVE, in LOCKED, HOLDOVER or RECOVERY, the partner lane measured (R422). -/
def State.fitNow (s : State) : Bool :=
  decide (s.pair.role = .active) && s.pair.measured &&
  (decide (s.sys.mstate = .locked) || decide (s.sys.mstate = .holdover) || decide (s.sys.mstate = .recovery))

/-- The heartbeat the module sends now (R419). -/
def State.heartbeat (s : State) : HbFrame :=
  { seq := s.pair.seqTx, role := s.pair.role.code, mstate := s.sys.mstate.code, slotB := s.sys.slotB, ilkOut := s.pair.ilkOut,
    ilkIn := s.pair.ilkIn, gong := s.flt.gong, fit := s.fitNow, propose := s.pair.hoPropose,
    accept := s.pair.hoAccepted && decide (s.pair.role = .standby), mark := s.mt, echoSeq := s.pair.echoSeq, echoRx := s.pair.echoRx,
    ofs := (List.finRange 8).map fun d => s.domOfs d, digest := s.digest, asym := s.pair.asym, teEst := (s.dpll 0).teEst,
    hoT := match s.pair.hoT with | some h => h * secU | none => 0 }

/-- FLAGS of a heartbeat (R419). -/
def HbFrame.flags (f : HbFrame) : Word :=
  pack [(f.role, 31, 29), (f.mstate, 28, 26), pbit f.slotB 25, pbit f.ilkOut 24, pbit f.ilkIn 23, pbit f.gong 22, pbit f.fit 21,
        pbit f.propose 20, pbit f.accept 19]

/-- The octets of a heartbeat frame: type 0x4B01 and the 128 bytes of its payload (R411, R419). -/
def HbFrame.bytes (f : HbFrame) : List (BitVec 8) :=
  let words := fun l : List Word => l.flatMap fun w => numBytes w.toNat 4
  numBytes 0x4B01 2 ++ numBytes f.seq 4 ++ words [f.flags] ++ words (time96 f.mark.toNat) ++ numBytes f.echoSeq 4 ++
  words (time96 f.echoRx.toNat) ++ (List.range 8).flatMap (fun d => words (s64 (f.ofs.getD d 0))) ++ words [f.digest] ++
  words (s64 f.asym) ++ numBytes f.teEst 4 ++ words (time96 f.hoT)

/-- HEARTBEAT_TX: every 1 ms; INIT is judged with it (R416, R419). -/
def execHeartbeatTx (t : Nat) (s : State) : Res :=
  let s := s.advance t
  if s.pair.en ∧ s.past s.pair.hbTxAt msU then
    let f := s.heartbeat
    let s := if s.pair.measured then s.onPair fun p =>
        { p with hbSent := some f, hbOctets := f.bytes, seqTx := (p.seqTx + 1) % 2 ^ 32,
                 txMark := (p.txMark ++ [(p.seqTx, s.mt)]).drop (p.txMark.length + 1 - 64) }
      else s
    done (initJudge (s.onPair fun p => { p with hbTxAt := s.now }))
  else done s

/-- The partner as a heartbeat reports it. -/
def partnerOf (f : HbFrame) : Partner :=
  { seq := f.seq, role := f.role, mstate := f.mstate, slotB := f.slotB, ilkOut := f.ilkOut, fit := f.fit, gong := f.gong,
    digest := f.digest, asym := f.asym, teEst := f.teEst, ofs := f.ofs }

/-- What a heartbeat says of the pair: SEQ gap, the interlock's reports, SLOT_CONFLICT, CONFIG_MISMATCH (R419, R421). -/
def State.hbFlags (f : HbFrame) (s : State) : State :=
  let s := if s.pair.frameAt.isSome ∧ f.seq ≠ (s.pair.partner.seq + 1) % 2 ^ 32 then s.pairCount 1 else s
  let same := decide (f.slotB = s.sys.slotB)
  let raise := same && !s.pair.slotConflict
  let dis := decide (f.ilkOut ≠ s.pair.ilkIn)
  let mis := decide (f.digest ≠ s.digest) || decide (s.pair.asym + f.asym ≠ 0)
  let was := s.pair
  let s := s.onPair fun p =>
    { p with partner := partnerOf f, slotConflict := same, mismatch := mis, ilkFault := p.ilkFault && dis,
             ilkDisFrom := if dis then some (p.ilkDisFrom.getD s.now) else none }
  let s := if was.partner.role ≠ f.role ∨ was.slotConflict ≠ same ∨ was.mismatch ≠ mis ∨ was.partner.fit ≠ f.fit then s.chime 11 else s
  if raise then s.report 0x3E0 .contained 0x53 else s

/-- The two-way mean of a heartbeat that echoes one of this module's; an outlier is dropped (R423). -/
def State.twoWay (f : HbFrame) (t4 : Int) (s : State) : Option Int × State :=
  match s.pair.txMark.find? fun p => p.1 = f.echoSeq with
  | none => (none, s)
  | some p =>
    let m := rdiv ((f.echoRx - (p.2 : Int)) + (t4 - f.mark)) 2
    let l := s.pair.means
    let avg := rdiv (l.foldl (· + ·) 0) l.length
    if !l.isEmpty ∧ nsU < (m - avg).natAbs then (none, s.pairCount 8)
    else
      (some m, s.onPair fun q => { q with means := (q.means ++ [m]).drop (q.means.length + 1 - 64),
                                          txMark := q.txMark.filter fun y => !decide (y.2 < p.2) })

/-- Size of an offset in fs, saturating (R438). -/
def fsOf (v : Int) : Nat := satU 32 (v.natAbs * 1000000 / 65536)

/-- On a STANDBY a heartbeat of an ACTIVE partner gives the samples of candidate 65 (R424, R438). -/
def State.pairSample (f : HbFrame) (x : Stamp) (mean : Int) (s : State) : State :=
  if s.pair.role ≠ .standby ∨ f.role ≠ 4 then s
  else
    let k := x.edge
    let s0 := s.nowTime x - (f.mark + (mean + s.pair.asym) + f.ofs.getD 0 0)
    let all := (List.finRange 8).map fun d => if d.val = 0 then s0 else s0 + f.ofs.getD 0 0 + s.phaseOfs d refPair k
    let s := s.onPair fun p =>
      { p with align := (p.align ++ [s0]).drop (p.align.length + 1 - 1000), alignSec := all.foldl (fun a v => max a (fsOf v)) p.alignSec }
    refSample refPair k s0 s

/-- The standby is fit for a handover (R433). -/
def State.fitStandby (s : State) : Bool :=
  decide (s.pair.role = .standby) && decide (s.sys.mstate = .locked) && !s.mismatchNow &&
  s.loop.dplls.toList.all fun d =>
    decide (d.dstate = .disabled) || (decide (d.dstate = .locked) && decide (d.cur = some refPair) && decide (d.sw = .none) && !d.stepPending)

/-- The handover protocol of a heartbeat: the standby accepts or forgets a proposal, the active learns of acceptance and
of completion (R433, R439). -/
def State.hbHandover (f : HbFrame) (s : State) : State :=
  if s.pair.role = .standby then
    s.onPair fun p =>
      if f.propose then
        (if p.hoAccepted ∧ p.hoT = some (f.hoT / secU) then p
         else if s.fitStandby then { p with hoAccepted := true, hoT := some (f.hoT / secU) } else { p with hoAccepted := false, hoT := none })
      else if decide (f.role = 4) && p.hoAccepted && (match p.hoT with | some h => decide (s.msec < h) | none => true) then
        { p with hoAccepted := false, hoT := none }
      else p
  else if s.pair.hoPropose && f.accept && (match s.pair.hoT with | some h => decide (f.hoT = h * secU) | none => false) then
    s.onPair fun p => { p with hoAccepted := true }
  else s

/-- T has come and the partner is ACTIVE: PAIR_HANDOVER completes (R439). -/
def State.hbDone (f : HbFrame) (s : State) : State :=
  if s.pair.hoDone ∧ f.role = 4 then
    let s := match s.pair.hoTag, s.pair.hoT with
      | some i, some h => s.holdOk i (time96 (h * secU))
      | _, _ => s
    outGate (s.onPair fun p => { p with hoTag := none, hoT := none, hoPropose := false, hoAccepted := false, hoDone := false })
  else s

/-- HEARTBEAT_RX (R419 to R424, R433). -/
def execHeartbeatRx (t : Nat) (f : HbFrame) (s : State) : Res :=
  let s := s.advance t
  if !s.pair.en ∨ !s.pair.measured then done s
  else
    let s := (s.bothNow s.pair.frameAt s.pair.pinAt).pairCount 0
    let s := (s.hbFlags f).aliveNow
    let e := s.pair.evs.find? fun x => x.latch = f.rx
    let s := s.onPair fun p => { p with frameAt := some s.now, evs := p.evs.filter fun x => decide (f.rx < x.latch) }
    let s := pairExt s
    let s := match e with
      | none => s
      | some e =>
        let s := s.onPair fun p => { p with echoSeq := f.seq, echoRx := e.time }
        if e.invalid then s
        else match s.twoWay f (s.nowTime e) with
          | (some m, s) => s.pairSample f e m
          | (none, s) => s
    done (initJudge ((s.hbHandover f).hbDone f))

/-- PARTNER_LANE_MEASURED: the partner lane's delays are measured (R411). -/
def execPartnerLaneMeasured (t : Nat) (tx rx : Nat) (s : State) : Res :=
  let s := s.advance t
  if s.pair.en ∧ !s.pair.measured ∧ s.past s.pair.measFrom (3500 * usU) then
    done ((s.onPair fun p => { p with measured := true, txDelay := satU 32 tx, rxDelay := satU 32 rx, checkAt := s.now }).chanMod 65
      fun c => { c with dIn := delayOfPs rx })
  else done s

/-! ### Snapshots (R427, R428) -/

/-- The snapshot the module sends now (R427). -/
def State.snapshot (s : State) : SnapIn :=
  let (src, tt, ft) := s.timeSource
  let l := s.loop.dplls.toList
  { utc := s.time.offset, offSource := s.time.offSource, event := s.time.event, leap := s.time.leap, source := src,
    tTrace := tt, fTrace := ft, dstates := l.map (·.dstate.code), teEst := l.map (·.teEst), feEst := l.map (·.feEst),
    overBudget := l.map (·.overBudget), traceHeld := l.mapIdx fun i _ => decide (i = 0) && s.loop.traceHeld,
    clockClass := s.clockClass, mstate := s.sys.mstate.code }

/-- SNAPSHOT_TX: every 100 ms while ACTIVE; what an earlier active left unfinished is discarded (R427, R428). -/
def execSnapshotTx (t : Nat) (s : State) : Res :=
  let s := s.advance t
  if s.pair.role = .active ∧ s.pair.measured ∧ s.past s.pair.snapTxAt (100 * msU) then
    let s := s.snapDrop
    let c := s.snapshot
    done (s.onPair fun p => { p with snapSent := some c, snapTx := (p.snapTx + 1) % 2 ^ 32, snapTxAt := s.now })
  else done s

/-- SNAPSHOT_CHUNK_RX: a chunk of another SNAP_SEQ discards an unfinished snapshot (R427, R428). -/
def execSnapshotChunkRx (t : Nat) (seq : Nat) (idx : Fin 16) (_ : Nat) (bytes : List (BitVec 8)) (s : State) : Res :=
  let s := s.advance t
  if !s.pair.en ∨ !s.pair.measured ∨ s.pair.role = .active then done s
  else
    let s := if s.pair.asmSeq ≠ seq then s.snapDrop else s
    done (s.onPair fun p =>
      { p with asmSeq := seq, asmChunks := p.asmChunks.filter (fun c => decide (c.1 ≠ idx.val)) ++ [(idx.val, bytes.take 1024)] })

/-- The chunk data in order, when every chunk is there (R428). -/
def Pair.assembled (p : Pair) (count : Nat) : Option (List (BitVec 8)) :=
  (List.range count).foldr (fun i o => match o, p.asmChunks.find? fun c => c.1 = i with
    | some l, some c => some (c.2 ++ l)
    | _, _ => none) (some [])

/-- The time properties a snapshot carries; OFFSET_SOURCE 7: no offset (R126, R427). -/
def SnapIn.time (c : SnapIn) : TimeSrc :=
  if c.offSource = 7 then TimeSrc.init
  else { utc := some c.utc, event := c.event, next := if c.event = 0 then 0 else c.utc + c.leap }

/-- The held snapshot from what a committed one carries, after the one held before. -/
def snapOf (seq now : Nat) (old : TimeSrc) (c : SnapIn) : PairSnap :=
  { seq := seq, at_ := now, time := old.receive c.time, offset := c.utc, offSource := c.offSource,
    source := c.source, tTrace := c.tTrace, fTrace := c.fTrace, dstates := c.dstates, teEst := c.teEst, feEst := c.feEst,
    overBudget := c.overBudget, traceHeld := c.traceHeld, clockClass := c.clockClass, mstate := c.mstate }

/-- SNAPSHOT_COMMIT_RX: with every chunk and a valid CRC the held snapshot is replaced, else it is discarded (R428). A
commit that meets the partner's loss counts: a takeover of that instant takes it (R429, R442). -/
def execSnapshotCommitRx (t : Nat) (seq count : Nat) (crc : Word) (content : SnapIn) (s : State) : Res :=
  let s := s.advance t
  let met := decide (s.pair.role = .active) && decide (s.pair.lastCause = 1) && decide (s.pair.roleAt = s.mt)
  if !s.pair.en ∨ !s.pair.measured ∨ (s.pair.role = .active ∧ !met) then done s
  else
    let data := if s.pair.asmSeq = seq ∧ 1 ≤ count ∧ count ≤ 16 then s.pair.assembled count else none
    let s := s.onPair fun p => { p with asmChunks := [] }
    match data with
    | some d =>
      if crc32c d = crc then
        let n := snapOf seq s.now s.time.partner content
        let s := (s.onPair fun p => { p with snap := n }).pairCount 6
        let s := (utcUpdate (s.onTime fun x => { x with partner := n.time })).logBad content.time.bad s
        done (if met then s.takeSnap else s)
      else done (s.pairCount 7)
    | none => done (s.pairCount 7)

/-! ### Commanded handover (R433, R439) -/

/-- HANDOVER_INSTANT: at the agreed T the active releases and becomes INIT, the standby claims without the wait
(R433). -/
def execHandoverInstant (t : Nat) (s : State) : Res :=
  let s := s.advance t
  let p := s.pair
  match p.hoT with
  | none => done s
  | some h =>
    if !p.hoAccepted ∨ s.msec < h then done s
    else if p.role = .active ∧ p.hoPropose ∧ !p.hoDone then
      let s := s.onPair fun p => { p with hoDone := true, hoPropose := false }
      done (((s.ilkTo false).roleTo .init).pairCount 5)
    else if p.role = .standby ∧ !p.slotConflict then
      let s := s.onPair fun p => { p with hoAccepted := false, hoT := none, claimFirst := none, claimCause := 3 }
      let s := ((s.ilkTo true).roleTo .claiming).pairCount 5
      done (if s.pair.ilkIn then s else s.toActive 3)
    else done s

/-- HO_ACCEPT_TIMEOUT: no HO_ACCEPT within 10 ms (R439). -/
def execHoAcceptTimeout (t : Nat) (s : State) : Res :=
  let s := s.advance t
  match s.pair.hoTag with
  | some i => if !s.pair.hoAccepted ∧ !s.pair.hoDone ∧ s.past s.pair.hoFrom (10 * msU) then done (s.endFail i (timeoutF 0x0004)) else done s
  | none => done s

/-- PAIR_HANDOVER acceptance (R439). -/
def pairHandoverChecks (_ : Bool) (_ : Args) (s : State) : Checks :=
  let p := s.pair
  [cond (decide (p.role ≠ .active)) (wrongState 0x0001),
   cond (!p.alive || decide (p.partner.role ≠ 2) || s.mismatchNow) (wrongState 0x0002),
   cond p.hoTag.isSome (busyRes 0x0003)]

/-- PAIR_HANDOVER: the first Metronome second at least 20 ms ahead is proposed (R433). -/
def pairHandoverBody (i : Fin 48) (_ : Args) (s : State) : State × Reply :=
  (s.onPair fun p =>
    { p with hoTag := some i, hoPropose := true, hoT := some ((s.mt + 20 * msU + secU - 1) / secU), hoFrom := s.now, hoAccepted := false,
             hoDone := false }, .deferred)

/-- PAIR_HANDOVER (R439). -/
def execPairHandover (t : Nat) (tag : Fin 48) (s : State) : Res :=
  runCmd .pairHandover tag pairHandoverChecks pairHandoverBody (s.advance t)

/-! ### PAIR_CONFIG and PAIR_STATUS -/

/-- PAIR_CONFIG acceptance (R437). -/
def pairConfigChecks (_ : Bool) (a : Args) (s : State) : Checks :=
  [cond (!ab a 0 31 && s.pair.alive) (wrongState 0x0001), rsv a 0 29 0 0x0002, rng a 1 31 0 10 60000 0x0002,
   srng64 a 2 (-655360) 655360 0x0002]

/-- The pair unit powers up in INIT or down (R415, R416, R437). -/
def State.pairPower (on : Bool) (s : State) : State :=
  if s.pair.en = on then s
  else if on then
    let s := s.onPair fun p => { p with en := true, enFrom := s.now, measured := false, measFrom := s.now, frameAt := none, pinAt := none }
    initJudge ((s.chanUp 65).roleTo .init)
  else
    let s := s.handoverEnd.snapDrop
    let s := s.onPair fun p =>
      { p with en := false, ilkOut := false, alive := false, pathFault := false, ilkFault := false, slotConflict := false, mismatch := false,
               bothFrom := none, bothOkFrom := none, ilkDisFrom := none, claimFirst := none, measured := false, frameAt := none,
               pinAt := none, means := [], txMark := [], asmChunks := [] }
    refOff refPair ((s.chanDown 65).roleTo .off)

/-- PAIR_CONFIG at its apply edge, after a loss of that edge; an ENABLE 0 that meets a live partner is not applied (R437,
R442). -/
def applyPairConfig (a : Args) (s : State) : State :=
  let s := if s.lossDue then s.partnerLost else s
  if !ab a 0 31 ∧ s.pair.alive then s.notApplied 0x0A00 0x0001
  else
    (s.onPair fun p =>
      { p with quiet := ab a 0 30, initWait := dflt a 1 (arg a 1).toNat p.initWait, asym := if has a 3 then as64 a 2 else p.asym }).pairPower
      (ab a 0 31)

/-- Word 0 of PAIR_STATUS (R438). -/
def State.pairWord (s : State) : Word :=
  let p := s.pair
  pack [(p.role.code, 31, 29), (if p.alive then p.partner.role else 0, 28, 26), (if p.alive then p.partner.mstate else 0, 25, 23),
        pbit p.alive 22, pbit p.pathFault 21, pbit s.sys.slotB 20, pbit p.ilkOut 19, pbit p.ilkIn 18, pbit p.ilkFault 17,
        pbit p.slotConflict 16, pbit s.mismatchNow 15, pbit (p.alive && p.partner.fit) 14,
        pbit (p.hoAccepted && p.hoT.isSome && !p.hoDone) 13, (p.lastCause, 9, 8)]

/-- PAIR_CONFIG unstaged (R437). -/
def pairConfigBody (_ : Fin 48) (a : Args) (s : State) : State × Reply :=
  let s := applyPairConfig a s
  (s, .ok [s.pairWord])

/-- PAIR_CONFIG (R437). -/
def execPairConfig (t : Nat) (tag : Fin 48) (s : State) : Res :=
  runCmd .pairConfig tag pairConfigChecks pairConfigBody (s.advance t)

/-- ALIGN_RMS in fs, 0 unless STANDBY (R438). -/
def State.alignRms (s : State) : Nat :=
  let l := s.pair.align
  if s.pair.role ≠ .standby ∨ l.isEmpty then 0
  else satU 32 (isqrt (l.foldl (fun a v => a + (v.natAbs * 1000000) ^ 2) 0 / l.length) / 65536)

/-- PAIR_STATUS (R438). -/
def pairStatusBody (_ : Fin 48) (_ : Args) (s : State) : State × Reply :=
  let p := s.pair
  let mean := if p.means.isEmpty then 0 else rdiv (p.means.foldl (· + ·) 0) p.means.length
  let age := if p.snap.seq = 0 then 0 else satU 32 ((s.now - p.snap.at_) / msU)
  (s, .ok ([s.pairWord, wd p.snap.seq, wd age, wd p.partner.seq] ++ s64 mean ++
           [wd s.alignRms, wd p.alignMax, wd p.gapUs] ++ time96 p.roleAt ++ [wd p.txDelay, wd p.rxDelay]))

/-- PAIR_STATUS (R438). -/
def execPairStatus (t : Nat) (tag : Fin 48) (s : State) : Res :=
  runCmd .pairStatus tag (fun _ _ _ => []) pairStatusBody (s.advance t)

end Sys2Proof.Machine
end

