-- ==== Sys2Proof/Machine/PtpCmds.lean ====
section
/-!
DEFINITION. The commands of links and PTP: PTP_PROFILE, PTP_PORT_CONFIG, PTP_SYNCE_CONFIG, PTP_PORT_STATUS,
PTP_CLIENT_TABLE, PTP_SECURITY, PTP_FRAME_TX, PTP_FRAME_RX (R368 to R376).
-/

namespace Sys2Proof.Machine

/-- The lane in bits 5:0 of word 0. -/
def argLane (a : Args) : Option (Fin 48) := if h : af a 0 5 0 < 48 then some ⟨af a 0 5 0, h⟩ else none

/-- LANE above 47. -/
def laneCheck (a : Args) (d : Nat := 0) : Bool × Fail := cond (decide (47 < af a 0 5 0)) (badArg 0 0 d)

/-- `n` argument words from word `i` as one number, the words COUNT leaves out keeping those of `old` (R368). -/
def keepWords (a : Args) (old : Nat) (i : Nat) : Nat → Nat
  | 0 => 0
  | n + 1 => (if has a i then (arg a i).toNat else old / 2 ^ (32 * n) % 2 ^ 32) * 2 ^ (32 * n) + keepWords a old (i + 1) n

/-! ### PTP_PROFILE -/

/-- CLOCK_ID after the command: the present one unless COUNT covers both words (R369). -/
def newClockId (a : Args) (s : State) : Nat := if has a 2 then au64 a 1 else s.ptp.clockId

/-- Intervals after the command: the defaults of the profile, or word 3, or the present ones (R369). -/
def newLog (a : Args) (s : State) (k : GrantKind) : Int :=
  if ab a 0 24 then profDefault (af a 0 30 28) k
  else match k with
    | .sync => dflt a 3 (asf a 3 31 24) s.ptp.syncLog
    | .ann => dflt a 3 (asf a 3 23 16) s.ptp.annLog
    | .delay => dflt a 3 (asf a 3 15 8) s.ptp.delayLog

/-- An interval after the command is outside the range of its profile (R369). -/
def logBad (a : Args) (s : State) (k : GrantKind) : Bool := !inRange (profRange (af a 0 30 28) k) (newLog a s k)

/-- Lowest bit of the interval of a kind in word 3. -/
def logBit : GrantKind → Nat | .sync => 24 | .ann => 16 | .delay => 8

/-- The failure of an interval outside its range: on word 3, or on PROFILE when COUNT leaves word 3 out. -/
def logFail (a : Args) (k : GrantKind) : Fail := if has a 3 then badArg 3 (logBit k) 0x0002 else badArg 0 28 0x0002

/-- A port has a ROLE (R369). -/
def State.anyRole (s : State) : Bool := s.ptp.lanes.toList.any fun x => decide (x.role ≠ 0)

/-- PTP_PROFILE acceptance (R369). -/
def ptpProfileChecks (_ : Bool) (a : Args) (s : State) : Checks :=
  let smEn := dflt a 4 (ab a 4 31) s.ptp.smEn
  [cond (ab a 0 31 && decide (newClockId a s = 0)) (wrongState 0x0001),
   cond (!ab a 0 31 && s.anyRole) (wrongState 0x0004),
   rng a 0 30 28 0 3, rsv a 0 27 25, cond (!ab a 0 24 && decide (127 < af a 0 7 0)) (badArg 0 0 0x0002),
   cond (logBad a s .sync) (logFail a .sync), cond (logBad a s .ann) (logFail a .ann), cond (logBad a s .delay) (logFail a .delay),
   cond (!ab a 0 24 && has a 3 && decide (af a 3 7 0 < 2)) (badArg 3 0),
   cond (smEn && decide (af a 0 30 28 ≠ 2)) (badArg (if has a 4 then 4 else 0) (if has a 4 then 31 else 28) 0x0003),
   rsv a 4 30 8, srng a 4 7 0 (-3) 4, rng a 5 31 0 1 (2 ^ 32 - 1), rng a 6 31 0 1 (2 ^ 32 - 1)]

/-- Every enabled port starts from LISTENING and every grant ends (R369). -/
def portsRestart (s : State) : State :=
  let s := s.onPtp fun p =>
    { p with clients := [], lanes := vmap p.lanes fun x => { x with nextNumber := 0, umGrant := [], umRetry := [] } }
  forFin 48 (fun l s => s.toListening l) s

/-- PTP_PROFILE at its apply edge (R369). -/
def applyPtpProfile (a : Args) (s : State) : State :=
  let o := s.ptp
  let def_ := ab a 0 24
  let s := s.onPtp fun p =>
    { p with en := ab a 0 31, profile := af a 0 30 28, prio1 := af a 0 23 16, prio2 := af a 0 15 8,
             domain := if def_ then profDomain (af a 0 30 28) else af a 0 7 0, clockId := newClockId a s,
             syncLog := newLog a s .sync, annLog := newLog a s .ann, delayLog := newLog a s .delay,
             annTimeout := if def_ then 3 else dflt a 3 (af a 3 7 0) p.annTimeout,
             smEn := dflt a 4 (ab a 4 31) p.smEn, smLog := dflt a 4 (asf a 4 7 0) p.smLog,
             smNum := dflt a 5 (arg a 5).toNat p.smNum, smDen := dflt a 6 (arg a 6).toNat p.smDen,
             localOffset := dflt a 7 (as32 a 7) p.localOffset }
  let n := s.ptp
  if o.profile ≠ n.profile ∨ o.domain ≠ n.domain ∨ o.clockId ≠ n.clockId ∨ o.en ≠ n.en then forFin 48 State.joinGroups (bmcaAll (portsRestart s)) else s

/-- PTP_PROFILE unstaged (R369). -/
def ptpProfileBody (_ : Fin 48) (a : Args) (s : State) : State × Reply :=
  let s := applyPtpProfile a s
  (s, .ok [pack [pbit s.ptp.en 31, (s.ptp.domain, 7, 0)]])

/-- PTP_PROFILE (R369). -/
def execPtpProfile (t : Nat) (tag : Fin 48) (s : State) : Res :=
  runCmd .ptpProfile tag ptpProfileChecks ptpProfileBody (s.advance t)

/-! ### PTP_PORT_CONFIG -/

/-- The settings of a port after word 0 and the words COUNT covers, LANE_EN, RATE and FEC aside (R370). -/
def Lane.configured (x : Lane) (a : Args) : Lane :=
  { x with
    an := ab a 0 27, txDomain := ⟨af a 0 26 24, by unfold af fld; omega⟩, role := af a 0 23 21, transport := af a 0 20 19,
    twoStep := ab a 0 18, p2p := ab a 0 17, unicast := ab a 0 16, multicast := ab a 0 15, hostCopy := ab a 0 14,
    mac := (dflt a 1 (af a 1 15 0) (x.mac / 2 ^ 32)) * 2 ^ 32 + dflt a 2 (arg a 2).toNat (x.mac % 2 ^ 32),
    ipv4 := dflt a 3 (arg a 3).toNat x.ipv4, ipv6 := keepWords a x.ipv6 4 4,
    vlanEn := dflt a 8 (ab a 8 31) x.vlanEn, pcp := dflt a 8 (af a 8 30 28) x.pcp, vid := dflt a 8 (af a 8 11 0) x.vid,
    asym := if has a 10 then as64 a 9 else x.asym,
    maxClients := dflt a 11 (af a 11 31 16) x.maxClients, maxGrant := dflt a 11 (af a 11 15 0) x.maxGrant,
    minLog := dflt a 12 (asf a 12 31 24) x.minLog, fmMax := dflt a 12 (af a 12 23 16) x.fmMax,
    acceptN := dflt a 12 (af a 12 15 8) x.acceptN, umN := dflt a 12 (af a 12 7 0) x.umN,
    accept := (List.range 4).map fun j => keepWords a (x.accept.getD j 0) (13 + 2 * j) 2,
    masters := (List.range 2).map fun j => keepWords a (x.masters.getD j 0) (21 + 4 * j) 4,
    rxPolice := dflt a 29 (arg a 29).toNat x.rxPolice }

/-- LANE_EN, RATE or FEC of the command differ from those in force (R370). -/
def Lane.powerChange (x : Lane) (a : Args) : Bool := decide ((x.en, x.rate, x.fec) ≠ (ab a 0 31, af a 0 30 29, ab a 0 28))

/-- PTP_PORT_CONFIG acceptance (R370). -/
def ptpPortConfigChecks (_ : Bool) (a : Args) (s : State) : Checks :=
  match argLane a with
  | none => [laneCheck a 0x0004]
  | some l =>
    let o := s.lane l
    let n := o.configured a
    let rate := af a 0 30 29
    let role := decide (af a 0 23 21 ≠ 0)
    let d := n.txDomain
    [cond (role && (!ab a 0 31 || decide (n.mac = 0) || !s.ptp.en)) (wrongState 0x0001),
     cond (role && ((decide (n.transport = 1) && decide (n.ipv4 = 0)) || (decide (n.transport = 2) && decide (n.ipv6 = 0)))) (wrongState 0x0002),
     cond (decide ((s.dom d).ramp ≠ .idle) && decide (s.sys.mstate ≠ .test)) (wrongState 0x0005),
     cond (decide (rate = 3)) (badArg 0 29 0x0003), cond (ab a 0 28 && decide (rate ≠ 2)) (badArg 0 28 0x0003),
     cond (ab a 0 27 && decide (rate ≠ 0)) (badArg 0 27 0x0003),
     rng a 0 23 21 0 3 0x0004, rng a 0 20 19 0 2 0x0004, rsv a 0 13 6 0x0004,
     rsv a 1 31 16 0x0004, rsv a 8 27 12 0x0004, rng a 8 11 0 1 4094 0x0004, srng64 a 9 (-65536000000) 65536000000 0x0004,
     rng a 11 31 16 0 (if rate = 0 then 1024 else 4096) 0x0004, rng a 11 15 0 10 1000 0x0004,
     srng a 12 31 24 (-7) 4 0x0004, rng a 12 23 16 1 16 0x0004, rng a 12 15 8 0 4 0x0004, rng a 12 7 0 0 2 0x0004,
     cond (has a 29 && decide ((arg a 29).toNat ≠ 0)) (badArg 29 0 0x0004) |> fun p =>
       (p.1 && !(decide (1000 ≤ (arg a 29).toNat) && decide ((arg a 29).toNat ≤ 2000000)), p.2),
     cond (o.powerChange a && decide (o.lstate = .measuring)) (busyRes 0x0006)]

/-- The fields whose change sends the port to LISTENING (R370). -/
def Lane.identity (x : Lane) : List Nat := [x.transport, x.role, x.mac, x.ipv4, x.ipv6, x.vlanEn.toNat, x.pcp, x.vid]

/-- PTP_PORT_CONFIG at its apply edge; a change of LANE_EN, RATE or FEC that meets MEASURING is held (R370). -/
def applyPortConfig (a : Args) (s : State) : State :=
  match argLane a with
  | none => s
  | some l =>
    let o := s.lane l
    let s := s.laneMod l fun x => x.configured a
    let s :=
      if o.powerChange a && decide (o.lstate = .measuring) then s.laneMod l fun x => { x with held := some a }
      else (s.laneMod l fun x => { x with held := none }).lanePower l (ab a 0 31) (af a 0 30 29) (ab a 0 28)
    if o.identity = (s.lane l).identity then s
    else (bmcaAll (((s.toListening l).freeClients l).laneMod l fun x => { x with resolved := [], resolving := [] })).joinGroups l

/-- PORT_STATE: a PRE_MASTER whose time has passed is MASTER (R349, R372). -/
def State.portNow (s : State) (l : Fin 48) : Nat :=
  let x := s.lane l
  if x.role = 0 then 3
  else if x.pstate = 5 ∧ (x.preAt.any fun k => decide (k ≤ s.now)) = true then 6
  else x.pstate

/-- The port word (R372). -/
def State.portWord (s : State) (l : Fin 48) : Word :=
  let x := s.lane l
  pack [(match x.lstate with | .off => 0 | .measuring => 1 | .down => 2 | .up => 3, 31, 30),
        (s.portNow l, 29, 26), pbit x.timeAct 25, pbit (s.suspended l) 24, (x.mode, 23, 22),
        pbit (!s.slotFilled l) 21, (x.foreign.length, 20, 16), ((s.clientsOf l).length, 12, 0)]

/-- PTP_PORT_CONFIG unstaged (R370). -/
def ptpPortConfigBody (_ : Fin 48) (a : Args) (s : State) : State × Reply :=
  let s := applyPortConfig a s
  (s, .ok [match argLane a with | some l => s.portWord l | none => 0])

/-- PTP_PORT_CONFIG (R370). -/
def execPtpPortConfig (t : Nat) (tag : Fin 48) (s : State) : Res :=
  runCmd .ptpPortConfig tag ptpPortConfigChecks ptpPortConfigBody (s.advance t)

/-! ### PTP_SYNCE_CONFIG -/

/-- PTP_SYNCE_CONFIG acceptance (R371). -/
def ptpSynceChecks (_ : Bool) (a : Args) (_ : State) : Checks :=
  [rsv a 0 19 6, laneCheck a, cond (!qlOk (ab a 0 29) (af a 0 27 24)) (badArg 0 24 0x0001),
   cond (!qlOk (ab a 0 29) (af a 0 23 20)) (badArg 0 20 0x0001)]

/-- PTP_SYNCE_CONFIG at its apply edge; with ESMC_RX 0 the QL reads 0 and no timeout is raised (R371). -/
def applySynce (a : Args) (s : State) : State :=
  match argLane a with
  | none => s
  | some l =>
    let rx := ab a 0 30
    (s.laneMod l fun x =>
      { x with esmcTx := ab a 0 31, esmcRx := rx, option2 := ab a 0 29, qlAuto := ab a 0 28, qlFixed := af a 0 27 24,
               qlRefin := af a 0 23 20, rxQl := if rx then x.rxQl else 0, esmcTimeout := rx && x.esmcTimeout,
               esmcAt := if rx && !x.esmcRx then s.now else x.esmcAt }).ssmUpd l

/-- PTP_SYNCE_CONFIG unstaged (R371). -/
def ptpSynceBody (_ : Fin 48) (a : Args) (s : State) : State × Reply :=
  let s := applySynce a s
  (s, .ok [match argLane a with
    | some l => pack [((s.lane l).rxQl, 31, 28), (s.qlOut l, 27, 24), pbit (s.lane l).esmcTimeout 23, pbit (s.bwBad l) 22, (l.val, 5, 0)]
    | none => 0])

/-- PTP_SYNCE_CONFIG (R371). -/
def execPtpSynceConfig (t : Nat) (tag : Fin 48) (s : State) : Res :=
  runCmd .ptpSynceConfig tag ptpSynceChecks ptpSynceBody (s.advance t)

/-! ### PTP_PORT_STATUS -/

/-- PTP_PORT_STATUS (R372). -/
def ptpPortStatusBody (_ : Fin 48) (a : Args) (s : State) : State × Reply :=
  match argLane a with
  | none => (s, .fail (badArg 0 0))
  | some l =>
    let x := s.lane l
    let slave := decide (x.pstate = 8) || decide (x.pstate = 9)
    let p := x.parent
    (s, .ok ([s.portWord l] ++ w64 (if slave then x.parentId else 0) ++
      [pack [(if slave then x.parentPort else 0, 31, 16), (match p with | some f => f.cls | none => 0, 15, 8),
             (match p with | some f => f.acc | none => 0, 7, 0)]] ++
      s64 (x.meanDelay.getD 0) ++ s64 x.offset ++ [wd x.teRef, wd x.txDelay, wd x.rxDelay, wd x.syncRate]))

/-- PTP_PORT_STATUS (R372). -/
def execPtpPortStatus (t : Nat) (tag : Fin 48) (s : State) : Res :=
  runCmd .ptpPortStatus tag (fun _ a _ => [rsv a 0 31 6, laneCheck a]) ptpPortStatusBody (s.advance t)

/-! ### PTP_CLIENT_TABLE -/

/-- Seconds left of a client's shortest grant (R373). -/
def Client.left (c : Client) (now : Nat) : Nat :=
  let l := [c.sync, c.delay, c.ann].filterMap fun g => if g.on then some ((g.endsAt - now) / secU) else none
  l.foldl min (l.headD 0)

/-- The 10 words of an entry (R373, R476). -/
def State.clientWords (s : State) (c : Client) : List Word :=
  [pack [(c.transport, 31, 30), pbit (decide ((s.lane c.lane).mode = 2)) 29, pbit c.sync.on 28, pbit c.delay.on 27, pbit c.ann.on 26,
         (twos 8 c.sync.log, 23, 16), (twos 8 c.delay.log, 15, 8), (twos 8 c.ann.log, 7, 0)],
   wd (c.addr / 2 ^ 96), wd (c.addr / 2 ^ 64), wd (c.addr / 2 ^ 32), wd c.addr] ++ w64 c.id ++
  [pack [(c.port, 31, 16), (c.left s.now, 15, 0)], wd c.delayReqs, wd c.dropped]

/-- Entries in the order of their numbers. -/
def insertClient (c : Client) : List Client → List Client
  | [] => [c]
  | d :: r => if c.number ≤ d.number then c :: d :: r else d :: insertClient c r

/-- The entries of a port in the order of their numbers (R373). -/
def State.clientsSorted (s : State) (l : Fin 48) : List Client := (s.clientsOf l).foldr insertClient []

/-- PTP_CLIENT_TABLE (R373). A NEXT that 16 bits do not hold is a value no rule states: a free one (log 60). -/
def ptpClientTableBody (_ : Fin 48) (a : Args) (s : State) : State × Reply :=
  match argLane a with
  | none => (s, .fail (badArg 0 0))
  | some l =>
    let from_ := (s.clientsSorted l).filter fun c => decide (af a 0 31 16 ≤ c.number)
    let l1 := from_.take (af a 0 12 8)
    let (next, s) := match from_.drop (af a 0 12 8) with
      | c :: _ => if c.number < 0xFFFF then (c.number, s) else ((Config.freeWord s.draw.1).toNat, s.draw.2)
      | [] => (0xFFFF, s)
    (s, .ok ([pack [((s.clientsOf l).length, 31, 16), (l1.length, 7, 0)], pack [(next, 31, 16)]] ++ l1.flatMap s.clientWords))

/-- PTP_CLIENT_TABLE (R373). -/
def execPtpClientTable (t : Nat) (tag : Fin 48) (s : State) : Res :=
  runCmd .ptpClientTable tag
    (fun _ a _ => [rng a 0 31 16 0 4095, rsv a 0 15 13, rng a 0 12 8 1 25, rsv a 0 7 6, laneCheck a])
    ptpClientTableBody (s.advance t)

/-! ### PTP_SECURITY -/

/-- The key bytes of the arguments (R374). -/
def keyBytes (a : Args) : List (BitVec 8) := bytesOfWords (a.drop 3)

/-- PTP_SECURITY acceptance (R374). -/
def ptpSecurityChecks (_ : Bool) (a : Args) (s : State) : Checks :=
  let load := decide (af a 0 31 30 = 0)
  let pol := decide (af a 0 31 30 = 1)
  let slot : Fin 16 := ⟨af a 0 19 16, by unfold af fld; omega⟩
  let len := af a 2 5 0
  [cond (pol && decide (af a 0 29 28 ≠ 0) && !(vget s.ptp.keys slot).filled) (wrongState 0x0003),
   rng a 0 31 30 0 1, cond (pol && decide (af a 0 29 28 = 3)) (badArg 0 28), rsv a 0 15 6, cond (pol && decide (47 < af a 0 5 0)) (badArg 0 0),
   cond (load && !has a 2) (badArg 0xFF 0 0x0001), rsv a 2 31 6,
   cond (load && !(decide (16 ≤ len) && decide (len ≤ 32))) (badArg 2 0 0x0001),
   cond (load && decide (a.length < 3 + (len + 3) / 4)) (badArg 0xFF 0 0x0001),
   cond (load && ((keyBytes a).drop len).any fun b => decide (b ≠ 0)) (badArg (3 + len / 4) 0),
   cond (load && !s.hif.loadEn.getLsbD (af a 0 19 16)) (protectedF 0x0002)]

/-- Filled slots (R374). -/
def State.slotWord (s : State) : Word :=
  wd ((List.finRange 16).foldl (fun x i => if (vget s.ptp.keys i).filled then x + 2 ^ i.val else x) 0)

/-- PTP_SECURITY: a key takes its slot, or a port its policy (R363, R374). -/
def ptpSecurityBody (_ : Fin 48) (a : Args) (s : State) : State × Reply :=
  let slot : Fin 16 := ⟨af a 0 19 16, by unfold af fld; omega⟩
  let s :=
    if af a 0 31 30 = 0 then
      s.onPtp fun p => { p with keys := vmod p.keys slot fun _ => { filled := true, id := arg a 1, bytes := (keyBytes a).take (af a 2 5 0) } }
    else match argLane a with
      | some l => s.laneMod l fun x => { x with mode := af a 0 29 28, spp := af a 0 27 20, slot := slot }
      | none => s
  (s, .ok [s.slotWord])

/-- PTP_SECURITY (R374). -/
def execPtpSecurity (t : Nat) (tag : Fin 48) (s : State) : Res :=
  runCmd .ptpSecurity tag ptpSecurityChecks ptpSecurityBody (s.advance t)

/-! ### PTP_FRAME_TX and PTP_FRAME_RX -/

/-- Sixteen bits of a frame at byte `i`. -/
def half (l : List (BitVec 8)) (i : Nat) : Nat := (l.getD i 0).toNat * 256 + (l.getD (i + 1) 0).toNat

/-- A frame the engine owns: Ethertype 0x88F7, or UDP to port 319 or 320, with or without a tag (R365). -/
def frameRefused (l : List (BitVec 8)) : Bool :=
  let e := if half l 12 = 0x8100 then 16 else 12
  let p := e + 2
  let udp := fun port : Nat => decide (port = 319 ∨ port = 320)
  if half l e = 0x88F7 then true
  else if half l e = 0x0800 then
    decide ((l.getD (p + 9) 0).toNat = 17) && udp (half l (p + 4 * ((l.getD p 0).toNat % 16) + 2))
  else if half l e = 0x86DD then decide ((l.getD (p + 6) 0).toNat = 17) && udp (half l (p + 42))
  else false

/-- Host frames counted in the present second (R365). -/
def State.txNow (s : State) : Nat := if s.past s.ptp.txFrom secU then 0 else s.ptp.txCount

/-- The frame a piece leaves: the bytes before it, unless FIRST, and its own up to TOTAL (R375). -/
def pieceBytes (a : Args) (x : Lane) : List (BitVec 8) :=
  ((if ab a 0 31 then [] else x.frame) ++ bytesOfWords (a.drop 2)).take (af a 1 31 16)

/-- PTP_FRAME_TX acceptance: what does not depend on the pieces before it (R106, R375). -/
def ptpFrameTxChecks (_ : Bool) (a : Args) (s : State) : Checks :=
  match argLane a with
  | none => [laneCheck a]
  | some l =>
    let total := af a 1 31 16
    [cond (decide ((s.lane l).lstate ≠ .up)) (wrongState 0x0003),
     rsv a 0 29 6, cond (!(decide (60 ≤ total) && decide (total ≤ 1518))) (badArg 1 16 0x0001),
     cond (decide (af a 1 15 0 % 4 ≠ 0)) (badArg 1 0 0x0001),
     cond (ab a 0 30 && decide (1000 ≤ s.txNow)) (busyRes 0x0004)]

/-- PTP_FRAME_TX acceptance (R375). -/
def ptpFrameTxTurn (_ : Bool) (a : Args) (s : State) : Checks :=
  match argLane a with
  | none => [laneCheck a]
  | some l =>
    let x := s.lane l
    let first := ab a 0 31
    let have_ := if first then 0 else x.frame.length
    let total := af a 1 31 16
    let b := pieceBytes a x
    [cond (decide (x.lstate ≠ .up)) (wrongState 0x0003),
     rsv a 0 29 6, cond (!(decide (60 ≤ total) && decide (total ≤ 1518))) (badArg 1 16 0x0001),
     cond (!first && x.frameTotal.isSome && decide (x.frameTotal ≠ some total)) (badArg 1 16 0x0001),
     cond (decide (af a 1 15 0 ≠ have_) || decide (af a 1 15 0 % 4 ≠ 0)) (badArg 1 0 0x0001),
     cond (ab a 0 30 && decide (b.length < total)) (badArg 0 30 0x0001),
     cond (frameRefused b) (badArg 2 0 0x0002),
     cond (ab a 0 30 && decide (1000 ≤ s.txNow)) (busyRes 0x0004)]

/-- PTP_FRAME_TX: a piece is added; with LAST the frame waits for its gap (R365, R375). -/
def ptpFrameTxBody (_ : Fin 48) (a : Args) (s : State) : State × Reply :=
  match argLane a with
  | none => (s, .fail (badArg 0 0))
  | some l =>
    let b := pieceBytes a (s.lane l)
    let last := ab a 0 30
    let s :=
      if last then
        let n := s.txNow
        (s.laneMod l fun x => { x with frame := [], frameTotal := none, sendQ := x.sendQ ++ [b] }).onPtp
          fun p => { p with txCount := n + 1, txFrom := if n = 0 then s.now else p.txFrom }
      else s.laneMod l fun x => { x with frame := b, frameTotal := some (af a 1 31 16) }
    (s, .ok [pack [pbit last 31, (b.length, 15, 0)]])

/-- PTP_FRAME_TX (R375). -/
def execPtpFrameTx (t : Nat) (tag : Fin 48) (s : State) : Res :=
  runCmd .ptpFrameTx tag ptpFrameTxTurn ptpFrameTxBody (s.advance t)

/-- PTP_FRAME_RX acceptance (R376). -/
def ptpFrameRxChecks (_ : Bool) (a : Args) (_ : State) : Checks :=
  [rsv a 0 30 16, cond (has a 0 && decide (af a 0 15 0 % 4 ≠ 0)) (badArg 0 0)]

/-- PTP_FRAME_RX: the frame at the head of the host queue, after RELEASE has discarded one (R376). -/
def ptpFrameRxBody (_ : Fin 48) (a : Args) (s : State) : State × Reply :=
  let ofs := af a 0 15 0
  let s := if ab a 0 31 then s.onPtp fun p => { p with hostQ := p.hostQ.drop 1 } else s
  match s.ptp.hostQ with
  | f :: _ =>
    let d := (wordsOfBytes (f.bytes.drop ofs)).take 250
    (s, .ok ([pack [pbit true 31, (s.ptp.hostQ.length, 30, 24), (f.lane.val, 21, 16), (f.bytes.length, 15, 0)]] ++ time96 f.at_ ++
             [pack [(ofs, 31, 16), (d.length, 15, 0)]] ++ d))
  | [] => (s, .ok [0, 0, 0, 0, pack [(ofs, 31, 16)]])

/-- PTP_FRAME_RX (R376). -/
def execPtpFrameRx (t : Nat) (tag : Fin 48) (s : State) : Res :=
  runCmd .ptpFrameRx tag ptpFrameRxChecks ptpFrameRxBody (s.advance t)

end Sys2Proof.Machine
end

