-- ==== Sys2Proof/Machine/Mailbox.lean ====
section
/-!
DEFINITION. The mailbox firmware: acceptance and dispatch, the SYS commands, and the update strobe (R56 to R60, R85 to
R117, R566).
-/

namespace Sys2Proof.Machine

/-! ### The update strobe (R56 to R60, R566) -/

/-- Place of a command in the order in which one strobe applies its values: PAIR, TIME with the step before the leap
(R139), MEAS, REF, LOOP, SYN, OUT with the realign last (R326), PTP with the profile first (R379), GNSS (R566). -/
def Cmd.rank : Cmd → Nat
  | .pairConfig => 0
  | .timeSet => 1
  | .timeLeap => 2
  | .outRealign => 8
  | .ptpProfile => 9
  | c => match c.group with
    | 3 => 3 | 4 => 4 | 5 => 5 | 6 => 6 | 7 => 7 | 8 => 10 | 9 => 11 | _ => 12

/-- Buffered values in the order they apply; within a rank, as their OK responses became held (R566). -/
def strobeOrder (l : List Staged) : List Staged := (List.range 13).flatMap fun k => l.filter fun x => x.cmd.rank = k

/-- A buffered value takes effect (R97). -/
def applyStaged (x : Staged) (s : State) : State :=
  match x.cmd with
  | .pairConfig => applyPairConfig x.args s
  | .timeSet => applyTimeSet x.args s
  | .timeLeap => applyTimeLeap x.args s
  | .measConfigCh => applyMeasConfig x.args s
  | .refConfig => applyRefConfigAll x.args s
  | .refLimits => applyRefLimits x.args s
  | .refSelect => applyRefSelect x.args s
  | .refPriority => applyRefPriority x.args s
  | .refWtr => applyRefWtr x.args s
  | .loopConfig => applyLoopConfig x.args s
  | .loopBwSchedule => applyLoopBw x.args s
  | .loopHoldoverConfig => applyLoopHoldover x.args s
  | .synConfig => applySynConfig x.args s
  | .synRampLoad => applyRampLoad x.args s
  | .synRampRun => applyRampRun x.args s
  | .outConfig => applyOutConfig x.args s
  | .outPulseConfig => applyPulseConfig x.args s
  | .outRealign => applyRealign x.args s
  | .ptpPortConfig => applyPortConfig x.args s
  | .ptpProfile => applyPtpProfile x.args s
  | .ptpSynceConfig => applySynce x.args s
  | .gnssConfig => applyGnssConfig x.args s
  | .gnssCableDelay => applyGnssCable x.args s
  | _ => s

/-- A buffered command's group is among `g`, bit 0 TIME to bit 8 PAIR (R57). -/
def Staged.armed (g : BitVec 9) (x : Staged) : Bool := g.getLsbD (x.cmd.group - 2)

/-- A time `x` recorded as reading `a` becomes `b`. -/
def restampAt (a b x : Nat) : Nat := if x = a then b else x

/-- The edge of a strobe at which the Metronome stepped from `a` is reported as the reading just after the step: in what
the strobe changed and entered in the log from SEQ `n` on (R565). -/
def State.restamp (a n : Nat) (s : State) : State :=
  let f := restampAt a s.mt
  let s := s.onLoop fun l => { l with dplls := vmap l.dplls fun x => if x.stFrom = s.now then { x with since := f x.since } else x }
  let s := s.onRef fun r => { r with cands := vmap r.cands fun c => { c with since := f c.since } }
  let s := (s.onPair fun p => { p with roleAt := f p.roleAt }).onGnss fun g => { g with alarmSince := f g.alarmSince }
  let s := s.onFlt fun q => { q with recs := q.recs.map fun r => if r.firstK = s.now then { r with firstAt := f r.firstAt } else r }
  s.onArc fun x => { x with log := x.log.map fun e => if n ≤ e.seq then { e with at_ := f e.at_ } else e }

/-- What the values of a strobe have triggered, once: starts of outputs, slews, the BMCA (R566). -/
def State.applied (ptp : Bool) (s : State) : State :=
  let s := s.onMb fun m => { m with applying := false }
  let s := forFin 24 (fun n s => if (s.ck n).startDue then s.ckStart n else s) s
  let s := s.onOut fun o => { o with pl := vmap o.pl (Pulse.judge s.slewOn) }
  if ptp then forFin 48 State.joinGroups (bmcaAll s) else s

/-- One strobe: the armed shadow buffers apply in order, what they trigger follows once (R566), and the pins leave the
state of R529. -/
def State.strobe (g : BitVec 9) (s : State) : State :=
  let l := strobeOrder (s.mb.shadow.filter (Staged.armed g))
  let s := (s.onMb fun m => { m with shadow := m.shadow.filter fun x => !x.armed g }).onOut fun o => { o with released := o.released || !s.sys.loader }
  let r := (s.mt, s.time.stepSeq, s.arc.logSeq)
  let s := l.foldl (fun s x => applyStaged x s) (s.onMb fun m => { m with applying := true })
  let s := outGate (utcUpdate (s.applied (l.any fun x => decide (x.cmd.group = 8))))
  let s := if s.time.stepSeq = r.2.1 then s else s.restamp r.1 r.2.2
  (s.onHif fun h => { h with applyCount := h.applyCount + 1, applied := true, lastApplied := s.mt, cyc := { s.cyc with applied := true } }).chime 1

/-- Metronome second a request of now is taken for: the next boundary at least 2 us away (R59). -/
def State.boundaryOf (s : State) : Nat := if s.mt + 2 * usU ≤ (s.msec + 1) * secU then s.msec + 1 else s.msec + 2

/-- A strobe request: pending, else queued; a third changes nothing (R58, R60). -/
def State.request (s : State) (g : BitVec 9) (atSecond : Bool) (tag : Option (Fin 48)) : State :=
  let r : StrobeReq := { groups := g, atSecond := atSecond, made := s.now, tag := tag, boundary := if atSecond then some s.boundaryOf else none }
  match s.hif.pend, s.hif.queued with
  | none, _ => s.onHif fun h => { h with pend := some r }
  | some _, none => s.onHif fun h => { h with queued := some r }
  | some _, some _ => s

/-- Two requests wait (R60). -/
def State.strobeFull (s : State) : Bool := s.hif.pend.isSome && s.hif.queued.isSome

/-- A request may apply: at once, or its boundary has passed (R59). -/
def StrobeReq.due (sec : Nat) (r : StrobeReq) : Bool :=
  !r.atSecond || (match r.boundary with | some b => decide (b ≤ sec) | none => false)

/-- The queued request becomes pending; one that waits for a second takes the second after (R60). -/
def StrobeReq.next (sec : Nat) (r : StrobeReq) : StrobeReq :=
  if r.atSecond then { r with boundary := some (max (r.boundary.getD 0) (sec + 1)) } else r

/-- STROBE_APPLY: the pending request applies; a SYS_APPLY completes (R59, R60, R113, R566). -/
def execStrobeApply (t : Nat) (s : State) : Res :=
  let s := s.advance t
  match s.hif.pend with
  | none => done s
  | some r =>
    if !r.due s.msec then done s
    else
      let s := s.onHif fun h => { h with pend := h.queued.map (StrobeReq.next s.msec), queued := none }
      let s := s.strobe r.groups
      match r.tag with
      | some i => done (s.holdOk i (wd s.hif.applyCount.toNat :: time96 s.hif.lastApplied))
      | none => done s

/-- UPD_STROBE.GO (R58, R60): a third request sets OVERFLOW. -/
def State.go (s : State) : State :=
  if s.strobeFull then s.onHif fun h => { h with overflow := true, cyc := { s.cyc with overflow := true } }
  else s.request s.hif.armGroups s.hif.armSecond none

/-! ### SYS commands -/

/-- SYS_IDENTIFY (R109, R532). -/
def sysIdentifyBody (_ : Fin 48) (_ : Args) (s : State) : State × Reply :=
  (s, .ok ([idPart, s.idRev, wd s.sys.fwBuild, pack [pbit s.sys.i2cAddr 2, pbit s.sys.slotB 1, pbit s.sys.activeB 0]] ++
    w64 Config.serial.toNat ++ [wd 0x0001]))

/-- SYS_IDENTIFY (R109). -/
def execSysIdentify (t : Nat) (tag : Fin 48) (s : State) : Res :=
  runCmd .sysIdentify tag (fun _ _ _ => []) sysIdentifyBody (s.advance t)

/-- Tags that are FREE (R110). -/
def State.freeTags (s : State) : Nat := (s.mb.tags.toList.filter fun t => decide (t.st = .free)).length

/-- SYS_STATUS (R110). -/
def sysStatusBody (_ : Fin 48) (_ : Args) (s : State) : State × Reply :=
  (s, .ok [pack [(s.freeTags, 29, 24), pbit s.gnssAlarm 11, pbit s.sys.staged 10, pbit (s.pair.en && decide (s.pair.role = .active)) 9,
                 pbit s.pair.en 8, pbit s.stepPending 7, pbit s.kettle.warm 6, (s.sys.mstate.code, 2, 0)],
           wd (satU 32 ((s.now - s.sys.upFrom) / secU)), wd (satU 32 ((s.now - s.sys.since) / secU)), wd s.mb.collisions,
           wd (s.sys.resetCause % 256)])

/-- SYS_STATUS (R110). -/
def execSysStatus (t : Nat) (tag : Fin 48) (s : State) : Res :=
  runCmd .sysStatus tag (fun _ _ _ => []) sysStatusBody (s.advance t)

/-- SYS_APPLY acceptance (R112). -/
def sysApplyChecks (_ : Bool) (a : Args) (_ : State) : Checks := [rsv a 0 31 17, rsv a 0 15 11, rsv a 0 1 0]

/-- SYS_APPLY: the request with the arming given or, with COUNT 0, that of UPD_ARM (R112, R113). -/
def sysApplyBody (i : Fin 48) (a : Args) (s : State) : State × Reply :=
  if s.strobeFull then (s, .fail busyRes)
  else if has a 0 then (s.request (BitVec.ofNat 9 (af a 0 10 2)) (ab a 0 16) (some i), .deferred)
  else (s.request s.hif.armGroups s.hif.armSecond (some i), .deferred)

/-- SYS_APPLY (R112). -/
def execSysApply (t : Nat) (tag : Fin 48) (s : State) : Res :=
  runCmd .sysApply tag sysApplyChecks sysApplyBody (s.advance t)

/-- TARGET of a SYS_ABORT (R117). -/
def abortTarget (a : Args) : Option (Fin 48) := if h : af a 0 5 0 < 48 then some ⟨af a 0 5 0, h⟩ else none

/-- The deferred part under tag `k` can be stopped: not a SYS_APPLY or SYS_RESET_BLOCK, not a commit that writes, not a
handover from T on (R117, R439). -/
def State.stoppable (s : State) (k : Fin 48) : Bool :=
  match (s.tag k).cmd with
  | some .sysApply => false
  | some .sysResetBlock => false
  | some .sysFwCommit => !s.sys.commitWriting
  | some .pairHandover => !s.pair.hoDone && !(s.pair.hoAccepted && (match s.pair.hoT with | some h => decide (h ≤ s.msec) | none => false))
  | _ => true

/-- The command under tag `k` can be ended as it stands: queued, or in a deferred part that can be stopped (R117). A
command RUNNING in its immediate part cannot (log 57). -/
def State.abortable (s : State) (k : Fin 48) : Bool :=
  let x := s.tag k
  (decide (x.st = .queued) && decide (x.cmd ≠ some .sysApply) && decide (x.cmd ≠ some .sysResetBlock)) ||
  (decide (x.st = .running) && x.deferred && s.stoppable k)

/-- SYS_ABORT acceptance; a TARGET in POSTED is judged once its own checks have ended (R117). -/
def sysAbortChecks (i : Fin 48) (priv : Bool) (a : Args) (s : State) : Checks :=
  match abortTarget a with
  | none => [rsv a 0 31 6, cond true (badArg 0 0)]
  | some k =>
    let x := s.tag k
    let own := decide (k = i) || decide (x.st = .free)
    let p := match x.cmd with | some c => c.info.p | none => false
    [cond (!own && p && !priv) notPermitted,
     cond (!own && decide (x.st ≠ .posted) && !s.abortable k) wrongState,
     rsv a 0 31 6, cond own (badArg 0 0)]

/-- SYS_ABORT: the target's response becomes held with ABORTED, before this command's own (R117). -/
def sysAbortBody (_ : Fin 48) (a : Args) (s : State) : State × Reply :=
  match abortTarget a with
  | none => (s, .fail (badArg 0 0))
  | some k =>
    let x := s.tag k
    if x.st = .posted then (s, .wait)
    else ((s.dropWork k).hold k stAborted x.acceptedStaged [], .ok [pack [pbit x.deferred 1, pbit (decide (x.st = .queued)) 0]])

/-- SYS_ABORT (R117). -/
def execSysAbort (t : Nat) (tag : Fin 48) (s : State) : Res :=
  runCmd .sysAbort tag (sysAbortChecks tag) sysAbortBody (s.advance t)

/-! ### Acceptance and dispatch (R92, R93) -/

/-- The checks of orders 6 to 10 that a command's chapter gives it (R92); `p` privileged, `st` staged. -/
def Cmd.checks (i : Fin 48) (p st : Bool) (a : Args) (s : State) : Cmd → Checks
  | .sysIdentify => []
  | .sysStatus => []
  | .sysApply => sysApplyChecks p a s
  | .sysResetBlock => sysResetBlockChecks p a s
  | .sysFwStage => sysFwStageChecks p a s
  | .sysFwCommit => sysFwCommitChecks p a s
  | .sysAbort => sysAbortChecks i p a s
  | .timeGet => []
  | .timeSet => timeSetChecks p a s
  | .timeLeap => timeLeapChecks p a s
  | .timeAlignQuery => timeAlignChecks p a s
  | .measConfigCh => measConfigChecks p a s
  | .measArm => measArmChecks p a s
  | .measRead => measReadChecks p a s
  | .measInterval => measIntervalChecks p a s
  | .measFreq => measFreqChecks p a s
  | .measCalStatus => []
  | .refConfig => refConfigChecks p a s
  | .refLimits => refLimitsChecks p a s
  | .refStatus => refStatusChecks p a s
  | .refSelect => refSelectChecks p a s
  | .refPriority => refPriorityChecks p a s
  | .refWtr => refWtrChecks p a s
  | .loopConfig => loopConfigChecks st a s
  | .loopBwSchedule => loopBwChecks p a s
  | .loopStatus => loopStatusChecks p a s
  | .loopHoldoverConfig => loopHoldoverChecks p a s
  | .loopForceHoldover => loopForceChecks p a s
  | .synConfig => synConfigChecks p a s
  | .synRampLoad => synRampLoadChecks p a s
  | .synRampRun => synRampRunChecks p a s
  | .synBandTable => synBandTableChecks p a s
  | .synRootStatus => []
  | .outConfig => outConfigChecks p a s
  | .outPulseConfig => outPulseConfigChecks p a s
  | .outRealign => outRealignChecks p a s
  | .outSlew => outSlewChecks p a s
  | .outSyncArm => outSyncArmChecks p a s
  | .outStatus => []
  | .ptpPortConfig => ptpPortConfigChecks p a s
  | .ptpProfile => ptpProfileChecks p a s
  | .ptpPortStatus => [rsv a 0 31 6, laneCheck a]
  | .ptpClientTable => [rng a 0 31 16 0 4095, rsv a 0 15 13, rng a 0 12 8 1 25, rsv a 0 7 6, laneCheck a]
  | .ptpSecurity => ptpSecurityChecks p a s
  | .ptpFrameTx => ptpFrameTxChecks p a s
  | .ptpFrameRx => ptpFrameRxChecks p a s
  | .ptpSynceConfig => ptpSynceChecks p a s
  | .gnssConfig => gnssConfigChecks p a s
  | .gnssStatus => []
  | .gnssPosition => [rsv a 0 31 1]
  | .gnssCableDelay => gnssCableChecks p a s
  | .gnssSnapshot => gnssSnapshotChecks p a s
  | .gnssSurvey => gnssSurveyChecks p a s
  | .pairConfig => pairConfigChecks p a s
  | .pairStatus => []
  | .pairHandover => pairHandoverChecks p a s
  | .fltRead => fltReadChecks p a s
  | .fltInject => fltInjectChecks p a s
  | .fltReaction => fltReactionChecks p a s
  | .fltClear => fltClearChecks p a s
  | .nvsRecordRead => nvsRecordReadChecks p a s
  | .nvsRecordWrite => nvsRecordWriteChecks p a s
  | .nvsStatus => []
  | .arcQuery => arcQueryChecks p a s
  | .arcLogRead => arcLogReadChecks p a s
  | .ageStatus => []
  | .ageMarginPlan => [rsv a 0 30 0]
  | .agePolicy => agePolicyChecks p a s
  | .telSnapshot => []
/-- Opcodes the mask-ROM loader accepts (R532). -/
def Cmd.inLoader (c : Cmd) : Bool :=
  c == .sysIdentify || c == .sysStatus || c == .sysFwStage || c == .sysFwCommit

/-- Most argument words of a command: 64, but none for MEAS_CAL_STATUS (R92, chapter 06). -/
def Cmd.maxCount (c : Cmd) : Nat := if c = .measCalStatus then 0 else 64

/-- The checks of a command whose header stands: orders 3 to 10 (R92); `tagOk`: header TAG equals the posted tag. -/
def State.accepts (s : State) (c : Cmd) (i : Fin 48) (priv st tagOk : Bool) (win : List Word) : Option Fail :=
  let h := win.headD 0
  let n := hdrCount h
  firstFail
    ([cond (decide (s.sys.mstate = .faultHold) && !c.info.h) { status := stFatalHold },
      cond (decide (n < c.info.min) || decide (c.maxCount < n) || decide (win.length < 1 + n)) { status := stBadLength },
      cond (!tagOk || hdrBit8 h || (hdrStaged h && !c.info.s)) { status := stBadArg },
      cond (c.info.p && !priv) notPermitted] ++ c.checks i priv st (win.tail.take n) s)

/-- The acceptance checks of a posted tag, in order (R88, R92). -/
def State.acceptFail (s : State) (i : Fin 48) : Option Fail :=
  let x := s.tag i
  if x.win = [] then some { status := stBadLength }
  else match x.cmd with
    | none => some { status := stBadOpcode }
    | some c =>
      if s.sys.loader && !c.inLoader then some { status := stBadOpcode }
      else s.accepts c i x.priv (hdrStaged x.hdr) (decide (hdrTag x.hdr = i.val)) x.win

/-- A SYS_ABORT that waits for its target's checks goes on (R117). -/
def State.wakeAborts (s : State) (k : Fin 48) : State :=
  forFin 48 (fun i s =>
    let x := s.tag i
    if x.st = .running ∧ x.cmd = some .sysAbort ∧ x.note = 1 ∧ abortTarget x.args = some k then s.tagMod i fun y => { y with note := 0 }
    else s) s

/-- COMMAND_ACCEPTANCE: the checks of a post end (R92). -/
def execCommandAcceptance (t : Nat) (tag : Fin 48) (s : State) : Res :=
  let s := s.advance t
  if (s.tag tag).st ≠ .posted ∨ !s.hif.fwReady then done s
  else match s.acceptFail tag with
    | some f => done ((s.holdFail tag f).wakeAborts tag)
    | none => done ((s.tagMod tag fun x => { x with st := .queued }).wakeAborts tag)

/-- A command of the group of tag `i` posted before it has not finished its immediate part (R93). -/
def State.behind (s : State) (i k : Fin 48) : Bool :=
  let x := s.tag i
  let y := s.tag k
  decide (y.group = x.group) && decide (y.order < x.order) &&
  (decide (y.st = .posted) || decide (y.st = .queued) || (decide (y.st = .running) && !y.deferred))

/-- COMMAND_DISPATCH: a queued command reaches the head of its group's queue (R93, R94). -/
def execCommandDispatch (t : Nat) (tag : Fin 48) (s : State) : Res :=
  let s := s.advance t
  if (s.tag tag).st = .queued && s.hif.fwReady && (List.finRange 48).all (fun k => !s.behind tag k) then
    done ((s.injectStart tag).tagMod tag fun x => { x with st := .running })
  else done s

end Sys2Proof.Machine
end

