-- ==== Sys2Proof/Machine/Second.lean ====
section
/-!
DEFINITION. What the module does once each Metronome second: the PPS, the holdover registers and drift terms, estimates,
the second's archive data, the Kettle offset estimate, per-second counters, the BMCA (R18, R270, R273 to R277, R323, R472, R504).
-/

namespace Sys2Proof.Machine

/-- The most recent 3,600 s in which DPLL0 was LOCKED with traceability, from the 1 s tier: mean of -c and its spread in
10^-15, centre, mean temperature (R504). -/
def State.takeHour (s : State) : State :=
  let l := s.arc.entries.filterMap fun e =>
    let x := e.dpll.getD 0 ArcDpll.init
    if e.tier = 0 ∧ e.traceable ∧ x.lockedS ≠ 0 ∧ !e.ecc then
      some { w := 1, c := yOfC x.cMean, temp := e.caseTemp, mid2 := e.interval : AvgIn }
    else none
  let h := l.drop (l.length - 3600)
  if h.length < 3600 then s
  else
    let y := avgBy h (·.c)
    let q := h.foldl (fun a x => a + (x.c - y).natAbs ^ 2) 0
    s.onAge fun g =>
      { g with hourY := y, hourUnc := isqrt (q / h.length), hourSec := (avgBy h (·.mid2)).toNat, hourTemp := avgBy h (·.temp) }

/-- OFFSET, OFFSET_UNC and OFFSET_VALID at this second (R504). -/
def State.offsetNow (s : State) : State :=
  let s := if s.dpll 0 |>.counts then (if s.loop.traceHeld then
      (s.onAge fun g => { g with lockedS := g.lockedS + 1 }).takeHour else s) else s
  let today := s.ageDay
  s.onAge fun g =>
    let m := g.model
    let age := s.msec - g.hourSec
    let dT := g.caseTemp - g.hourTemp
    let recent := match g.days.getLast? with | some d => decide (today ≤ d.day + 7) | none => false
    { g with offset := satS 32 (g.hourY + rdiv (m.dK * age) 86400 + rdiv (m.kK * dT) 100),
             offsetUnc := satU 32 (g.hourUnc + m.ud * age / 86400 + m.uk * dT.natAbs / 100),
             offsetValid := m.valid && recent && decide (3600 ≤ g.lockedS) }

/-- The control value of a DPLL at a second: a holding one follows the drift terms, one in FREERUN the Kettle estimate;
every other one loads its holdover register (R266, R270, R273). -/
def State.secHold (d : Fin 8) (s : State) : State :=
  let x := s.dpll d
  if x.dstate = .holdover ∨ x.bridging then
    let c := s.holdC d s.msec
    s.dpllMod d fun y =>
      { y with c := c, hoReg := c, terms := s.termsNow d, hoTempInt := y.hoTempInt + (s.age.caseTemp - y.hoTc).natAbs,
               hoCold := if s.kettle.warm && !s.chilling then y.hoCold else y.hoCold + 1 }
  else if x.dstate = .freerun then (s.dpllMod d fun y => { y with c := s.freerunC }).loadHold d
  else s.loadHold d

/-- The second's control mean joins the last 60 s followed, and the second's sums start anew (R271, R272, R473). -/
def Dpll.secNew (sec : Nat) (temp : Int) (d : Dpll) : Dpll :=
  let l := if d.cur.isSome ∧ 0 < d.secAll then d.followC ++ [(sec, rdiv d.secC d.secAll, temp)] else d.followC
  { d with followC := l.drop (l.length - 60), secC := 0, secAll := 0, secT := 0, secE := 0, secEE := 0, secEMax := 0, secN := 0 }

/-- Seconds spent slewing (R339). -/
def State.slewSeconds (s : State) : State :=
  forFin 16 (fun p s => if (s.pl p).slewing then s.count (0x0800 + 16 * p.val + 2) else s) s

/-- Slews start at the first second boundary of a slewing state (R323). -/
def State.slewBegin (s : State) : State :=
  if s.sys.mstate.slews && !s.out.slewFrom then
    let s := s.onOut fun o => { o with slewFrom := true }
    s.onOut fun o => { o with pl := vmap o.pl (Pulse.judge s.slewOn) }
  else s

/-- A request that waits for a boundary since a step takes this one (R59). -/
def StrobeReq.meet (sec : Nat) (r : StrobeReq) : StrobeReq :=
  if r.atSecond ∧ r.boundary = none then { r with boundary := some sec } else r

/-- METRONOME_SECOND: the Metronome begins a new second (R18, R78). -/
def execMetronomeSecond (t : Nat) (s : State) : Res :=
  let s := s.advance t
  if s.msec ≤ s.time.lastSec || s.kettle.lost then done s
  else
    let sec := s.msec - 1
    let s := (s.onTime fun x => { x with lastSec := s.msec }).chime 9
    let s := s.ringCount.slewSeconds.slewBegin
    let s := s.onArc fun a => { a with pendEnt := some (s.secEntry sec) }
    let s := s.onLoop fun l => { l with dplls := vmap l.dplls (Dpll.secNew sec s.age.caseTemp) }
    let s := budgetAll (forFin 8 State.secHold s.offsetNow)
    let s := s.onPtp fun p => { p with lanes := vmap p.lanes fun l => { l with syncRate := l.secSyncs, secSyncs := 0 } }
    let s := s.onPair fun p => { p with alignMax := p.alignSec, alignSec := 0 }
    let s := bmcaAll s
    done (s.onHif fun h => { h with pend := h.pend.map (StrobeReq.meet s.msec), queued := h.queued.map (StrobeReq.meet s.msec) })

end Sys2Proof.Machine
end

