-- ==== Sys2Proof/Machine/HostPort.lean ====
section
/-!
DEFINITION. The host ports: frames, direct registers, the mailbox registers, wide values and the indirect pairs (R36 to
R84).
-/

namespace Sys2Proof.Machine

/-! ### Access (R37, R38, R45, R46) -/

/-- The port answers nothing: the module is held in reset or unpowered (R529), or the service port during the recall
(R46). -/
def State.portDead (s : State) (p : Fin 2) : Bool := s.sys.inReset || !s.sys.powered || (decide (p = 1) && s.hif.inRecall)

/-- A frame's privilege: never on the service port (R37). -/
def framePriv (p : Fin 2) (priv : Bool) : Bool := priv && decide (p = 0)

/-- The window registers, at which a frame's address stops (R41, R50). -/
def isWindow (a : BitVec 16) : Bool :=
  a == 0x0200 || a == 0x0208 || a == 0x0502 || a == 0x0512 || a == 0x0522 || a == 0x0532

/-- The address after a complete word at `a`: one more, 0x0000 after 0xFFFF, the same at a window (R41). -/
def nextAddr (a : BitVec 16) : BitVec 16 := if isWindow a then a else a + 1

/-- A frame or transaction carries its first address; one that is 0x0200 returns the port's write pointer (R41, R47,
R62). -/
def State.startAt (s : State) (p : Fin 2) (a : BitVec 16) : State :=
  s.portMod p fun x => { x with addr := a, win := if a = 0x0200 then [] else x.win }

/-- The address of the word that comes: `some a`, the frame starts at `a`; none, it goes on (R41). -/
def State.wordAddr (s : State) (p : Fin 2) (a : Option (BitVec 16)) : BitVec 16 := a.getD (s.port p).addr

/-- The frame's address as the word at `a` finds it. -/
def State.openAt (s : State) (p : Fin 2) (a : Option (BitVec 16)) : State :=
  match a with | some a => s.startAt p a | none => s

/-- A complete write of one word at `a`; refused during the recall (R41, R45). -/
def State.hostWrite (s : State) (p : Fin 2) (a : BitVec 16) (f : State → State) : State :=
  if s.portDead p then s
  else
    let s := s.portMod p fun x => { x with addr := nextAddr a, sdoAt := none }
    if s.hif.inRecall then s.hifErr 5 else f s

/-- The word a complete read delivers; SDO is driven on SPI while it is shifted, and only then (R42). -/
def State.shiftOut (s : State) (p : Fin 2) (w : Word) : State :=
  s.portMod p fun x => { x with out := [w], sdoAt := if p = 0 then some s.now else none }

/-- SDO is driven: a read or status word is being shifted at this instant (R42). -/
def State.sdo (s : State) : Bool := decide ((s.port 0).sdoAt = some s.now)

/-- A complete read of one word at `a`; refused during the recall it reads zero (R41, R45). -/
def State.hostRead (s : State) (p : Fin 2) (a : BitVec 16) (f : State → Word × State) : State :=
  if s.portDead p then s
  else
    let s := s.portMod p fun x => { x with addr := nextAddr a }
    if s.hif.inRecall then (s.hifErr 5).shiftOut p 0
    else (f s).2.shiftOut p (f s).1

/-- A write to a guarded register: an unprivileged one is ignored and sets PRIV (R38, R82). During the recall REFUSED
alone sets (log 57). -/
def State.guarded (s : State) (p : Fin 2) (priv : Bool) (a : BitVec 16) (f : State → State) : State :=
  s.hostWrite p a fun s => if framePriv p priv then f s else s.hifErr 0

/-! ### Frames (R42 to R48) -/

/-- SPI_STATUS_FRAME: one word of a status frame, a fresh capture of HIF_STATUS; answered during the recall too (R42,
R45). -/
def execSpiStatusFrame (t : Nat) (priv : Bool) (s : State) : Res :=
  let s := s.advance t
  if s.portDead 0 then done s else done (s.shiftOut 0 (s.hifStatus priv))

/-- Opcodes of the SPI port (R40). -/
def spiOps : List (BitVec 8) := [0x02, 0x0B, 0x05]

/-- BAD_OP: any other opcode sets BAD_OP and drives nothing (R43). -/
def execBadOp (t : Nat) (op : BitVec 8) (s : State) : Res :=
  let s := s.advance t
  if s.portDead 0 || spiOps.contains op then done s
  else done ((s.hifErr 3).portMod 0 fun x => { x with sdoAt := none })

/-- CS_CONFLICT: both selects asserted; the frame is ignored from then on (R39). -/
def execCsConflict (t : Nat) (s : State) : Res :=
  let s := s.advance t
  if s.portDead 0 then done s else done ((s.hifErr 4).portMod 0 fun x => { x with sdoAt := none })

/-- Whether a frame that ends at this place is short (R44). -/
def ShortPlace.isShort : ShortPlace → Bool
  | .header => true | .writeWord => true | .readWord => false | .dummy => false

/-- SHORT_FRAME: an SPI frame ends part-way; `addr`: its address, when it was complete and no word came after it (R41,
R44, R62). -/
def execShortFrame (t : Nat) (place : ShortPlace) (addr : Option (BitVec 16)) (s : State) : Res :=
  let s := s.advance t
  if s.portDead 0 then done s
  else
    let s := if place = .header then s else s.openAt 0 addr
    done (if place.isShort then s.hifErr 1 else s)

/-! ### Mailbox registers (R62, R63, R85 to R101) -/

/-- The tag a word names; 48 to 63 name none (R63). -/
def wordTag (w : Word) : Option (Fin 48) := if h : fld w 5 0 < 48 then some ⟨fld w 5 0, h⟩ else none

/-- Words MB_CMD_WINDOW holds (R62). -/
def winSize : Nat := 65

/-- A word to MB_CMD_WINDOW (R54, R62). -/
def State.cmdWord (s : State) (p : Fin 2) (w : Word) : State :=
  let l := (s.port p).win
  if l.length < winSize then s.portMod p fun x => { x with win := l ++ [w] } else s.hifErr 6

/-- Tag `i` as it stood at the start of this cycle (R90, log 18). -/
def State.tagBefore (s : State) (i : Fin 48) : Tag :=
  match (if s.mb.touchedAt = s.now then s.mb.touched else []).find? fun x => decide (x.tag = i) with
  | some x => x.was
  | none => s.tag i

/-- Keep tag `i` as it stands before a post or an acknowledgement touches it (R90). -/
def State.touch (s : State) (i : Fin 48) : State :=
  let l := if s.mb.touchedAt = s.now then s.mb.touched else []
  s.onMb fun m => { m with touchedAt := s.now, touched := if l.any (fun x => decide (x.tag = i)) then l else l ++ [{ tag := i, was := s.tag i }] }

/-- A write to MB_POST (R45, R62, R86, R89, R91). A write that is ignored, for want of FW_READY or for a tag above 47, leaves
the window where it is (R45, R63; log 32). -/
def State.post (s : State) (p : Fin 2) (priv : Bool) (w : Word) : State :=
  if !s.hif.fwReady then s.hifErr 5
  else match wordTag w with
    | none => s
    | some i =>
      let win := (s.port p).win
      let s := (s.touch i).portMod p fun x => { x with win := [] }
      if (s.tag i).st = .free then
        (s.tagMod i fun _ => { Tag.init with st := .posted, port := p, win := win, priv := framePriv p priv, order := s.mb.nextOrder }).onMb
          fun m => { m with nextOrder := m.nextOrder + 1 }
      else
        (s.tagMod i fun x => { x with collided := satU 8 (x.collided + 1) }).onMb fun m => { m with collisions := satU 32 (m.collisions + 1) }

/-- A write to MB_RESP_TAG (R62, R63). -/
def State.respTag (s : State) (p : Fin 2) (w : Word) : State :=
  match wordTag w with
  | none => s
  | some i => s.portMod p fun x => { x with respTag := ⟨i.val, by omega⟩, dataPtr := 0 }

/-- The tag a port has selected. -/
def State.selTag (s : State) (p : Fin 2) : Option (Fin 48) :=
  if h : (s.port p).respTag.val < 48 then some ⟨(s.port p).respTag.val, h⟩ else none

/-- The response header of tag `i` with contents `x`: held, or the NOT_READY form, from reset on (R98, R99; log 57). -/
def Tag.respHdr (x : Tag) (i : Fin 48) : Word :=
  if x.st = .held then
    pack [pbit true 31, (x.status.toNat, 30, 24), (x.reads, 23, 16), (i.val, 15, 10), pbit (decide (0 < x.collided)) 9, pbit x.staged 8,
          (x.data.length, 7, 0)]
  else pack [(stNotReady.toNat, 30, 24), (i.val, 15, 10)]

/-- A complete read of MB_RESP_HDR: the tag as it stood at the start of the cycle; it counts on a held response and
returns the data pointer (R62, R90, R99, R100). -/
def State.readHdr (s : State) (p : Fin 2) : Word × State :=
  match s.selTag p with
  | none => (0, s)
  | some i =>
    let w := (s.tagBefore i).respHdr i
    let s := s.portMod p fun x => { x with dataPtr := 0 }
    (w, if (s.tag i).st = .held then s.tagMod i fun x => { x with reads := satU 8 (x.reads + 1) } else s)

/-- A complete read of MB_RESP_DATA (R62, R99). -/
def State.readData (s : State) (p : Fin 2) : Word × State :=
  match s.selTag p with
  | none => (0, s)
  | some i =>
    if (s.tag i).st = .held then
      ((s.tag i).data.getD (s.port p).dataPtr 0, s.portMod p fun x => { x with dataPtr := x.dataPtr + 1 })
    else (0, s)

/-- An acknowledgement: the tag becomes FREE, or holds TAG_IN_USE with the collisions (R86, R89, R101). -/
def State.ack (s : State) (w : Word) : State :=
  match wordTag w with
  | none => s
  | some i =>
    let x := s.tag i
    if x.st ≠ .held then s
    else if x.collided = 0 then ((s.touch i).tagMod i fun _ => Tag.init).chime 17
    else ((s.touch i).hold i stTagInUse false [wd x.collided]).tagMod i fun y => { y with collided := 0 }

/-! ### Wide values (R64 to R69) -/

/-- A counter item that a chapter lists (R175, R257, R296, R339, R377, R407, R440, R451, R498, R524, R534). -/
def counterOk (i : Nat) : Bool :=
  let k := i % 16
  if i < 0x0420 then
    let c := i / 16
    k == 0 || k == 1 || k == 3 || (decide (c < 64) && (k == 2 || k == 4 || k == 5)) ||
    (decide (16 ≤ c) && decide (c < 64) && k == 6) || (decide (c < 4) && (k == 7 || k == 8))
  else if 0x0500 ≤ i ∧ i < 0x0580 then decide (k < 6)
  else if 0x0600 ≤ i ∧ i < 0x0680 then decide (k < 6)
  else if 0x0700 ≤ i ∧ i < 0x0780 then decide (k < 4)
  else if 0x0800 ≤ i ∧ i < 0x0900 then decide (k < 3)
  else if 0x0900 ≤ i ∧ i < 0x0903 then true
  else if 0x1000 ≤ i ∧ i < 0x1600 then decide (i % 32 < 26)
  else i == 0x1600 || (decide (0x1700 ≤ i) && decide (i < 0x170C)) || (decide (0x1800 ≤ i) && decide (i < 0x180A)) ||
    (decide (0x1900 ≤ i) && decide (i < 0x1906)) || i == 0x1A00 || (decide (0x1B00 ≤ i) && decide (i < 0x1B06)) ||
    i == 0x1C00 || i == 0x1C01

/-- FEC_CORRECTED or FEC_UNCORRECTED of a lane (R377). -/
def fecItem (i : Nat) : Bool := decide (0x1000 ≤ i) && decide (i < 0x1600) && (decide (i % 32 = 20) || decide (i % 32 = 21))

/-- What a lane's FEC has counted since the counter was read last is free: no command brings the lane's codewords (log 54). -/
def State.fecCount (i : Nat) (s : State) : State :=
  if fecItem i then (s.draw.2).count i (Config.freeInt s.draw.1).toNat else s

/-- A captured value, right-aligned in 128 bits, and whether its counter had saturated; none: no such selection
(R65, R66). -/
def State.wide (s : State) (cls item : Nat) : Option (BitVec 128 × Bool) :=
  let sg := fun (v : Int) => some (BitVec.ofInt 128 (sat64 v), false)
  if cls = 1 ∧ item = 0 then some (BitVec.ofNat 128 (pat96 s.mt), false)
  else if cls = 1 ∧ item = 1 then some (BitVec.ofNat 128 (pat96 s.hif.lastApplied), false)
  else if cls = 2 ∧ counterOk item then some (BitVec.ofNat 128 (s.ctr item), s.ctrSat item)
  else if h : cls = 3 ∧ item / 4 < 8 ∧ item % 4 < 3 then
    let d := s.dpll ⟨item / 4, h.2.1⟩
    if item % 4 = 0 then sg d.err else if item % 4 = 1 then sg d.c else sg d.hoAvg
  else none

/-- A write to WV_SEL captures at one edge; CLEAR zeroes the counter there (R64, R65, R67). -/
def State.wvSel (s : State) (p : Fin 2) (w : Word) : State :=
  let w := w &&& 0x8FFFFFFF
  let cls := fld w 27 24
  let item := fld w 23 0
  let s := if cls = 2 then s.fecCount item else s
  let s := if cls = 2 ∧ item = 0x0902 then s.ringCount else s
  let v := s.wide cls item
  let clr := wbit w 31 && decide (cls = 2) && v.isSome
  let s := s.portMod p fun x =>
    { x with wvSel := w, wvValid := false, wvBusy := true, capData := (v.getD (0, false)).1, capBad := v.isNone, capSat := (v.getD (0, false)).2,
             capCleared := clr }
  if clr then { s with ctrs := cntSet s.ctrs item 0 } else s

/-- WV_CAPTURE_DONE: the four words change together and VALID sets (R64, R68). -/
def execWvCaptureDone (t : Nat) (port : Fin 2) (s : State) : Res :=
  let s := s.advance t
  if (s.port port).wvBusy then
    done (s.portMod port fun x =>
      { x with wvData := x.capData, wvBadSel := x.capBad, wvSat := x.capSat, wvCleared := x.capCleared, wvBusy := false, wvValid := true,
               wvSeq := x.wvSeq + 1 })
  else done s

/-- WV_STATUS (R68). -/
def Port.wvStatus (x : Port) : Word :=
  pack [(x.wvSeq.toNat, 15, 8), pbit x.wvCleared 4, pbit x.wvSat 3, pbit x.wvBadSel 2, pbit x.wvBusy 1, pbit x.wvValid 0]

/-- WV_DATA0 to WV_DATA3, the first most significant (R66, R69). -/
def Port.wvWord (x : Port) (k : Nat) : Word := wd (x.wvData.toNat / 2 ^ (32 * (3 - k)))

/-! ### Indirect pairs (R70 to R77) -/

/-- The block of a window of space 3 by its base source ID (R70, R72, R456). -/
def windowBase (addr : Nat) : Option Nat :=
  match blockOf (addr / 2 ^ 14) with
  | some (base, _) => if base = addr / 2 ^ 14 then some base else none
  | none => none

/-- The address lies in the space (R70). -/
def inSpace (space addr : Nat) : Bool :=
  match space with
  | 0 => true
  | 1 => decide (addr < 0x20000)
  | 2 => decide (addr < 0x40000)
  | _ => (windowBase addr).isSome

/-- Lowest base source ID of a block's kind, and its instance; a block of which there is one is instance 0 (R456). -/
def instanceOf (base : Nat) : Nat × Nat :=
  if 0x100 ≤ base ∧ base < 0x200 then (0x100, (base - 0x100) / 4)
  else if 0x200 ≤ base ∧ base < 0x280 then (0x200, (base - 0x200) / 16)
  else if 0x280 ≤ base ∧ base < 0x300 then (0x280, (base - 0x280) / 16)
  else if 0x300 ≤ base ∧ base < 0x3C0 then (0x300, (base - 0x300) / 4)
  else (base, 0)

/-- Word 0 of a block's window: type, instance, revision (R72, R456). -/
def blockWord (base : Nat) : Word :=
  let k := (instanceOf base).1
  pack [((Config.blockType k).toNat, 31, 16), ((instanceOf base).2, 15, 8), ((Config.blockRev k).toNat, 7, 0)]

/-- The word at an address of a space; outside it, zero (R70 to R73). A word of space 3 that is not named carries no
guarantee and is free (R72). -/
def State.spaceWord (s : State) (space addr : Nat) : Word × State :=
  if !inSpace space addr then (0, s)
  else match space with
    | 0 => (s.arcWord addr, s)
    | 1 => (memWord s.nvs.mem addr, s)
    | 2 => (memWord s.nvs.sram addr, s)
    | _ => if addr % 2 ^ 14 = 0 then (blockWord (addr / 2 ^ 14), s) else (Config.freeWord s.draw.1, s.draw.2)

/-- A word of a space fetched, and whether it had an uncorrectable error: then it reads zero and raises its fault; a
corrected error, or one that a retry mended, is counted as its fault and does not show. The archive and the SRAM have
ECC (R74, R467, R470). -/
def State.fetch (s : State) (space addr : Nat) (e : EccIn) : (Word × Bool) × State :=
  let ecc := (decide (space = 0) || decide (space = 2)) && inSpace space addr
  let r := if !ecc then s else if space = 0 then s.arcEcc addr e else s.sramEcc addr e
  if ecc && decide (e = .uncorrectable) then ((0, true), r)
  else (((r.spaceWord space addr).1, false), (r.spaceWord space addr).2)

/-- An access advances the pair's address and discards the prefetched word (R73). -/
def Ind.step (x : Ind) : Ind := { x with addr := x.addr + x.stride.setWidth 24, pre := none }

/-- An access to an address outside the space sets RANGE (R73). -/
def Ind.ranged (x : Ind) : Ind := { x with range := x.range || !inSpace x.space.toNat x.addr.toNat }

/-- A write to IND_CTLn or IND_ADDRn (R73, R76, R77); a flag that hardware sets in the same cycle, `hw`, stays (R84). -/
def Ind.set (ctl : Bool) (w : Word) (hw : BitVec 4) (x : Ind) : Ind :=
  let keep := fun (now : Bool) (k b : Nat) => now && (!wbit w b || hw.getLsbD k)
  if ctl then
    { x with space := w.extractLsb' 0 2, stride := w.extractLsb' 8 8, denied := keep x.denied 3 19, ecc := keep x.ecc 2 18,
             roWrite := keep x.roWrite 1 17, range := keep x.range 0 16, pre := none }
  else { x with addr := w.extractLsb' 0 24, pre := none }

/-- Hardware sets flags of pair `n`: DENIED, ECC, RO_WRITE, RANGE are bits 3 to 0 (R76, R84). -/
def State.indFlag (s : State) (n : Fin 4) (b : BitVec 4) : State :=
  s.onHif fun h =>
    { h with ind := vmod h.ind n fun x => { x with denied := x.denied || b.getLsbD 3, ecc := x.ecc || b.getLsbD 2,
                                                   roWrite := x.roWrite || b.getLsbD 1, range := x.range || b.getLsbD 0 }
             cyc := { s.cyc with ind := vmod s.cyc.ind n fun x => x ||| b } }

/-- IND_PREFETCH: the word at the pair's address becomes its prefetched word; `ecc`: what its ECC finds (R74). -/
def execIndPrefetch (t : Nat) (n : Fin 4) (ecc : EccIn) (s : State) : Res :=
  let s := s.advance t
  let x := s.ind n
  if x.pre.isSome then done s
  else
    let r := s.fetch x.space.toNat x.addr.toNat ecc
    let s := if r.1.2 then r.2.indFlag n 4 else r.2
    done (s.indMod n fun x => { x with pre := some r.1.1 })

/-- The access is refused for want of privilege: PRIV and DENIED, and no other flag (log 57); the address advances all
the same (R38, R73). -/
def State.indDeny (s : State) (n : Fin 4) : State := ((s.hifErr 0).indFlag n 8).indMod n Ind.step

/-- RANGE, for an access at an address outside the space (R73). -/
def Ind.rangeBit (x : Ind) : BitVec 4 := if inSpace x.space.toNat x.addr.toNat then 0 else 1

/-- A complete read of IND_DATAn (R37, R73). A word not yet prefetched is fetched at once, with the finding `ecc` (R74). -/
def State.indRead (s : State) (priv : Bool) (n : Fin 4) (ecc : EccIn) : Word × State :=
  let x := s.ind n
  if x.space = 2 ∧ !priv then (0, s.indDeny n)
  else
    let r := match x.pre with
      | some w => ((w, false), s)
      | none => s.fetch x.space.toNat x.addr.toNat ecc
    (r.1.1, (r.2.indFlag n (x.rangeBit ||| (if r.1.2 then 4 else 0))).indMod n Ind.step)

/-- A complete write of IND_DATAn (R37, R70, R71, R73, R491). Outside the space RANGE alone sets (log 57). A block
register that no chapter names takes no effect (R72, log 31). No NVS write precedes FW_READY: PROT sets (R528, log 62). -/
def State.indWrite (s : State) (priv : Bool) (n : Fin 4) (w : Word) : State :=
  let x := s.ind n
  let a := x.addr.toNat
  if x.space = 0 then (s.indFlag n 2).indMod n Ind.step
  else if !priv then s.indDeny n
  else
    let s := (s.indFlag n x.rangeBit).indMod n Ind.step
    if !inSpace x.space.toNat a then s
    else if x.space = 1 then
      if s.hif.rawWrEn && !s.sys.wp && !s.nvsBarred then (s.onNvs fun m => { m with mem := memPutWord m.mem a w }).pageOp (a / 64) else s.hifErr 7
    else if x.space = 2 then s.onNvs fun m => { m with sram := memPutWord m.sram a w }
    else s

/-! ### Fault counters (R81, R84) -/

/-- A class counter written: the value, with the increments of the same cycle; at the limit SAT sets (R81, R84). -/
def cntLoad (w : Word) (inc : Nat) : Word := (List.range inc).foldl (fun w _ => cntUp w) w

/-- A write to a class counter loads COUNT and SAT (R81, R84). -/
def State.setCount (s : State) (c : Cls) (w : Word) : State :=
  s.onFlt fun f => match c with
    | .corrected => { f with cntCor := cntLoad w s.cyc.cor }
    | .contained => { f with cntCon := cntLoad w s.cyc.con }
    | .fatal => { f with cntFat := cntLoad w s.cyc.fat }
    | .none => f

end Sys2Proof.Machine
end

