-- ==== Sys2Proof/Machine/Boot.lean ====
section
/-!
DEFINITION. Resets of the module, the boot sequence, the boot profile, and the guarded registers that reset, boot and
test the module (R82, R83, R450, R526 to R542, R546).
-/

namespace Sys2Proof.Machine

/-! ### Resets (R526, R546) -/

/-- The Kettle after a reset: the oven controller and KETTLE_WARM are kept unless supplies failed (R537, R546, R275). -/
def Kettle.afterReset (cold : Bool) (now : Nat) (k : Kettle) : Kettle :=
  if cold then Kettle.init
  else { Kettle.init with warm := k.warm, ovenErr := k.ovenErr, heater := k.heater, ovenFault := k.ovenFault, thermB := k.thermB,
                          heaterOn := k.heaterOn, ran := k.ran + now }

/-- A reset of the module: everything returns to State.reset but the NVS, the firmware store, the key store, the pins as
they stand and, unless `cold`, the oven (R105, R526, R83). Kettle time counts from the new t0. -/
def State.rebooted (cause : Nat) (cold : Bool) (s : State) : State :=
  { State.reset with
    sys := { Sys.init with resetCause := cause, powered := s.sys.powered, inReset := s.sys.inReset, i2cAddr := s.sys.i2cAddr,
                           slotB := s.sys.slotB, wp := s.sys.wp, slots := s.sys.slots, nextB := s.sys.nextB, fallback := s.sys.fallback }
    kettle := s.kettle.afterReset cold s.now
    ptp := { Ptp.init with keys := s.ptp.keys }
    nvs := { Nvs.init with mem := s.nvs.mem }
    store := s.store
    freeCtr := s.freeCtr
    pending := s.pending }

/-- FW_CTL.SOFT_RESET, by the host (cause 2) or by RESET_AFTER (cause 3): as RESET_N; the page counts are saved first (R111, R491, R526). -/
def State.softReset (cause : Nat) (s : State) : State := s.saveWear.rebooted cause false

/-- POWER_ON: all supplies enter their ranges; after a brown-out the latch of VDD_18 tells the cause (R111, R527). -/
def execPowerOn (t : Nat) (i2c slotB wp : Bool) (s : State) : Res :=
  let s := s.advance t
  let s := s.rebooted (if s.sys.powered then 0 else s.sys.resetCause) true
  done (s.onSys fun y => { y with powered := true, i2cAddr := i2c, slotB := slotB, wp := wp })

/-- RESET_N asserted for 1 us or longer resets the module in full (R526). -/
def execResetN (t : Nat) (ns : Nat) (s : State) : Res :=
  let s := s.advance t
  if ns < 1000 then done s
  else
    let s := s.rebooted (if s.sys.powered then 1 else s.sys.resetCause) (!s.sys.powered)
    done (s.onSys fun y => { y with inReset := true })

/-- RESET_N_RELEASE: t0; the straps are sampled and the boot starts (R46, R527). -/
def execResetNRelease (t : Nat) (i2c slotB : Bool) (s : State) : Res :=
  let s := s.advance t
  if !s.sys.inReset then done s
  else
    let s := s.rebooted s.sys.resetCause (!s.sys.powered)
    done (s.onSys fun y => { y with inReset := false, i2cAddr := i2c, slotB := slotB })

/-- BROWN_OUT: a record write that power meets has its first `torn` bytes written (R486). A supply below its threshold for 2 us resets as at power-on; the module stays down until POWER_ON. A fall
of VDD_OVEN acts only under R181 (R111, R546). -/
def execBrownOut (t : Nat) (rail : Rail) (ns : Nat) (fell18 : Bool) (torn : Nat) (s : State) : Res :=
  let s := s.advance t
  if ns < 2000 || decide (rail = .vddOven) || !s.sys.powered then done s
  else
    let s := (s.partWrite torn).rebooted (if fell18 then 0 else 4) true
    done (s.onSys fun y => { y with powered := false })

/-- RESET_AFTER: 100 ms after the commit's response is held (R116, R541). -/
def execResetAfter (t : Nat) (s : State) : Res :=
  let s := s.advance t
  match s.sys.resetDue with
  | some k => if k ≤ s.now then done (s.softReset 3) else done s
  | none => done s

/-! ### The boot profile (R533 to R536) -/

/-- Entries of a profile: each a header and its argument words; they must end exactly with the words (R533). -/
def profileSplit : Nat → List Word → Option (List (List Word))
  | 0, [] => some []
  | 0, _ :: _ => none
  | _ + 1, [] => none
  | n + 1, h :: r =>
    if r.length < hdrCount h ∨ hdrBit8 h ∨ hdrTag h ≠ 0 then none
    else (profileSplit n (r.drop (hdrCount h))).map ((h :: r.take (hdrCount h)) :: ·)

/-- A profile: JUMP_US and its entries, or malformed (R533). -/
def profileParse (cmdSet : Nat) (bytes : List (BitVec 8)) : Option (Nat × List (List Word)) :=
  let w := wordsOfBytes bytes
  let w0 := w.getD 0 0
  if bytes.length % 4 ≠ 0 ∨ w.length < 3 ∨ fld w0 31 16 ≠ cmdSet ∨ fld w0 15 12 ≠ 0 ∨ 4089 < fld w0 11 0 then none
  else (profileSplit (fld w0 11 0) (w.drop 3)).map fun l => ((w.getD 1 0).toNat, l)

/-- What an unstaged entry that the profile runs does (R534); none: its opcode is skipped. -/
def profileBody (c : Cmd) (a : Args) (s : State) : Option (State × Reply) :=
  match c with
  | .outSlew => if ab a 0 31 then none else some (outSlewBody 0 a s)
  | .fltReaction => some (fltReactionBody 0 a s)
  | .agePolicy => some (agePolicyBody 0 a s)
  | .ptpSecurity => if af a 0 31 30 = 1 then some (ptpSecurityBody 0 a s) else none
  | _ => none

/-- An entry skipped: logged with its opcode and the failure's DETAIL, and counted (R534). -/
def State.profileSkip (s : State) (op detail : Nat) : State := (s.notApplied op detail).count 0x1C01

/-- One entry in its order, as a privileged command; its STAGED bit is ignored (R533, R534). -/
def profileEntry (s : State) (win : List Word) : State :=
  let h := win.headD 0 &&& ~~~(0x200 : Word)
  let a := win.tail
  match cmdOf (hdrOpcode h) with
  | none => s.profileSkip (hdrOpcode h) 0
  | some .timeSet => s.profileSkip (hdrOpcode h) 0
  | some c =>
    match s.accepts c 0 true true true (h :: a) with
    | some f => s.profileSkip (hdrOpcode h) f.detail
    | none =>
      if c.info.s then
        (s.onMb fun m => { m with shadow := shadowPut m.shadow (fun y => c.cover a y) { cmd := c, args := a } }).count 0x1C00
      else match profileBody c a s with
        | some (s', .ok _) => s'.count 0x1C00
        | some (_, .fail f) => s.profileSkip (hdrOpcode h) f.detail
        | _ => s.profileSkip (hdrOpcode h) 0

/-- The profile applied in COLD, with one strobe of every group; absent or malformed, the reset configuration stands
(R534, R539). -/
def State.runProfile (cmdSet : Nat) (s : State) : State :=
  match s.nvs.rec? 0x0010 with
  | none => s
  | some r =>
    match profileParse cmdSet r.payload with
    | none => s.notApplied 0 0
    | some (jump, l) =>
      let s := s.onSys fun y => { y with profileJump := jump }
      (l.foldl profileEntry s).strobe 0x1FF

/-! ### The boot sequence (R527 to R532) -/

/-- NVS_RECALL_DONE, 14 ms after t0: every slot judged, the copies loaded; the direct registers open (R485, R527). -/
def execNvsRecallDone (t : Nat) (s : State) : Res :=
  let s := s.advance t
  if !s.hif.inRecall || s.sys.inReset || !s.sys.powered || !s.past 0 (14 * msU) then done s
  else
    let s := (s.onHif fun h => { h with inRecall := false }).onNvs fun n => { n with recallDone := true }
    done (((s.onSys fun y => { y with booted := true }).recalled.restore).chime 15)

/-- A slot's image passes its check at boot: it is read, and its signature verifies, or for the image as shipped the whole
check passes (R530, R531, log 12). -/
def State.slotOk (s : State) (m : ImgIn) (b : Bool) : Bool := m = .good && ((s.slot b).shipped || imageOk true (s.slot b).words)

/-- CAUSE of an image that cannot be loaded at boot (R531). -/
def ImgIn.cause (m : ImgIn) : Nat := if m = .unread then 2 else 1

/-- CMD_SET of the image in a slot; that of this manual in a shipped one (R109, R530). -/
def Image.cmdSet (m : Image) : Nat := if m.shipped then 1 else fld (m.words.getD 5 0) 15 0

/-- DETAIL of FW_STORE: the slots affected and the cause (R531). -/
def fwDetail (a b : Bool) (cause : Nat) : Nat := b.toNat * 512 + a.toNat * 256 + cause

/-- The image in slot `b` runs: archive rebuilt, profile applied, FW_READY, COLD (R469, R475, R527, R537). -/
def State.runImage (b : Bool) (s : State) : State :=
  let v := imageVersion b (s.slot b)
  let s := s.onSys fun y => { y with activeB := b, fwMajor := v.1, fwMinor := v.2.1, fwBuild := v.2.2 }
  let s := ((s.rebuildDaily.dpllMod 0 fun y => { y with c := s.freerunC }).loadHold 0).runProfile (s.slot b).cmdSet
  let s := s.onHif fun h => { h with fwReady := true }
  if s.sys.mstate = .cold then s.onSys fun y => { y with since := s.now } else s

/-- The loader runs, no image of the slots tried being loaded: no image, no configuration, no record; the FW_STORE record of R531 goes to NVS (R532). -/
def State.runLoader (a b : Bool) (cause : Nat) (s : State) : State :=
  let s := (s.onSys fun y => { y with loader := true, activeB := y.nextB, mstate := .cold, test := false, since := s.now }).onHif
    fun h => { h with fwReady := true }
  let r : Rec := { Rec.init with source := 0x060, cls := .contained, code := 0x68, reaction := 3, firstAt := s.mt,
                                 detail := wd (fwDetail a b cause), firstK := s.now, lastK := s.now }
  (s.onFlt fun f => { f with nvsFirst := some r }).fwWrite 0x0030

/-- FIRMWARE_LOADED: image NEXT, else with FALLBACK the other, else the loader (R531, R532). -/
def execFirmwareLoaded (t : Nat) (a b : ImgIn) (s : State) : Res :=
  let s := s.advance t
  if !s.sys.booted || s.hif.fwReady || s.sys.restartFrom.isSome || s.sys.inReset || !s.sys.powered then done s
  else
    let n := s.sys.nextB
    let img := fun (k : Bool) => if k then b else a
    let ok := fun (k : Bool) => s.slotOk (img k) k
    if ok n then done (s.runImage n)
    else if s.sys.fallback && ok (!n) then
      let s := s.onSys fun y => { y with nextB := !n }
      done ((s.report 0x060 .contained 0x68 (fwDetail (!n) n (img n).cause)).runImage (!n))
    else done (s.runLoader (!n || s.sys.fallback) (n || s.sys.fallback) (img n).cause)

/-- PROCESSOR_RESTART_DONE: the cores run again and the firmware resumes its evaluations; Roll's tasks resume at their
next period, a pass in progress from its beginning (R450, R517). -/
def execProcessorRestartDone (t : Nat) (s : State) : Res :=
  let s := s.advance t
  if s.sys.restartFrom.isNone then done s
  else
    let s := (s.onHif fun h => { h with fwReady := true }).onSys fun y => { y with restartFrom := none }
    let s := s.onNvs fun n => { n with marginAt := if n.marginPass then s.now else n.marginAt
                                       refreshAt := if n.refreshing then s.now else n.refreshAt }
    done (evalAll (s.onAge fun g => { g with taskAt := .replicate 13 s.now }))

/-! ### Guarded registers (R82 to R84) -/

/-- A host write of an enable that the hardware clears: a write of 1 at the instant of a clear is lost (R84). -/
def State.hostSet (k : Fin 4) (one : Bool) (f : State → State) (s : State) : State :=
  if one && decide (vget s.hif.lastClr k = some s.now) then s.hifErr 2
  else if one then f (s.onHif fun h => { h with lastSet := vmod h.lastSet k fun _ => some s.now })
  else f s

/-- Key slots erased, bit s slot s (R82, R363). -/
def State.eraseKeys (mask : BitVec 16) (s : State) : State :=
  s.onPtp fun p => { p with keys := vmapIdx p.keys fun i x => if mask.getLsbD i then Key.init else x }

/-- TEST_CTL.TEST written: 1 enters TEST, refused in FAULT_HOLD and under the loader; 0 leaves it for ACQUIRE (R9, R82,
R532). -/
def State.writeTest (v : Bool) (s : State) : State :=
  if v then
    s.hostSet 3 true fun s =>
      if decide (s.sys.mstate = .faultHold) || s.sys.loader then s.hifErr 5
      else (s.onSys fun y => { y with test := true }).toState .test
  else
    let s := s.onSys fun y => { y with test := false }
    if s.sys.mstate = .test then s.toState .acquire else s

/-- SOFT_RESET (R82, R526). -/
def execSoftReset (t : Nat) (port : Fin 2) (priv : Bool) (s : State) : Res :=
  done ((s.advance t).guarded port priv 0x0800 fun s => s.softReset 2)

/-- FW_CTL_NEXT (R82, R83). -/
def execFwCtlNext (t : Nat) (port : Fin 2) (priv v : Bool) (s : State) : Res :=
  done ((s.advance t).guarded port priv 0x0800 fun s => s.onSys fun y => { y with nextB := v })

/-- FW_CTL_FALLBACK (R82, R83). -/
def execFwCtlFallback (t : Nat) (port : Fin 2) (priv v : Bool) (s : State) : Res :=
  done ((s.advance t).guarded port priv 0x0800 fun s => s.onSys fun y => { y with fallback := v })

/-- KEY_SLOT_ERASE (R82, R363). -/
def execKeySlotErase (t : Nat) (port : Fin 2) (priv : Bool) (mask : BitVec 16) (s : State) : Res :=
  done ((s.advance t).guarded port priv 0x0801 fun s => s.eraseKeys mask)

/-- TEST_ENTER (R9, R82). -/
def execTestEnter (t : Nat) (port : Fin 2) (priv : Bool) (s : State) : Res :=
  done ((s.advance t).guarded port priv 0x0804 fun s => s.writeTest true)

/-- TEST_LEAVE (R9, R82). -/
def execTestLeave (t : Nat) (port : Fin 2) (priv : Bool) (s : State) : Res :=
  done ((s.advance t).guarded port priv 0x0804 fun s => s.writeTest false)

end Sys2Proof.Machine
end

