-- ==== Sys2Proof/Machine/MeasRows.lean ====
section
/-!
DEFINITION. The events of the fabric's self-calibration and of the Kettle and its oven, which raise faults (R20, R147 to
R150, R157, R179 to R181).
-/

namespace Sys2Proof.Machine

/-- Source ID of a stamping point: its channel, or the fabric core (R456). -/
def chanSource (ch : Fin 66) : Nat := if ch.val < 64 then 0x100 + 4 * ch.val else 0x090

/-- A period pair lies on the line: p1 at tap 8 or above, p2 at tap 760 or below, 400 to 740 bins apart; positions in
1/1024 bin (R150). -/
def pairFits (p1 p2 : Nat) : Bool :=
  decide (8 * 1024 ≤ p1) && decide (p2 ≤ 760 * 1024) && decide (p1 + 400 * 1024 ≤ p2) && decide (p2 ≤ p1 + 740 * 1024)

/-- The period pair of a line. -/
def Chan.setPair (line1 : Bool) (p1 p2 : Nat) (c : Chan) : Chan :=
  if line1 then { c with p1b := p1, p2b := p2 } else { c with p1a := p1, p2a := p2 }

/-- A pair outside the line: CAL FAILED, and the contained fault (R150). -/
def State.calFail (ch : Fin 66) (s : State) : State :=
  (s.chanMod ch fun c => { c with cal := .failed, upAt := s.now }).report (chanSource ch) .contained 0x10

/-- LINE_SWAP: the standby line becomes active with its new period pair and any new table (R147, R148, R150); the change
of p1 joins the day's largest, in 0.01 fs (R509). -/
def execLineSwap (t : Nat) (ch : Fin 66) (p1 p2 : Nat) (s : State) : Res :=
  let s := s.advance t
  let c := s.chan ch
  if !s.chanLive ch || !c.pairOk || decide (c.cal = .failed) then done s
  else
    let old := if c.line1 then c.p1a else c.p1b
    let s := s.chanMod ch fun c => 
      ({ c with line1 := !c.line1, swapDue := false, capture := { c.capture with swapped := c.capture.swapped || c.capture.starts s.mt } }.setPair
        (!c.line1) p1 p2).takeTable
    if pairFits p1 p2 then
      let s := s.chanMod ch fun c => { c with cal := c.calNow }
      let dv := ((p1 : Int) - old).natAbs * 250000000 / (p2 - p1)
      done (if old = 0 then s else s.onAge fun g => { g with swapMax := max g.swapMax dv })
    else done (s.calFail ch)

/-- Largest change of a bin boundary between two tables of `n` and `o` hits, times both: the running sums compared. -/
def boundGo (n o : Nat) : List Nat → List Nat → Int → Nat → Nat
  | a :: l, b :: r, d, m => boundGo n o l r (d + (a * o : Nat) - (b * n : Nat)) (max m (d + (a * o : Nat) - (b * n : Nat)).natAbs)
  | _, _, _, m => m

/-- BIN_TABLE_COMPLETE: 2^20 hits of a line form a table of 768 widths, used when the line next becomes active; a wrong
total discards it, a drift beyond 2 ps is reported (R148, R150, R194). -/
def execBinTableComplete (t : Nat) (ch : Fin 66) (line1 : Bool) (hits : List Nat) (s : State) : Res :=
  let s := s.advance t
  let c := s.chan ch
  let total := hits.foldl (· + ·) 0
  if !s.chanLive ch || decide (hits.length ≠ 768) then done s
  else if 2 ^ 20 < 20 * ((total : Int) - 2 ^ 20).natAbs then done (s.report (chanSource ch) .corrected 0x11)
  else
    let old := if line1 then c.tableB else c.tableA
    let (p1, p2) := if line1 then (c.p1b, c.p2b) else (c.p1a, c.p2a)
    let n := old.foldl (· + ·) 0
    let moved := boundGo total n hits old 0 0 * 786432 * 2500000
    let per := total * n * (p2 - p1)
    let drift := if per = 0 then 0 else moved / per
    let s := s.chanMod ch fun c =>
      let c := { c with drift := satU 16 drift }
      if line1 then { c with newB := hits, formedB := s.now } else { c with newA := hits, formedA := s.now }
    let s := (s.onAge fun g => { g with driftMax := max g.driftMax (satU 16 drift) }).rollDone 3
    done (if per ≠ 0 ∧ 2000 * per < moved then s.report (chanSource ch) .corrected 0x12 else s)

/-- PERIOD_PAIR_RETRY: 1 s after the last one; a pair that passes returns CAL to LIN (R150). -/
def execPeriodPairRetry (t : Nat) (ch : Fin 66) (p1 p2 : Nat) (s : State) : Res :=
  let s := s.advance t
  let c := s.chan ch
  if s.chanLive ch && decide (c.cal = .failed) && s.past c.upAt secU then
    if pairFits p1 p2 then
      done (s.chanMod ch fun c => ({ c with cal := .lin, pairOk := true }.setPair c.line1 p1 p2))
    else done (s.calFail ch)
  else done s

/-- Input path delay of a stamping point: measured for a pin, the receive path of a lane (R145). -/
def State.inDelay (s : State) (ch : Fin 66) (dIn : Int) : Int :=
  if ch.val = 65 then delayOfPs s.pair.rxDelay
  else match laneOf ch with | some l => delayOfPs (s.lane l).rxDelay | none => dIn

/-- CHANNEL_READY: 20 us after power-up or reset the delay and both lines' first period pairs are taken: p of line 0,
q of line 1 (R145, R157). Kept tables are used again once the pair confirms them. -/
def execChannelReady (t : Nat) (ch : Fin 66) (dIn : Int) (p1 p2 q1 q2 : Nat) (s : State) : Res :=
  let s := s.advance t
  let c := s.chan ch
  if s.chanLive ch && !c.pairOk && decide (c.cal = .lin) && s.past c.upAt (20 * usU) then
    let s := s.chanMod ch fun c => (({ c with dIn := s.inDelay ch dIn }.setPair false p1 p2).setPair true q1 q2).takeTable
    if pairFits p1 p2 && pairFits q1 q2 then done (s.chanMod ch fun c => { c with pairOk := true, cal := c.calNow })
    else done (s.calFail ch)
  else done s

/-! ### The Kettle and its oven -/

/-- KETTLE_SENSOR: the thermistors disagree; the controller steers on the one nearer the predicted value (R179). -/
def execKettleSensor (t : Nat) (second : Bool) (s : State) : Res :=
  let s := s.advance t
  let s := s.onKettle fun k => { k with sensorFault := true, thermB := second }
  done (s.report 0x000 .contained 0x08)

/-- Gates that a cold spell of the Kettle from Kettle instant `a` to now met (R193). -/
def State.gatesCold (a : Nat) (s : State) : State :=
  s.onMeas fun m => { m with freqs := m.freqs.map fun g => { g with cold := g.cold || g.coldSpell s a s.now } }

/-- KETTLE_WARM_SET: the criterion of R180 holds; the receiver's prediction restarts (R180, R194, R393). Without its heater the oven does not hold. -/
def execKettleWarmSet (t : Nat) (s : State) : Res :=
  let s := s.advance t
  if s.kettle.warm || !s.kettle.heaterOn || s.kettle.lost then done s
  else
    let up := satU 16 ((s.now - s.sys.upFrom) / secU)
    let s := s.onGnss fun g => { g with pred := [], predReady := false, predDev := 0 }
    done ((s.gatesCold s.kettle.coldFrom).onKettle fun k =>
      { k with warm := true, ovenFault := false, warmTime := if k.warmTime = 0 then up else k.warmTime })

/-- KETTLE_WARM clears: a contained fault that leaves the module state alone (R181). -/
def State.goCold (s : State) : State :=
  if s.kettle.warm then
    (s.onKettle fun k => { k with warm := false, ovenFault := true, coldFrom := s.now }).report 0x000 .contained 0x07
  else s

/-- KETTLE_OVEN (R181). -/
def execKettleOven (t : Nat) (s : State) : Res := done (s.advance t).goCold

/-- VDD_OVEN_FALL: the heater turns off (R181, R546). -/
def execVddOvenFall (t : Nat) (s : State) : Res :=
  done ((s.advance t).onKettle fun k => { k with heaterOn := false }).goCold

/-- VDD_OVEN_RETURN: the heater is powered again (R181, R546). -/
def execVddOvenReturn (t : Nat) (s : State) : Res :=
  done ((s.advance t).onKettle fun k => { k with heaterOn := true })

/-- KETTLE_LOSS: no CLK_AON edge for 500 ns; fatal, and final until reset (R20, R451). -/
def execKettleLoss (t : Nat) (s : State) : Res :=
  let s := s.advance t
  if s.kettle.lost then done s
  else
    let s := s.report 0x000 .fatal 0x06
    done (if s.kettle.lost then s else (s.consequence 0x06).soundGong false)

end Sys2Proof.Machine
end

