-- ==== Sys2Proof/Machine/Regs.lean ====
section
/-!
DEFINITION. Direct registers by address: what a complete read of a word delivers and what a complete write of it does
(R6, R8, R38, R45, R50 to R84).
-/

namespace Sys2Proof.Machine

/-- An address of the guarded range (R37). -/
def guardedAddr (a : Nat) : Bool := decide (0x0800 ≤ a) && decide (a ≤ 0x08FF)

/-- Pair of an address from 0x0500 to 0x053F (R50). -/
def pairOf (a : Nat) : Fin 4 := ⟨a / 16 % 4, by omega⟩

/-- IND_CTLn (R76). -/
def Ind.ctl (x : Ind) : Word :=
  pack [pbit x.denied 19, pbit x.ecc 18, pbit x.roWrite 17, pbit x.range 16, (x.stride.toNat, 15, 8), (x.space.toNat, 1, 0)]

/-- FLT_FIRST (R81). -/
def State.fltFirst (s : State) : Word := match s.flt.first with | some r => r.head | none => 0

/-- The word a complete read delivers, and what reading it changes; reserved addresses read zero (R8, R50). `ecc`: what the
ECC of a word fetched for it finds (R74). -/
def State.readAt (s : State) (p : Fin 2) (priv : Bool) (ecc : EccIn) (a : Nat) : Word × State :=
  if 0x0500 ≤ a ∧ a < 0x0540 then
    match a % 16 with
    | 0 => ((s.ind (pairOf a)).ctl, s)
    | 1 => ((s.ind (pairOf a)).addr.setWidth 32, s)
    | 2 => s.indRead priv (pairOf a) ecc
    | _ => (0, s)
  else match a with
    | 0x0000 => (idPart, s)
    | 0x0001 => (s.idRev, s)
    | 0x0002 => (s.hifStatus priv, s)
    | 0x0003 => (s.hif.err.setWidth 32, s)
    | 0x0004 => (s.hif.scratch, s)
    | 0x0100 => (s.updArm, s)
    | 0x0101 => (wd (s.hif.pend.isSome || s.hif.queued.isSome).toNat, s)
    | 0x0102 => (s.updStatus, s)
    | 0x0202 => (wd (tagBits s (fun x => decide (x = .free)) 0 32), s)
    | 0x0203 => (wd (tagBits s (fun x => decide (x = .free)) 32 16), s)
    | 0x0204 => (wd (tagBits s (fun x => decide (x = .held)) 0 32), s)
    | 0x0205 => (wd (tagBits s (fun x => decide (x = .held)) 32 16), s)
    | 0x0206 => (wd (s.port p).respTag.val, s)
    | 0x0207 => s.readHdr p
    | 0x0208 => s.readData p
    | 0x0400 => ((s.port p).wvSel, s)
    | 0x0401 => ((s.port p).wvStatus, s)
    | 0x0402 => ((s.port p).wvWord 0, s)
    | 0x0403 => ((s.port p).wvWord 1, s)
    | 0x0404 => ((s.port p).wvWord 2, s)
    | 0x0405 => ((s.port p).wvWord 3, s)
    | 0x0600 => (s.chimeRaw.setWidth 32, s)
    | 0x0601 => (s.hif.chimeStatus.setWidth 32, s)
    | 0x0602 => (s.hif.chimeEnable.setWidth 32, s)
    | 0x0700 => (s.fltSummary, s)
    | 0x0701 => (s.flt.cntCor, s)
    | 0x0702 => (s.flt.cntCon, s)
    | 0x0703 => (s.flt.cntFat, s)
    | 0x0704 => (s.fltFirst, s)
    | 0x0800 => (s.fwCtl, s)
    | 0x0801 => (s.hif.loadEn.setWidth 32, s)
    | 0x0802 => (s.injCtl, s)
    | 0x0803 => (s.nvsRawCtl, s)
    | 0x0804 => (s.testCtl, s)
    | _ => (0, s)

/-- FW_CTL written whole (R82, R83). -/
def State.writeFwCtl (s : State) (w : Word) : State :=
  let s := s.onSys fun y => { y with nextB := wbit w 1, fallback := wbit w 2 }
  if wbit w 8 then s.softReset 2 else s

/-- KEY_SLOT_CTL written whole (R82, R84). -/
def State.writeKeyCtl (s : State) (w : Word) : State :=
  let en := w.extractLsb' 0 16
  (s.hostSet 0 (decide (en ≠ 0)) fun s => s.onHif fun h => { h with loadEn := en }).eraseKeys (w.extractLsb' 16 16)

/-- UPD_ARM written (R57). -/
def State.writeArm (s : State) (w : Word) : State :=
  s.onHif fun h => { h with armGroups := w.extractLsb' 2 9, armSecond := wbit w 16 }

/-- UPD_STATUS written: writing 1 clears, but for what hardware sets in the same cycle (R61, R84). -/
def State.writeUpdStatus (s : State) (w : Word) : State :=
  s.onHif fun h => { h with applied := h.applied && (!wbit w 3 || s.cyc.applied), overflow := h.overflow && (!wbit w 4 || s.cyc.overflow) }

/-- HIF_ERR written: writing 1 clears, but for what hardware sets in the same cycle (R54, R84). -/
def State.writeErr (s : State) (w : Word) : State := s.onHif fun h => { h with err := h.err &&& (~~~ w.setWidth 8 ||| s.cyc.err) }

/-- CHIME_STATUS written: writing 1 clears, but for what is set in the same cycle (R79, R84). -/
def State.writeChime (s : State) (w : Word) : State :=
  s.onHif fun h => { h with chimeStatus := h.chimeStatus &&& (~~~ w.setWidth 18 ||| s.cyc.chime) }

/-- NVS_RAW_CTL written; a change of RAW_WR_EN changes the NVS status (R82, R495). -/
def State.writeRawCtl (s : State) (w : Word) : State :=
  s.hostSet 2 (wbit w 0) fun s =>
    let c := s.hif.rawWrEn != wbit w 0
    let s := s.onHif fun h => { h with rawWrEn := wbit w 0 }
    if c then s.chime 15 else s

/-- A complete write of a word; read-only and reserved addresses ignore it (R6, R8, R50). -/
def State.writeAt (s : State) (p : Fin 2) (priv : Bool) (a : Nat) (w : Word) : State :=
  if 0x0500 ≤ a ∧ a < 0x0540 then
    match a % 16 with
    | 0 => s.indMod (pairOf a) (Ind.set true w (vget s.cyc.ind (pairOf a)))
    | 1 => s.indMod (pairOf a) (Ind.set false w 0)
    | 2 => s.indWrite priv (pairOf a) w
    | _ => s
  else match a with
    | 0x0003 => s.writeErr w
    | 0x0004 => s.onHif fun h => { h with scratch := w }
    | 0x0100 => s.writeArm w
    | 0x0101 => if wbit w 0 then s.go else s
    | 0x0102 => s.writeUpdStatus w
    | 0x0200 => s.cmdWord p w
    | 0x0201 => s.post p priv w
    | 0x0206 => s.respTag p w
    | 0x0209 => s.ack w
    | 0x0400 => s.wvSel p w
    | 0x0601 => s.writeChime w
    | 0x0602 => s.onHif fun h => { h with chimeEnable := w.setWidth 18 }
    | 0x0701 => s.setCount .corrected w
    | 0x0702 => s.setCount .contained w
    | 0x0703 => s.setCount .fatal w
    | 0x0800 => s.writeFwCtl w
    | 0x0801 => s.writeKeyCtl w
    | 0x0802 => s.hostSet 1 (wbit w 0) fun s => s.onHif fun h => { h with injEnable := wbit w 0 }
    | 0x0803 => s.writeRawCtl w
    | 0x0804 => s.writeTest (wbit w 0)
    | _ => s

/-! ### The two ports in one cycle (R49, R90) -/

/-- The register is shared by the ports (R36). -/
def sharedAddr (a : BitVec 16) : Bool := !(a == 0x0200 || a == 0x0206 || (decide (0x0400 ≤ a.toNat) && decide (a.toNat ≤ 0x0405)))

/-- What the service port's write of this cycle found, kept until the cycle ends (R49, R90). -/
def State.noteSvc (s0 : State) (a : BitVec 16) (w : Word) (s : State) : State :=
  let tag := if a = 0x0201 ∨ a = 0x0209 then (wordTag w).map fun i => { tag := i, was := s0.tag i : TagWas } else none
  s.onMb fun m =>
    { m with svc := some { at_ := s0.now, addr := a.toNat, word := w, tag := tag, win := (s0.port 1).win, order := s0.mb.nextOrder,
                           collisions := s0.mb.collisions, chime := s0.hif.chimeStatus, ind := s0.ind (pairOf a.toNat) } }

/-- The service port's write of this cycle to register `a` (R49). -/
def State.svcWrote (s : State) (a : BitVec 16) : Option SvcAct :=
  match s.mb.svc with
  | some v => if v.at_ = s.now && v.addr = a.toNat && sharedAddr a then some v else none
  | none => none

/-- A post or an acknowledgement of the service port as if it had not come yet, unless the tag has gone on since; an
indirect pair's address likewise (R49, R90). -/
def State.undoSvc (s : State) (v : SvcAct) : State :=
  match v.tag with
  | some x =>
    let s := (s.tagMod x.tag fun _ => x.was).onMb fun m => { m with nextOrder := v.order, collisions := v.collisions }
    let s := if v.addr = 0x0201 then s.portMod 1 fun p => { p with win := v.win } else s
    if v.addr = 0x0209 then s.onHif fun h => { h with chimeStatus := h.chimeStatus &&& (v.chime ||| ~~~ BitVec.ofNat 18 (2 ^ 17)) } else s
  | none =>
    if 0x0500 ≤ v.addr ∧ v.addr < 0x0540 ∧ v.addr % 16 = 2 then s.indMod (pairOf v.addr) fun x => { x with addr := v.ind.addr } else s

/-- The firmware has not yet taken up the tag that the write touched. -/
def State.svcFresh (s : State) (v : SvcAct) : Bool :=
  match v.tag with
  | some x => decide ((s.tag x.tag).st = .free) || decide ((s.tag x.tag).st = .posted) || decide ((s.tag x.tag).st = .held)
  | none => true

/-- A post and an acknowledgement that touch one tag act on one register for this purpose (R90). -/
def State.svcMet (s : State) (a : BitVec 16) (w : Word) : Option SvcAct :=
  match s.svcWrote a with
  | some v => some v
  | none =>
    match s.mb.svc, wordTag w with
    | some v, some i =>
      if v.at_ = s.now && (decide (a = 0x0201) || decide (a = 0x0209)) && decide (v.tag.map (·.tag) = some i) then some v else none
    | _, _ => none

/-- A complete write of a word by port `p`. Where the service port wrote the same register in the same cycle, an SPI write
that comes behind it in the queue applies first all the same (R49, R90). A GO makes the same request in either order. -/
def State.busWrite (s : State) (p : Fin 2) (priv : Bool) (a : BitVec 16) (w : Word) : State :=
  if p = 1 then s.noteSvc a w (s.writeAt p priv a.toNat w)
  else match s.svcMet a w with
    | some v =>
      if a = 0x0101 || !s.svcFresh v then s.writeAt p priv a.toNat w
      else ((s.undoSvc v).writeAt p priv a.toNat w).writeAt 1 false v.addr v.word
    | none => s.writeAt p priv a.toNat w

/-- One word written by port `p` at `a`: refused during the recall; at a guarded address for privileged frames only (R6,
R38, R45). -/
def State.portWrite (s : State) (p : Fin 2) (priv : Bool) (a : BitVec 16) (w : Word) : State :=
  if guardedAddr a.toNat then s.guarded p priv a fun s => s.busWrite p true a w
  else s.hostWrite p a fun s => s.busWrite p (framePriv p priv) a w

/-- One word read by port `p` at `a`: refused for privilege or during the recall it delivers zero and sets PRIV or REFUSED;
0x0000 to 0x0002 answer during the recall too (R38, R45). -/
def State.portRead (s : State) (p : Fin 2) (priv : Bool) (ecc : EccIn) (a : BitVec 16) : State :=
  let q := framePriv p priv
  if s.portDead p then s
  else if s.hif.inRecall && decide (a.toNat ≤ 2) then
    (s.portMod p fun x => { x with addr := nextAddr a }).shiftOut p (s.readAt p q ecc a.toNat).1
  else s.hostRead p a fun s => if guardedAddr a.toNat && !q then (0, s.hifErr 0) else s.readAt p q ecc a.toNat

/-! ### Rows of the registers -/

/-- REGISTER_WRITE: one word written, at the address a frame starts at or at the one it goes on at (R6, R38, R41, R45). -/
def execRegisterWrite (t : Nat) (port : Fin 2) (priv : Bool) (addr : Option (BitVec 16)) (w : Word) (s : State) : Res :=
  let s := s.advance t
  if s.portDead port then done s else done ((s.openAt port addr).portWrite port priv (s.wordAddr port addr) w)

/-- REFUSED_READ: a complete read of the word at the address a frame starts at or goes on at, refused or not (R38, R41,
R45). -/
def execRefusedRead (t : Nat) (port : Fin 2) (priv : Bool) (addr : Option (BitVec 16)) (ecc : EccIn) (s : State) : Res :=
  let s := s.advance t
  if s.portDead port then done s else done ((s.openAt port addr).portRead port priv ecc (s.wordAddr port addr))

/-- MB_CMD_WINDOW; `first`: the frame starts there (R62). -/
def execMbCmdWindow (t : Nat) (port : Fin 2) (first : Bool) (w : Word) (s : State) : Res :=
  let s := s.advance t
  if s.portDead port then done s
  else done ((s.openAt port (if first then some 0x0200 else none)).portWrite port false 0x0200 w)

/-- MB_POST (R63, R86). -/
def execMbPost (t : Nat) (port : Fin 2) (priv : Bool) (w : Word) (s : State) : Res := done ((s.advance t).portWrite port priv 0x0201 w)

/-- MB_RESP_TAG (R63). -/
def execMbRespTag (t : Nat) (port : Fin 2) (w : Word) (s : State) : Res := done ((s.advance t).portWrite port false 0x0206 w)

/-- MB_RESP_HDR (R98). -/
def execMbRespHdr (t : Nat) (port : Fin 2) (s : State) : Res := done ((s.advance t).portRead port false .clean 0x0207)

/-- MB_RESP_DATA (R62). -/
def execMbRespData (t : Nat) (port : Fin 2) (s : State) : Res := done ((s.advance t).portRead port false .clean 0x0208)

/-- MB_RESP_ACK (R89, R101). -/
def execMbRespAck (t : Nat) (port : Fin 2) (w : Word) (s : State) : Res := done ((s.advance t).portWrite port false 0x0209 w)

/-- WV_SEL (R64). -/
def execWvSel (t : Nat) (port : Fin 2) (w : Word) (s : State) : Res := done ((s.advance t).portWrite port false 0x0400 w)

/-- UPD_STROBE_GO (R58). -/
def execUpdStrobeGo (t : Nat) (port : Fin 2) (w : Word) (s : State) : Res := done ((s.advance t).portWrite port false 0x0101 w)

/-- The address of register `k` of pair `n`: 0 IND_CTL, 1 IND_ADDR, 2 IND_DATA (R50). -/
def indAddr (n : Fin 4) (k : Nat) : BitVec 16 := BitVec.ofNat 16 (0x0500 + 16 * n.val + k)

/-- IND_ADDRESS_WRITE (R73). -/
def execIndAddressWrite (t : Nat) (port : Fin 2) (n : Fin 4) (ctl : Bool) (w : Word) (s : State) : Res :=
  done ((s.advance t).portWrite port false (indAddr n (if ctl then 0 else 1)) w)

/-- IND_DATA_READ (R73). -/
def execIndDataRead (t : Nat) (port : Fin 2) (priv : Bool) (n : Fin 4) (ecc : EccIn) (s : State) : Res :=
  done ((s.advance t).portRead port priv ecc (indAddr n 2))

/-- IND_DATA_WRITE (R73). -/
def execIndDataWrite (t : Nat) (port : Fin 2) (priv : Bool) (n : Fin 4) (w : Word) (s : State) : Res :=
  done ((s.advance t).portWrite port priv (indAddr n 2) w)

/-- The register of a class counter (R81). -/
def Cls.cntAddr : Cls → BitVec 16
  | .corrected => 0x0701 | .contained => 0x0702 | .fatal => 0x0703 | .none => 0x0705

/-- FLT_COUNT_WRITE (R81). -/
def execFltCountWrite (t : Nat) (port : Fin 2) (which : Cls) (w : Word) (s : State) : Res :=
  done ((s.advance t).portWrite port false which.cntAddr w)

/-! ### Transactions of the service port (R46 to R48) -/

/-- The 7-bit address of the service port (R46). -/
def State.svcDev (s : State) : BitVec 7 := if s.sys.i2cAddr then 0x4C else 0x4B

/-- Data bytes of a write transaction: big-endian, each fourth byte commits a word; one to three bytes left over are
discarded with SHORT (R47, R48). -/
def commitBytes : List (BitVec 8) → State → State
  | [], s => s
  | a :: b :: c :: d :: r, s => commitBytes r (s.portWrite 1 false (s.port 1).addr (wordOf4 a b c d))
  | _, s => s.hifErr 1

/-- `n` words read on from the transaction's address (R47). -/
def readWords : Nat → State → State
  | 0, s => s
  | n + 1, s =>
    let before := (s.port 1).out
    let s := s.portRead 1 false .clean (s.port 1).addr
    readWords n (s.portMod 1 fun x => { x with out := before ++ x.out })

/-- A transaction's bytes after the device address: nothing (a probe), a cut address, or the word address and data (R47,
R48). -/
def State.svcBytes (s : State) (bytes : List (BitVec 8)) : State :=
  match bytes with
  | [] => s
  | [_] => s.hifErr 1
  | h :: l :: data => commitBytes data (s.startAt 1 (h ++ l))

/-- SHORT_TRANSACTION: a transaction of the service port that may stop anywhere: the device address `dev`, the bytes
written after it, and, after a repeated start, the bytes read. The port answers its own address alone, no general call;
a word of which fewer than four bytes are read is not consumed (R46 to R48). -/
def execShortTransaction (t : Nat) (dev : BitVec 7) (bytes : List (BitVec 8)) (reads : Nat) (s : State) : Res :=
  let s := s.advance t
  if s.portDead 1 || dev != s.svcDev then done s
  else done (readWords (reads / 4) ((s.svcBytes bytes).portMod 1 fun x => { x with out := if 4 ≤ reads then [] else x.out }))

end Sys2Proof.Machine
end

