-- ==== Sys2Proof/Machine/Dispatch.lean ====
section
/-!
DEFINITION. Which meaning each command has: one arm per constructor.
-/
namespace Sys2Proof.Machine

/-- The effect of a command on everything but the queue. -/
def exec (i : Instr) (s : State) : Host.Outcome State Fault Refusal :=
  match i with
  | .spiStatusFrame t priv => Sys2Proof.Machine.execSpiStatusFrame t priv s
  | .badOp t op => Sys2Proof.Machine.execBadOp t op s
  | .csConflict t => Sys2Proof.Machine.execCsConflict t s
  | .shortFrame t place addr => Sys2Proof.Machine.execShortFrame t place addr s
  | .shortTransaction t dev bytes reads => Sys2Proof.Machine.execShortTransaction t dev bytes reads s
  | .mbCmdWindow t port first w => Sys2Proof.Machine.execMbCmdWindow t port first w s
  | .mbPost t port priv w => Sys2Proof.Machine.execMbPost t port priv w s
  | .mbRespTag t port w => Sys2Proof.Machine.execMbRespTag t port w s
  | .mbRespHdr t port => Sys2Proof.Machine.execMbRespHdr t port s
  | .mbRespData t port => Sys2Proof.Machine.execMbRespData t port s
  | .mbRespAck t port w => Sys2Proof.Machine.execMbRespAck t port w s
  | .wvSel t port w => Sys2Proof.Machine.execWvSel t port w s
  | .wvCaptureDone t port => Sys2Proof.Machine.execWvCaptureDone t port s
  | .updStrobeGo t port w => Sys2Proof.Machine.execUpdStrobeGo t port w s
  | .strobeApply t => Sys2Proof.Machine.execStrobeApply t s
  | .indAddressWrite t port n ctl w => Sys2Proof.Machine.execIndAddressWrite t port n ctl w s
  | .indDataRead t port priv n ecc => Sys2Proof.Machine.execIndDataRead t port priv n ecc s
  | .indDataWrite t port priv n w => Sys2Proof.Machine.execIndDataWrite t port priv n w s
  | .indPrefetch t n ecc => Sys2Proof.Machine.execIndPrefetch t n ecc s
  | .fltCountWrite t port which w => Sys2Proof.Machine.execFltCountWrite t port which w s
  | .softReset t port priv => Sys2Proof.Machine.execSoftReset t port priv s
  | .fwCtlNext t port priv v => Sys2Proof.Machine.execFwCtlNext t port priv v s
  | .fwCtlFallback t port priv v => Sys2Proof.Machine.execFwCtlFallback t port priv v s
  | .keySlotErase t port priv mask => Sys2Proof.Machine.execKeySlotErase t port priv mask s
  | .testEnter t port priv => Sys2Proof.Machine.execTestEnter t port priv s
  | .testLeave t port priv => Sys2Proof.Machine.execTestLeave t port priv s
  | .registerWrite t port priv addr w => Sys2Proof.Machine.execRegisterWrite t port priv addr w s
  | .commandAcceptance t tag => Sys2Proof.Machine.execCommandAcceptance t tag s
  | .commandDispatch t tag => Sys2Proof.Machine.execCommandDispatch t tag s
  | .sysIdentify t tag => Sys2Proof.Machine.execSysIdentify t tag s
  | .sysStatus t tag => Sys2Proof.Machine.execSysStatus t tag s
  | .sysApply t tag => Sys2Proof.Machine.execSysApply t tag s
  | .sysResetBlock t tag => Sys2Proof.Machine.execSysResetBlock t tag s
  | .sysFwStage t tag => Sys2Proof.Machine.execSysFwStage t tag s
  | .sysFwCommit t tag sigOk => Sys2Proof.Machine.execSysFwCommit t tag sigOk s
  | .sysAbort t tag => Sys2Proof.Machine.execSysAbort t tag s
  | .timeGet t tag => Sys2Proof.Machine.execTimeGet t tag s
  | .timeSet t tag => Sys2Proof.Machine.execTimeSet t tag s
  | .timeLeap t tag => Sys2Proof.Machine.execTimeLeap t tag s
  | .timeAlignQuery t tag => Sys2Proof.Machine.execTimeAlignQuery t tag s
  | .measConfigCh t tag => Sys2Proof.Machine.execMeasConfigCh t tag s
  | .measArm t tag => Sys2Proof.Machine.execMeasArm t tag s
  | .measRead t tag => Sys2Proof.Machine.execMeasRead t tag s
  | .measInterval t tag => Sys2Proof.Machine.execMeasInterval t tag s
  | .measFreq t tag => Sys2Proof.Machine.execMeasFreq t tag s
  | .measCalStatus t tag => Sys2Proof.Machine.execMeasCalStatus t tag s
  | .refConfig t tag => Sys2Proof.Machine.execRefConfig t tag s
  | .refLimits t tag => Sys2Proof.Machine.execRefLimits t tag s
  | .refStatus t tag => Sys2Proof.Machine.execRefStatus t tag s
  | .refSelect t tag => Sys2Proof.Machine.execRefSelect t tag s
  | .refPriority t tag => Sys2Proof.Machine.execRefPriority t tag s
  | .refWtr t tag => Sys2Proof.Machine.execRefWtr t tag s
  | .loopConfig t tag => Sys2Proof.Machine.execLoopConfig t tag s
  | .loopBwSchedule t tag => Sys2Proof.Machine.execLoopBwSchedule t tag s
  | .loopStatus t tag => Sys2Proof.Machine.execLoopStatus t tag s
  | .loopHoldoverConfig t tag => Sys2Proof.Machine.execLoopHoldoverConfig t tag s
  | .loopForceHoldover t tag => Sys2Proof.Machine.execLoopForceHoldover t tag s
  | .synConfig t tag => Sys2Proof.Machine.execSynConfig t tag s
  | .synRampLoad t tag => Sys2Proof.Machine.execSynRampLoad t tag s
  | .synRampRun t tag => Sys2Proof.Machine.execSynRampRun t tag s
  | .synBandTable t tag => Sys2Proof.Machine.execSynBandTable t tag s
  | .synRootStatus t tag => Sys2Proof.Machine.execSynRootStatus t tag s
  | .outConfig t tag => Sys2Proof.Machine.execOutConfig t tag s
  | .outPulseConfig t tag => Sys2Proof.Machine.execOutPulseConfig t tag s
  | .outRealign t tag => Sys2Proof.Machine.execOutRealign t tag s
  | .outSlew t tag => Sys2Proof.Machine.execOutSlew t tag s
  | .outSyncArm t tag => Sys2Proof.Machine.execOutSyncArm t tag s
  | .outStatus t tag => Sys2Proof.Machine.execOutStatus t tag s
  | .ptpPortConfig t tag => Sys2Proof.Machine.execPtpPortConfig t tag s
  | .ptpProfile t tag => Sys2Proof.Machine.execPtpProfile t tag s
  | .ptpPortStatus t tag => Sys2Proof.Machine.execPtpPortStatus t tag s
  | .ptpClientTable t tag => Sys2Proof.Machine.execPtpClientTable t tag s
  | .ptpSecurity t tag => Sys2Proof.Machine.execPtpSecurity t tag s
  | .ptpFrameTx t tag => Sys2Proof.Machine.execPtpFrameTx t tag s
  | .ptpFrameRx t tag => Sys2Proof.Machine.execPtpFrameRx t tag s
  | .ptpSynceConfig t tag => Sys2Proof.Machine.execPtpSynceConfig t tag s
  | .gnssConfig t tag => Sys2Proof.Machine.execGnssConfig t tag s
  | .gnssStatus t tag => Sys2Proof.Machine.execGnssStatus t tag s
  | .gnssPosition t tag => Sys2Proof.Machine.execGnssPosition t tag s
  | .gnssCableDelay t tag => Sys2Proof.Machine.execGnssCableDelay t tag s
  | .gnssSnapshot t tag => Sys2Proof.Machine.execGnssSnapshot t tag s
  | .gnssSurvey t tag => Sys2Proof.Machine.execGnssSurvey t tag s
  | .pairConfig t tag => Sys2Proof.Machine.execPairConfig t tag s
  | .pairStatus t tag => Sys2Proof.Machine.execPairStatus t tag s
  | .pairHandover t tag => Sys2Proof.Machine.execPairHandover t tag s
  | .fltRead t tag => Sys2Proof.Machine.execFltRead t tag s
  | .fltInject t tag real => Sys2Proof.Machine.execFltInject t tag real s
  | .fltReaction t tag => Sys2Proof.Machine.execFltReaction t tag s
  | .fltClear t tag => Sys2Proof.Machine.execFltClear t tag s
  | .nvsRecordRead t tag => Sys2Proof.Machine.execNvsRecordRead t tag s
  | .nvsRecordWrite t tag => Sys2Proof.Machine.execNvsRecordWrite t tag s
  | .nvsStatus t tag => Sys2Proof.Machine.execNvsStatus t tag s
  | .arcQuery t tag => Sys2Proof.Machine.execArcQuery t tag s
  | .arcLogRead t tag => Sys2Proof.Machine.execArcLogRead t tag s
  | .ageStatus t tag => Sys2Proof.Machine.execAgeStatus t tag s
  | .ageMarginPlan t tag => Sys2Proof.Machine.execAgeMarginPlan t tag s
  | .agePolicy t tag => Sys2Proof.Machine.execAgePolicy t tag s
  | .telSnapshot t tag => Sys2Proof.Machine.execTelSnapshot t tag s
  | .powerOn t i2c slotB wp => Sys2Proof.Machine.execPowerOn t i2c slotB wp s
  | .resetN t ns => Sys2Proof.Machine.execResetN t ns s
  | .brownOut t rail ns fell18 torn => Sys2Proof.Machine.execBrownOut t rail ns fell18 torn s
  | .nvsRecallDone t => Sys2Proof.Machine.execNvsRecallDone t s
  | .firmwareLoaded t a b => Sys2Proof.Machine.execFirmwareLoaded t a b s
  | .processorRestartDone t => Sys2Proof.Machine.execProcessorRestartDone t s
  | .resetAfter t => Sys2Proof.Machine.execResetAfter t s
  | .fwStagedCheck t sigOk => Sys2Proof.Machine.execFwStagedCheck t sigOk s
  | .wpNAssert t pages => Sys2Proof.Machine.execWpNAssert t pages s
  | .wpNDeassert t => Sys2Proof.Machine.execWpNDeassert t s
  | .nvsWriteDone t id ok1 ok2 => Sys2Proof.Machine.execNvsWriteDone t id ok1 ok2 s
  | .metronomeSecond t => Sys2Proof.Machine.execMetronomeSecond t s
  | .leapFlagSet t => Sys2Proof.Machine.execLeapFlagSet t s
  | .leapEvent t => Sys2Proof.Machine.execLeapEvent t s
  | .kettleLoss t => Sys2Proof.Machine.execKettleLoss t s
  | .rootLoss t ringKhz => Sys2Proof.Machine.execRootLoss t ringKhz s
  | .rootRelock t counts ok => Sys2Proof.Machine.execRootRelock t counts ok s
  | .rootRelockRetry t => Sys2Proof.Machine.execRootRelockRetry t s
  | .domainBandFillDone t d table => Sys2Proof.Machine.execDomainBandFillDone t d table s
  | .domainLock t d => Sys2Proof.Machine.execDomainLock t d s
  | .domainRelock t d => Sys2Proof.Machine.execDomainRelock t d s
  | .domainRetuneDone t d => Sys2Proof.Machine.execDomainRetuneDone t d s
  | .bandCheck t d devPpm marginPpm => Sys2Proof.Machine.execBandCheck t d devPpm marginPpm s
  | .outputHoldEnd t out => Sys2Proof.Machine.execOutputHoldEnd t out s
  | .referenceEdge t ch e => Sys2Proof.Machine.execReferenceEdge t ch e s
  | .stampRelease t ch => Sys2Proof.Machine.execStampRelease t ch s
  | .lineSwap t ch p1 p2 => Sys2Proof.Machine.execLineSwap t ch p1 p2 s
  | .binTableComplete t ch line1 hits => Sys2Proof.Machine.execBinTableComplete t ch line1 hits s
  | .periodPairRetry t ch p1 p2 => Sys2Proof.Machine.execPeriodPairRetry t ch p1 p2 s
  | .channelReady t ch dIn p1 p2 q1 q2 => Sys2Proof.Machine.execChannelReady t ch dIn p1 p2 q1 q2 s
  | .comparatorSettled t ch => Sys2Proof.Machine.execComparatorSettled t ch s
  | .videoSyncMissing t ch => Sys2Proof.Machine.execVideoSyncMissing t ch s
  | .captureDurationEnd t ch => Sys2Proof.Machine.execCaptureDurationEnd t ch s
  | .intervalStartTimeout t tag => Sys2Proof.Machine.execIntervalStartTimeout t tag s
  | .intervalWindowClose t tag => Sys2Proof.Machine.execIntervalWindowClose t tag s
  | .freqGateEnd t tag => Sys2Proof.Machine.execFreqGateEnd t tag s
  | .kettleSensor t second => Sys2Proof.Machine.execKettleSensor t second s
  | .kettleWarmSet t => Sys2Proof.Machine.execKettleWarmSet t s
  | .kettleOven t => Sys2Proof.Machine.execKettleOven t s
  | .vddOvenFall t => Sys2Proof.Machine.execVddOvenFall t s
  | .activityLoss t ref => Sys2Proof.Machine.execActivityLoss t ref s
  | .freqWindowEnd t ref => Sys2Proof.Machine.execFreqWindowEnd t ref s
  | .wtrEnd t ref => Sys2Proof.Machine.execWtrEnd t ref s
  | .phaseDiscClear t ref => Sys2Proof.Machine.execPhaseDiscClear t ref s
  | .phaseHistoryDiscard t ref => Sys2Proof.Machine.execPhaseHistoryDiscard t ref s
  | .evaluation t d => Sys2Proof.Machine.execEvaluation t d s
  | .measureEnd t d => Sys2Proof.Machine.execMeasureEnd t d s
  | .handoverEnd t d => Sys2Proof.Machine.execHandoverEnd t d s
  | .settleTimeout t d => Sys2Proof.Machine.execSettleTimeout t d s
  | .steeringEnd t d => Sys2Proof.Machine.execSteeringEnd t d s
  | .pullLimitedTimeout t d => Sys2Proof.Machine.execPullLimitedTimeout t d s
  | .scheduleStepEnd t d => Sys2Proof.Machine.execScheduleStepEnd t d s
  | .rampSegmentEnd t d => Sys2Proof.Machine.execRampSegmentEnd t d s
  | .slewEnd t p => Sys2Proof.Machine.execSlewEnd t p s
  | .syncInEdge t falling waits => Sys2Proof.Machine.execSyncInEdge t falling waits s
  | .syncArmTimeout t => Sys2Proof.Machine.execSyncArmTimeout t s
  | .laneMeasuringEnd t lane tx rx => Sys2Proof.Machine.execLaneMeasuringEnd t lane tx rx s
  | .blockLockGained t lane => Sys2Proof.Machine.execBlockLockGained t lane s
  | .blockLockLost t lane => Sys2Proof.Machine.execBlockLockLost t lane s
  | .rxSync t lane h twoStep origin => Sys2Proof.Machine.execRxSync t lane h twoStep origin s
  | .rxFollowUp t lane h origin => Sys2Proof.Machine.execRxFollowUp t lane h origin s
  | .rxDelayReq t lane h => Sys2Proof.Machine.execRxDelayReq t lane h s
  | .rxDelayResp t lane h t4 reqId reqPort => Sys2Proof.Machine.execRxDelayResp t lane h t4 reqId reqPort s
  | .rxAnnounce t lane h a => Sys2Proof.Machine.execRxAnnounce t lane h a s
  | .rxPdelayReq t lane h => Sys2Proof.Machine.execRxPdelayReq t lane h s
  | .rxPdelayResp t lane h twoStep t2 reqId reqPort => Sys2Proof.Machine.execRxPdelayResp t lane h twoStep t2 reqId reqPort s
  | .rxPdelayRespFollowUp t lane h t3 reqId reqPort => Sys2Proof.Machine.execRxPdelayRespFollowUp t lane h t3 reqId reqPort s
  | .rxRequestUnicast t lane h kind log duration => Sys2Proof.Machine.execRxRequestUnicast t lane h kind log duration s
  | .rxCancelUnicast t lane h kind => Sys2Proof.Machine.execRxCancelUnicast t lane h kind s
  | .rxAcknowledgeCancel t lane h kind => Sys2Proof.Machine.execRxAcknowledgeCancel t lane h kind s
  | .rxManagement t lane h bytes => Sys2Proof.Machine.execRxManagement t lane h bytes s
  | .rxEsmc t lane vlan ql => Sys2Proof.Machine.execRxEsmc t lane vlan ql s
  | .rxArpNdp t lane vlan own answers bytes => Sys2Proof.Machine.execRxArpNdp t lane vlan own answers bytes s
  | .rxIgmpMld t lane vlan group => Sys2Proof.Machine.execRxIgmpMld t lane vlan group s
  | .rxOtherFrame t lane => Sys2Proof.Machine.execRxOtherFrame t lane s
  | .syncTx t lane client => Sys2Proof.Machine.execSyncTx t lane client s
  | .announceTx t lane client => Sys2Proof.Machine.execAnnounceTx t lane client s
  | .delayReqTx t lane => Sys2Proof.Machine.execDelayReqTx t lane s
  | .pdelayReqTx t lane => Sys2Proof.Machine.execPdelayReqTx t lane s
  | .grantExpiry t slot kind => Sys2Proof.Machine.execGrantExpiry t slot kind s
  | .grantRenewal t lane m kind => Sys2Proof.Machine.execGrantRenewal t lane m kind s
  | .grantDenialRetry t lane m kind => Sys2Proof.Machine.execGrantDenialRetry t lane m kind s
  | .announceReceiptTimeout t lane => Sys2Proof.Machine.execAnnounceReceiptTimeout t lane s
  | .timeActivityTimeout t lane => Sys2Proof.Machine.execTimeActivityTimeout t lane s
  | .foreignMasterAgeout t lane id port => Sys2Proof.Machine.execForeignMasterAgeout t lane id port s
  | .esmcTimeout t lane => Sys2Proof.Machine.execEsmcTimeout t lane s
  | .esmcInfoTx t lane => Sys2Proof.Machine.execEsmcInfoTx t lane s
  | .hostFrameSend t lane => Sys2Proof.Machine.execHostFrameSend t lane s
  | .laneDelay t lane tx => Sys2Proof.Machine.execLaneDelay t lane tx s
  | .serdesAdapt t lane margin => Sys2Proof.Machine.execSerdesAdapt t lane margin s
  | .gnssMark t m => Sys2Proof.Machine.execGnssMark t m s
  | .spoofAlarmClear t => Sys2Proof.Machine.execSpoofAlarmClear t s
  | .receiverStartDone t group => Sys2Proof.Machine.execReceiverStartDone t group s
  | .satellitesLost t => Sys2Proof.Machine.execSatellitesLost t s
  | .acquisitionFound t x solved => Sys2Proof.Machine.execAcquisitionFound t x solved s
  | .antOpen t ma => Sys2Proof.Machine.execAntOpen t ma s
  | .antShort t => Sys2Proof.Machine.execAntShort t s
  | .antShortOff t => Sys2Proof.Machine.execAntShortOff t s
  | .antShortRetry t stillShort => Sys2Proof.Machine.execAntShortRetry t stillShort s
  | .antNormal t ma => Sys2Proof.Machine.execAntNormal t ma s
  | .surveyEnd t => Sys2Proof.Machine.execSurveyEnd t s
  | .snapshotCaptureEnd t skew => Sys2Proof.Machine.execSnapshotCaptureEnd t skew s
  | .snapshotProcessEnd t fix => Sys2Proof.Machine.execSnapshotProcessEnd t fix s
  | .gnssFrontEnd t => Sys2Proof.Machine.execGnssFrontEnd t s
  | .heartbeatTx t => Sys2Proof.Machine.execHeartbeatTx t s
  | .heartbeatRx t f => Sys2Proof.Machine.execHeartbeatRx t f s
  | .hbInEdge t => Sys2Proof.Machine.execHbInEdge t s
  | .partnerLoss t => Sys2Proof.Machine.execPartnerLoss t s
  | .pathFault t => Sys2Proof.Machine.execPathFault t s
  | .pathFaultClear t => Sys2Proof.Machine.execPathFaultClear t s
  | .pairContest t => Sys2Proof.Machine.execPairContest t s
  | .ilkInDeassert t => Sys2Proof.Machine.execIlkInDeassert t s
  | .claimSecondSample t => Sys2Proof.Machine.execClaimSecondSample t s
  | .releaseDetect t => Sys2Proof.Machine.execReleaseDetect t s
  | .initWait t => Sys2Proof.Machine.execInitWait t s
  | .pairIlk t => Sys2Proof.Machine.execPairIlk t s
  | .snapshotTx t => Sys2Proof.Machine.execSnapshotTx t s
  | .snapshotChunkRx t seq idx count bytes => Sys2Proof.Machine.execSnapshotChunkRx t seq idx count bytes s
  | .snapshotCommitRx t seq count crc content => Sys2Proof.Machine.execSnapshotCommitRx t seq count crc content s
  | .handoverInstant t => Sys2Proof.Machine.execHandoverInstant t s
  | .hoAcceptTimeout t => Sys2Proof.Machine.execHoAcceptTimeout t s
  | .outputHandoff t out => Sys2Proof.Machine.execOutputHandoff t out s
  | .clapperStuck t => Sys2Proof.Machine.execClapperStuck t s
  | .faultReport t r => Sys2Proof.Machine.execFaultReport t r s
  | .reportPath t source cycles back => Sys2Proof.Machine.execReportPath t source cycles back s
  | .blockResetDone t source => Sys2Proof.Machine.execBlockResetDone t source s
  | .resetShadowEnd t source => Sys2Proof.Machine.execResetShadowEnd t source s
  | .sramScrub t addr e => Sys2Proof.Machine.execSramScrub t addr e s
  | .dramScrub t addr e => Sys2Proof.Machine.execDramScrub t addr e s
  | .rollup t tier => Sys2Proof.Machine.execRollup t tier s
  | .nvsMargin t start weak retention => Sys2Proof.Machine.execNvsMargin t start weak retention s
  | .nvsRefresh t start => Sys2Proof.Machine.execNvsRefresh t start s
  | .wear t => Sys2Proof.Machine.execWear t s
  | .roMeasure t required marginPct load => Sys2Proof.Machine.execRoMeasure t required marginPct load s
  | .vcoreRamp t => Sys2Proof.Machine.execVcoreRamp t s
  | .telemetry t v => Sys2Proof.Machine.execTelemetry t v s
  | .ageUpdate t v => Sys2Proof.Machine.execAgeUpdate t v s
  | .refusedRead t port priv addr ecc => Sys2Proof.Machine.execRefusedRead t port priv addr ecc s
  | .resetNRelease t i2c slotB => Sys2Proof.Machine.execResetNRelease t i2c slotB s
  | .vddOvenReturn t => Sys2Proof.Machine.execVddOvenReturn t s
  | .ilkInAssert t => Sys2Proof.Machine.execIlkInAssert t s
  | .rxGrantUnicast t lane h kind log duration => Sys2Proof.Machine.execRxGrantUnicast t lane h kind log duration s
  | .metadataTlvTx t lane => Sys2Proof.Machine.execMetadataTlvTx t lane s
  | .signalLoss t x => Sys2Proof.Machine.execSignalLoss t x s
  | .activityConditionHeld t ref => Sys2Proof.Machine.execActivityConditionHeld t ref s
  | .partnerLaneMeasured t tx rx => Sys2Proof.Machine.execPartnerLaneMeasured t tx rx s
  | .firmwareSlotWritten t ok1 ok2 => Sys2Proof.Machine.execFirmwareSlotWritten t ok1 ok2 s
  | .taskLate t task => Sys2Proof.Machine.execTaskLate t task s
  | .pulseEdge t p rising => Sys2Proof.Machine.execPulseEdge t p rising s

end Sys2Proof.Machine
end

