-- ==== Sys2Proof/Machine/Step.lean ====
section
/-!
DEFINITION. One step: the command at the front of the queue runs on the state with the queue's rest; on an empty queue
the block idles (log 1).
-/

namespace Sys2Proof.Machine

/-- The state with the queue `l`. -/
def State.queue (s : State) (l : List Instr) : State := { s with pending := l }

/-- One step. -/
def step (s : State) : Host.Outcome State Fault Refusal :=
  match s.pending with
  | [] => .next s
  | c :: l => exec c (s.queue l)

/-- The command a word spells put at the front of the queue; the command table gives no row any bits, so no word spells
one and the state is unchanged (log 4). -/
def State.withFetchWord (s : State) (nbits w : Nat) : State :=
  match Sys2Proof.decodeTableWord nbits w with
  | some c => s.queue (c :: s.pending)
  | none => s

end Sys2Proof.Machine
end

