-- ==== Sys2Proof/Safety.lean ====
section
/-!
DEFINITION. What counts as a safe run, and the invariant of the machine in the terms claims use.
-/

namespace Sys2Proof.Machine

/-- A state from which the next step answers a next state: neither a fault nor a refusal. -/
def Safe (s : State) : Prop := ∃ u, step s = .next u

/-- Every level source of the Chime that holds has its CHIME_STATUS bit set (R78). -/
def State.latched (s : State) : Bool := decide (s.hif.chimeStatus &&& s.chimeRaw = s.chimeRaw)

/-- No change of module state is due (R9, R268, R537, R538). -/
def State.settled (s : State) : Bool := decide (s.nextMode s.sys.mstate = s.sys.mstate)

/-- In FAULT_HOLD no traceability is held; where row 2 of R278 holds, it is (R278). -/
def State.traced (s : State) : Bool :=
  (decide (s.sys.mstate ≠ .faultHold) || !s.loop.traceHeld) && (!s.traceNow || s.loop.traceHeld)

/-- The invariant every step keeps. -/
def State.Inv (s : State) : Prop := s.latched = true ∧ s.settled = true ∧ s.traced = true

/-- The two byte memories of the module are in canonical form (R467, R479). -/
def State.memOk (s : State) : Bool := Mem.wf s.nvs.mem && Mem.wf s.nvs.sram

/-- The outcome is a next state, and it has the property. -/
def Completes (r : Host.Outcome State Fault Refusal) (p : State → Prop) : Prop := ∃ u, r = .next u ∧ p u

/-- The mailbox command a row executes: its instant, its tag and the command; none for a row that is no mailbox
command. -/
def mailboxRow (x : Instr) : Option (Nat × Fin 48 × Cmd) :=
  match x with
  | .sysIdentify t i => some (t, i, .sysIdentify)
  | .sysStatus t i => some (t, i, .sysStatus)
  | .sysApply t i => some (t, i, .sysApply)
  | .sysResetBlock t i => some (t, i, .sysResetBlock)
  | .sysFwStage t i => some (t, i, .sysFwStage)
  | .sysFwCommit t i _ => some (t, i, .sysFwCommit)
  | .sysAbort t i => some (t, i, .sysAbort)
  | .timeGet t i => some (t, i, .timeGet)
  | .timeSet t i => some (t, i, .timeSet)
  | .timeLeap t i => some (t, i, .timeLeap)
  | .timeAlignQuery t i => some (t, i, .timeAlignQuery)
  | .measConfigCh t i => some (t, i, .measConfigCh)
  | .measArm t i => some (t, i, .measArm)
  | .measRead t i => some (t, i, .measRead)
  | .measInterval t i => some (t, i, .measInterval)
  | .measFreq t i => some (t, i, .measFreq)
  | .measCalStatus t i => some (t, i, .measCalStatus)
  | .refConfig t i => some (t, i, .refConfig)
  | .refLimits t i => some (t, i, .refLimits)
  | .refStatus t i => some (t, i, .refStatus)
  | .refSelect t i => some (t, i, .refSelect)
  | .refPriority t i => some (t, i, .refPriority)
  | .refWtr t i => some (t, i, .refWtr)
  | .loopConfig t i => some (t, i, .loopConfig)
  | .loopBwSchedule t i => some (t, i, .loopBwSchedule)
  | .loopStatus t i => some (t, i, .loopStatus)
  | .loopHoldoverConfig t i => some (t, i, .loopHoldoverConfig)
  | .loopForceHoldover t i => some (t, i, .loopForceHoldover)
  | .synConfig t i => some (t, i, .synConfig)
  | .synRampLoad t i => some (t, i, .synRampLoad)
  | .synRampRun t i => some (t, i, .synRampRun)
  | .synBandTable t i => some (t, i, .synBandTable)
  | .synRootStatus t i => some (t, i, .synRootStatus)
  | .outConfig t i => some (t, i, .outConfig)
  | .outPulseConfig t i => some (t, i, .outPulseConfig)
  | .outRealign t i => some (t, i, .outRealign)
  | .outSlew t i => some (t, i, .outSlew)
  | .outSyncArm t i => some (t, i, .outSyncArm)
  | .outStatus t i => some (t, i, .outStatus)
  | .ptpPortConfig t i => some (t, i, .ptpPortConfig)
  | .ptpProfile t i => some (t, i, .ptpProfile)
  | .ptpPortStatus t i => some (t, i, .ptpPortStatus)
  | .ptpClientTable t i => some (t, i, .ptpClientTable)
  | .ptpSecurity t i => some (t, i, .ptpSecurity)
  | .ptpFrameTx t i => some (t, i, .ptpFrameTx)
  | .ptpFrameRx t i => some (t, i, .ptpFrameRx)
  | .ptpSynceConfig t i => some (t, i, .ptpSynceConfig)
  | .gnssConfig t i => some (t, i, .gnssConfig)
  | .gnssStatus t i => some (t, i, .gnssStatus)
  | .gnssPosition t i => some (t, i, .gnssPosition)
  | .gnssCableDelay t i => some (t, i, .gnssCableDelay)
  | .gnssSnapshot t i => some (t, i, .gnssSnapshot)
  | .gnssSurvey t i => some (t, i, .gnssSurvey)
  | .pairConfig t i => some (t, i, .pairConfig)
  | .pairStatus t i => some (t, i, .pairStatus)
  | .pairHandover t i => some (t, i, .pairHandover)
  | .fltRead t i => some (t, i, .fltRead)
  | .fltInject t i _ => some (t, i, .fltInject)
  | .fltReaction t i => some (t, i, .fltReaction)
  | .fltClear t i => some (t, i, .fltClear)
  | .nvsRecordRead t i => some (t, i, .nvsRecordRead)
  | .nvsRecordWrite t i => some (t, i, .nvsRecordWrite)
  | .nvsStatus t i => some (t, i, .nvsStatus)
  | .arcQuery t i => some (t, i, .arcQuery)
  | .arcLogRead t i => some (t, i, .arcLogRead)
  | .ageStatus t i => some (t, i, .ageStatus)
  | .ageMarginPlan t i => some (t, i, .ageMarginPlan)
  | .agePolicy t i => some (t, i, .agePolicy)
  | .telSnapshot t i => some (t, i, .telSnapshot)
  | _ => none

/-- No write of the service port has run at the instant at which a command of instant `t` acts: a write of the SPI port
goes before it within one cycle (R49; log 18). -/
def State.noSvcAt (s : State) (t : Nat) : Bool :=
  match s.mb.svc with
  | some v => decide (v.at_ ≠ (s.advance t).now)
  | none => true

/-- The command `c` under tag `i` is in its immediate part and passes its checks; `st`: it is staged (R92, R94). -/
def State.ready (u : State) (i : Fin 48) (c : Cmd) (st : Bool) : Bool :=
  u.runs i c && (hdrStaged (u.tag i).hdr == st) && (firstFail (c.checks i (u.tag i).priv st (u.tag i).args u)).isNone

/-- As `State.ready`, of a command whose checks at its turn are `checks`: the pieces of an image, a frame and a record are judged
against what is held when their turn comes (R106, R115, R375, R494). -/
def State.readyTurn (u : State) (i : Fin 48) (c : Cmd) (checks : Bool → Args → State → Checks) : Bool :=
  u.runs i c && !hdrStaged (u.tag i).hdr && (firstFail (checks (u.tag i).priv (u.tag i).args u)).isNone

/-- The response of tag `i` is held, unstaged, OK with the data `d` (R98). -/
def State.heldOk (u : State) (i : Fin 48) (d : List Word) : Prop :=
  (u.tag i).st = .held ∧ (u.tag i).status = stOk ∧ (u.tag i).staged = false ∧ (u.tag i).data = d

/-- The response of tag `i` is held with the failure `f` and the STAGED bit given (R98, R102, R103). -/
def State.heldFail (u : State) (i : Fin 48) (f : Fail) (staged : Bool := false) : Prop :=
  (u.tag i).st = .held ∧ (u.tag i).status = f.status ∧ (u.tag i).staged = staged ∧ (u.tag i).data = [f.data]

/-- The command under tag `i` is in its deferred part (R94). -/
def State.inDeferred (u : State) (i : Fin 48) : Prop := (u.tag i).st = .running ∧ (u.tag i).deferred = true

/-- No source is unobserved or in its reset shadow, and every code has its default reaction (R443, R448, R452, R462). -/
def State.quietFaults (s : State) : Bool := s.flt.unobs.isEmpty && s.flt.shadows.isEmpty && s.flt.react.isEmpty

end Sys2Proof.Machine

namespace Sys2Proof

/-- A reset of the module, or a register write, which can make one (R526, R546). -/
def Instr.resets : Instr → Bool
  | .powerOn .. => true | .resetN .. => true | .resetNRelease .. => true | .softReset .. => true | .brownOut .. => true
  | .resetAfter .. => true | .registerWrite .. => true | _ => false

/-- The commands that can write a plain register: a reset, a register write, a write of the service port (R47, R55). -/
def Instr.writesPlain (c : Instr) : Bool := c.resets || (match c with | .shortTransaction .. => true | _ => false)

/-- The commands that can write a byte of the NVS: IND_DATA, the end of a record write, WP_N or a brown-out during one, a
soft reset, which saves WEAR first (R73, R469, R484, R487, R491). -/
def Instr.writesNvs : Instr → Bool
  | .indDataWrite .. => true | .registerWrite .. => true | .nvsWriteDone .. => true | .brownOut .. => true
  | .wpNAssert .. => true | .softReset .. => true | .resetAfter .. => true | _ => false

/-- The commands that can write a byte of the SRAM: IND_DATA and a reset (R73, R479). -/
def Instr.writesSram (c : Instr) : Bool := c.resets || (match c with | .indDataWrite .. => true | _ => false)

/-- The commands that can change a key slot (R82, R371). -/
def Instr.writesKeys : Instr → Bool
  | .ptpSecurity .. => true | .keySlotErase .. => true | .registerWrite .. => true | _ => false

/-- The commands that can change a firmware slot (R541). -/
def Instr.writesSlots : Instr → Bool
  | .sysFwCommit .. => true | .firmwareSlotWritten .. => true | _ => false

/-- The commands that can change a reaction (R462, R463). -/
def Instr.setsReactions (c : Instr) : Bool := c.resets || (match c with | .fltReaction .. => true | _ => false)

/-- The commands that configure: those that can be staged, the strobe that applies them, the boot's profile, a reset (R56,
R97, R534). -/
def Instr.configures (c : Instr) : Bool :=
  c.resets || (match c with | .strobeApply .. => true | .firmwareLoaded .. => true | _ => false) ||
  (match Machine.mailboxRow c with | some r => r.2.2.info.s | none => false)

end Sys2Proof
end

