-- ==== Sys2Proof/Certificates/Slice0/Obligations.lean ====
section
/-!
DEFINITION. The statements for the provers. `Completes r p` says that `r` is a next state with the property `p`; every
state in a conclusion is named `u`, and `s.advance t` is the state at the command's instant (log 1).
-/

open Sys2Proof Sys2Proof.Machine

/-- One step takes the command at the front of the queue and runs it on the state with the queue's rest. The model's
choice (log 1): with no command waiting the block idles. -/
def Obligations.StepRunsTheFrontCommand : Prop :=
  (∀ (c : Instr) (l : List Instr) (s : State), step (s.queue (c :: l)) = exec c (s.queue l)) ∧
  (∀ s : State, s.pending = [] → step s = .next s)

/-- No command's effect touches the queue: what waits behind a command is what waited when it ran. (The queue is the
model's own, log 1.) -/
def Obligations.QueueIsLeftAlone : Prop := ∀ (c : Instr) (s u : State), exec c s = .next u → u.pending = s.pending

/-- Every step keeps the invariant: the level sources of the Chime are latched (R78), no change of module state is due
(R9, R268), and traceability is held as R278 says. -/
def Obligations.StepKeepsTheInvariant : Prop := ∀ s u : State, s.Inv → step s = .next u → u.Inv

/-- Every command completes from every state, and the state it leaves meets the invariant, whatever the state before.
-/
def Obligations.EveryCommandCompletesIntoTheInvariant : Prop :=
  ∀ (c : Instr) (s : State), Completes (exec c s) fun u => u.Inv

/-- The state after reset meets the invariant, its memories are in canonical form, and its queue is empty. -/
def Obligations.ResetMeetsTheInvariant : Prop :=
  State.reset.Inv ∧ State.reset.memOk = true ∧ State.reset.pending = []

/-- POWER_ON, RESET_N and FW_CTL.SOFT_RESET discard every command, response and shadow buffer and free all 48 tags; a
reset of a block touches no tag and no buffer, but for the response of the SYS_RESET_BLOCK that waits for it (R105).
A soft reset saves the page counts in WEAR first, and changes no other byte of the NVS (R491). RESET_N released restarts the boot with the straps as sampled; a brown-out of 2 us on a rail other than VDD_OVEN takes
the module down with cause 4, or 0 when VDD_18 fell too; RESET_AFTER resets 100 ms after the commit with cause 3
(R111, R116, R526, R546). -/
def Obligations.ResetsFreeEveryTag : Prop :=
  (∀ (s : State) (t : Nat) (i2c b wp : Bool),
    Completes (exec (.powerOn t i2c b wp) s) fun u =>
      (∀ i, u.tag i = Tag.init) ∧ u.mb.shadow = [] ∧ u.sys.powered = true ∧ u.sys.i2cAddr = i2c ∧ u.sys.slotB = b ∧ u.sys.wp = wp ∧
      u.sys.mstate = .cold ∧ u.hif.inRecall = true ∧ u.nvs.mem = s.nvs.mem ∧ u.store = s.store) ∧
  (∀ (s : State) (t ns : Nat), 1000 ≤ ns →
    Completes (exec (.resetN t ns) s) fun u =>
      (∀ i, u.tag i = Tag.init) ∧ u.mb.shadow = [] ∧ u.sys.inReset = true ∧ u.sys.mstate = .cold ∧
      (s.sys.powered = true → u.sys.resetCause = 1 ∧ u.kettle.warm = s.kettle.warm) ∧ u.nvs.mem = s.nvs.mem) ∧
  (∀ (s : State) (t : Nat), s.portDead 0 = false → s.hif.inRecall = false →
    Completes (exec (.softReset t 0 true) s) fun u =>
      (∀ i, u.tag i = Tag.init) ∧ u.mb.shadow = [] ∧ u.sys.resetCause = 2 ∧ u.sys.mstate = .cold ∧
      u.kettle.warm = s.kettle.warm ∧ (s.sys.wp = true ∨ s.nvsBarred = true → u.nvs.mem = s.nvs.mem) ∧
      (s.memOk = true → ∀ a, a < 0x14800 ∨ 0x1C800 ≤ a → memGet u.nvs.mem a = memGet s.nvs.mem a) ∧ u.ptp.keys = s.ptp.keys) ∧
  (∀ (s : State) (t : Nat) (i2c b : Bool), s.sys.inReset = true →
    Completes (exec (.resetNRelease t i2c b) s) fun u =>
      u.sys.inReset = false ∧ u.sys.i2cAddr = i2c ∧ u.sys.slotB = b ∧ u.sys.resetCause = s.sys.resetCause ∧ u.hif.inRecall = true ∧
      u.now = 0) ∧
  (∀ (s : State) (t : Nat) (r : Rail) (ns torn : Nat) (f : Bool), 2000 ≤ ns → r ≠ .vddOven → s.sys.powered = true →
    Completes (exec (.brownOut t r ns f torn) s) fun u =>
      u.sys.powered = false ∧ u.sys.resetCause = (if f then 0 else 4) ∧ u.kettle.warm = false ∧ ∀ i, u.tag i = Tag.init) ∧
  (∀ (s : State) (t k : Nat), s.sys.resetDue = some k → k ≤ (s.advance t).now →
    Completes (exec (.resetAfter t) s) fun u => u.sys.resetCause = 3 ∧ u.sys.resetDue = none ∧ ∀ i, u.tag i = Tag.init)

/-- After power-on, RESET_N or FW_CTL.SOFT_RESET every code has its default reaction and GONG_OUTPUTS is RUN (R462).
-/
def Obligations.ResetRestoresReactions : Prop :=
  (∀ (s : State) (t : Nat) (i2c b wp : Bool),
    Completes (exec (.powerOn t i2c b wp) s) fun u => u.flt.disable = false ∧ ∀ k, u.flt.reactOf k = State.reset.flt.reactOf k) ∧
  (∀ (s : State) (t ns : Nat), 1000 ≤ ns →
    Completes (exec (.resetN t ns) s) fun u => u.flt.disable = false ∧ ∀ k, u.flt.reactOf k = State.reset.flt.reactOf k) ∧
  (∀ (s : State) (t : Nat), s.portDead 0 = false → s.hif.inRecall = false →
    Completes (exec (.softReset t 0 true) s) fun u =>
      u.flt.disable = false ∧ ∀ k, u.flt.reactOf k = State.reset.flt.reactOf k)

/-- The pair unit after reset: disabled, INIT_WAIT 1,000 ms, ASYMMETRY 0, PTP_QUIET 0; and an argument word that COUNT
leaves out of a PAIR_CONFIG keeps its fields (R436). -/
def Obligations.PairUnitAfterReset : Prop :=
  (∀ (s : State) (t : Nat) (i2c b wp : Bool),
    Completes (exec (.powerOn t i2c b wp) s) fun u =>
      u.pair.en = false ∧ u.pair.initWait = 1000 ∧ u.pair.asym = 0 ∧ u.pair.quiet = false) ∧
  (∀ (s : State) (t ns : Nat), 1000 ≤ ns →
    Completes (exec (.resetN t ns) s) fun u =>
      u.pair.en = false ∧ u.pair.initWait = 1000 ∧ u.pair.asym = 0 ∧ u.pair.quiet = false) ∧
  (∀ (s : State) (t : Nat), s.portDead 0 = false → s.hif.inRecall = false →
    Completes (exec (.softReset t 0 true) s) fun u =>
      u.pair.en = false ∧ u.pair.initWait = 1000 ∧ u.pair.asym = 0 ∧ u.pair.quiet = false) ∧
  (∀ (s : State) (t : Nat) (i : Fin 48), (s.advance t).ready i .pairConfig false = true →
    Completes (exec (.pairConfig t i) s) fun u =>
      (((s.tag i).args.length ≤ 1 → u.pair.initWait = s.pair.initWait) ∧ ((s.tag i).args.length ≤ 3 → u.pair.asym = s.pair.asym)) ∧
      u.pair.quiet = ab (s.tag i).args 0 30)

/-- The boot: the recall ends and the registers open; an image that passes runs and FW_READY sets, else the loader
runs; a restarted processor sets FW_READY again (R450, R527, R531, R532). Firmware: a staged image that passes its
check sets STAGED; a slot read back well holds the staged image and answers the commit, one that does not read back
holds none (R540, R541). -/
def Obligations.BootAndFirmwareStore : Prop :=
  (∀ (s : State) (t : Nat), s.hif.inRecall = true → s.sys.inReset = false → s.sys.powered = true →
      (s.advance t).past 0 (14 * msU) = true →
    Completes (exec (.nvsRecallDone t) s) fun u =>
      u.hif.inRecall = false ∧ u.nvs.recallDone = true ∧ u.sys.booted = true ∧ u.nvs.mem = s.nvs.mem) ∧
  (∀ (s : State) (t : Nat) (okA okB : ImgIn), s.sys.booted = true → s.hif.fwReady = false → s.sys.restartFrom = none →
      s.sys.inReset = false → s.sys.powered = true → s.slotOk (if s.sys.nextB then okB else okA) s.sys.nextB = true →
    Completes (exec (.firmwareLoaded t okA okB) s) fun u => u.hif.fwReady = true) ∧
  (∀ (s : State) (t : Nat) (okA okB : ImgIn), s.sys.booted = true → s.hif.fwReady = false → s.sys.restartFrom = none →
      s.sys.inReset = false → s.sys.powered = true → s.slotOk okA false = false → s.slotOk okB true = false →
    Completes (exec (.firmwareLoaded t okA okB) s) fun u =>
      u.hif.fwReady = true ∧ u.sys.loader = true ∧ u.sys.mstate = .cold ∧ u.sys.activeB = s.sys.nextB) ∧
  (∀ (s : State) (t k : Nat), s.sys.restartFrom = some k →
    Completes (exec (.processorRestartDone t) s) fun u => u.hif.fwReady = true ∧ u.sys.restartFrom = none) ∧
  (∀ (s : State) (t : Nat) (b : Bool), s.hif.fwReady = true → imageOk b s.sys.staging = true →
    Completes (exec (.fwStagedCheck t b) s) fun u => u.sys.staged = true ∧ u.sys.slots = s.sys.slots) ∧
  (∀ (s : State) (t : Nat) (b : Bool) (i : Fin 48), s.sys.commitTag = some i → imageLenOk s.sys.staging = true →
      (s.advance t).past (s.tag i).busy (30 * secU) = false →
    Completes (exec (.firmwareSlotWritten t true b) s) fun u =>
      u.slot s.commitSlot = { shipped := false, words := s.sys.staging } ∧ u.sys.commitTag = none ∧ (u.tag i).st = .held ∧
      (u.tag i).status = stOk ∧ (u.tag i).data.length = 3 ∧ u.slot (!s.commitSlot) = s.slot (!s.commitSlot)) ∧
  (∀ (s : State) (t : Nat) (i : Fin 48), s.sys.commitTag = some i → s.sys.loader = true →
      (s.advance t).past (s.tag i).busy (30 * secU) = false →
    Completes (exec (.firmwareSlotWritten t false false) s) fun u =>
      u.slot s.commitSlot = { shipped := false, words := [] } ∧ u.heldFail i (wrongState 0x0014) (s.tag i).acceptedStaged ∧ u.sys.nextB = s.sys.nextB)

/-- A word of a status frame delivers HIF_STATUS as it is at that word, during the recall too, drives SDO and touches no
other register (R42, R45). Both selects asserted: CS_CONFLICT sets, SDO is released, and the words already committed
stand (R39). A frame that ends in its header sets SHORT and touches nothing else; one that ends in a write word sets
SHORT and has set its address; one that ends in a read word or in the dummy byte has set its address and sets nothing
(R44). A service-port transaction to another device address does nothing; one that ends after one byte, or inside its
first word, sets SHORT; one that ends on its two address bytes sets the word address and no error (R46 to R48). -/
def Obligations.FramesAndTransfers : Prop :=
  (∀ (s : State) (t : Nat) (priv : Bool), s.portDead 0 = false →
    Completes (exec (.spiStatusFrame t priv) s) fun u =>
      u.port 0 = { s.port 0 with out := [(s.advance t).hifStatus priv], sdoAt := some (s.advance t).now } ∧
      u.port 1 = s.port 1 ∧ u.mb = s.mb ∧ u.hif.err = s.hif.err ∧ u.hif.ind = s.hif.ind) ∧
  (∀ (s : State) (t : Nat), s.portDead 0 = false →
    Completes (exec (.csConflict t) s) fun u =>
      u.hif.err = s.hif.err ||| 0x10 ∧ u.port 0 = { s.port 0 with sdoAt := none } ∧ u.port 1 = s.port 1 ∧ u.mb = s.mb ∧
      u.hif.ind = s.hif.ind ∧ u.hif.scratch = s.hif.scratch ∧ u.hif.pend = s.hif.pend ∧ u.nvs = s.nvs) ∧
  (∀ (s : State) (t : Nat) (a : Option (BitVec 16)), s.portDead 0 = false →
    Completes (exec (.shortFrame t .header a) s) fun u => u.hif.err = s.hif.err ||| 0x02 ∧ u.hif.ports = s.hif.ports ∧ u.mb = s.mb) ∧
  (∀ (s : State) (t : Nat) (a : BitVec 16), s.portDead 0 = false →
    Completes (exec (.shortFrame t .writeWord (some a)) s) fun u =>
      u.hif.err = s.hif.err ||| 0x02 ∧ (u.port 0).addr = a ∧ u.port 1 = s.port 1 ∧ u.mb = s.mb) ∧
  (∀ (s : State) (t : Nat) (p : ShortPlace) (a : BitVec 16), p = .readWord ∨ p = .dummy → s.portDead 0 = false →
    Completes (exec (.shortFrame t p (some a)) s) fun u =>
      u.hif.err = s.hif.err ∧ (u.port 0).addr = a ∧ u.port 1 = s.port 1 ∧ u.mb = s.mb) ∧
  (∀ (s : State) (t : Nat) (dev : BitVec 7) (bytes : List (BitVec 8)) (n : Nat), dev ≠ s.svcDev →
    Completes (exec (.shortTransaction t dev bytes n) s) fun u =>
      u.hif.err = s.hif.err ∧ u.hif.ports = s.hif.ports ∧ u.mb = s.mb) ∧
  (∀ (s : State) (t : Nat) (b : BitVec 8), s.portDead 1 = false →
    Completes (exec (.shortTransaction t s.svcDev [b] 0) s) fun u =>
      u.hif.err = s.hif.err ||| 0x02 ∧ u.hif.ports = s.hif.ports ∧ u.mb = s.mb) ∧
  (∀ (s : State) (t : Nat) (h l : BitVec 8) (data : List (BitVec 8)), s.portDead 1 = false → data.length < 4 → data ≠ [] →
    Completes (exec (.shortTransaction t s.svcDev (h :: l :: data) 0) s) fun u =>
      u.hif.err = s.hif.err ||| 0x02 ∧ (u.port 1).addr = h ++ l ∧ u.port 0 = s.port 0 ∧ u.mb = s.mb) ∧
  (∀ (s : State) (t : Nat) (h l : BitVec 8), s.portDead 1 = false →
    Completes (exec (.shortTransaction t s.svcDev [h, l] 0) s) fun u =>
      u.hif.err = s.hif.err ∧ (u.port 1).addr = h ++ l ∧ u.port 0 = s.port 0 ∧ u.mb = s.mb)

/-- A frame whose opcode is not one of 0x02, 0x0B and 0x05 sets BAD_OP, drives nothing and does nothing else (R43). -/
def Obligations.BadOpcodeFrameIsIgnored : Prop :=
  ∀ (s : State) (t : Nat) (op : BitVec 8), op ≠ 0x02 → op ≠ 0x0B → op ≠ 0x05 → s.portDead 0 = false →
    Completes (exec (.badOp t op) s) fun u =>
      u.hif.err = s.hif.err ||| 0x08 ∧ u.port 0 = { s.port 0 with sdoAt := none } ∧ u.port 1 = s.port 1 ∧ u.mb = s.mb ∧
      u.hif.ind = s.hif.ind ∧ u.hif.scratch = s.hif.scratch ∧ u.hif.pend = s.hif.pend ∧ u.nvs = s.nvs

/-- The window: the first word of a frame starts it afresh, further words follow, and a word beyond 65 is dropped and
sets OVERRUN (R54, R62). With no service-port write in the same cycle before an SPI one, a post of a FREE tag takes the
window, the port and the privilege of the posting frame and makes the tag POSTED; a post of a tag in use changes nothing
of it but its collision count, and empties the window; a tag of 48 to 63 is ignored (R49, R63, R86, R89, R91). -/
def Obligations.PostTakesTheWindow : Prop :=
  (∀ (s : State) (t : Nat) (p : Fin 2) (w : Word), s.portDead p = false → s.hif.inRecall = false →
    Completes (exec (.mbCmdWindow t p true w) s) fun u => (u.port p).win = [w] ∧ u.mb.tags = s.mb.tags ∧ u.hif.err = s.hif.err) ∧
  (∀ (s : State) (t : Nat) (p : Fin 2) (w : Word), s.portDead p = false → s.hif.inRecall = false → (s.port p).win.length < 65 →
    Completes (exec (.mbCmdWindow t p false w) s) fun u =>
      (u.port p).win = (s.port p).win ++ [w] ∧ u.mb.tags = s.mb.tags ∧ u.hif.err = s.hif.err) ∧
  (∀ (s : State) (t : Nat) (p : Fin 2) (w : Word), s.portDead p = false → s.hif.inRecall = false → 65 ≤ (s.port p).win.length →
    Completes (exec (.mbCmdWindow t p false w) s) fun u =>
      (u.port p).win = (s.port p).win ∧ u.mb.tags = s.mb.tags ∧ u.hif.err = s.hif.err ||| 0x40) ∧
  (∀ (s : State) (t : Nat) (p : Fin 2) (priv : Bool) (w : Word) (i : Fin 48), s.portDead p = false → s.hif.inRecall = false →
      (p = 0 → s.noSvcAt t = true) → s.hif.fwReady = true → wordTag w = some i → (s.tag i).st = .free →
    Completes (exec (.mbPost t p priv w) s) fun u =>
      u.tag i = { Tag.init with st := .posted, port := p, win := (s.port p).win, priv := priv && decide (p = 0), order := s.mb.nextOrder } ∧
      (u.port p).win = [] ∧ ∀ k, k ≠ i → u.tag k = s.tag k) ∧
  (∀ (s : State) (t : Nat) (p : Fin 2) (priv : Bool) (w : Word) (i : Fin 48), s.portDead p = false → s.hif.inRecall = false →
      (p = 0 → s.noSvcAt t = true) → s.hif.fwReady = true → wordTag w = some i → (s.tag i).st ≠ .free →
    Completes (exec (.mbPost t p priv w) s) fun u =>
      u.tag i = { s.tag i with collided := satU 8 ((s.tag i).collided + 1) } ∧ (u.port p).win = [] ∧ ∀ k, k ≠ i → u.tag k = s.tag k) ∧
  (∀ (s : State) (t : Nat) (p : Fin 2) (priv : Bool) (w : Word), s.portDead p = false → s.hif.inRecall = false →
      (p = 0 → s.noSvcAt t = true) → s.hif.fwReady = true → wordTag w = none →
    Completes (exec (.mbPost t p priv w) s) fun u => u.mb.tags = s.mb.tags ∧ (u.port p).win = (s.port p).win)

/-- MB_RESP_TAG selects the tag and returns the data pointer; MB_RESP_HDR of a held response delivers the header of the
tag as it was at the start of the cycle, counts in READS and returns the pointer; MB_RESP_DATA delivers the next word
and moves the pointer on (R62, R90, R98, R100). While the selected tag holds no response, now and at the start of the
cycle, the header reads VALID 0, NOT_READY, the tag and zero; the data reads zero while it holds none; no tag changes
(R99). With no service-port write in the same cycle before an SPI one, an acknowledgement of a held response frees the
tag and sets CHIME_STATUS bit 17; with posts that collided it holds TAG_IN_USE with their count instead (R49, R86,
R89). -/
def Obligations.ResponsesAreReadAndAcknowledged : Prop :=
  (∀ (s : State) (t : Nat) (p : Fin 2) (w : Word) (i : Fin 48), s.portDead p = false → s.hif.inRecall = false → wordTag w = some i →
    Completes (exec (.mbRespTag t p w) s) fun u =>
      (u.port p).respTag.val = i.val ∧ (u.port p).dataPtr = 0 ∧ u.mb.tags = s.mb.tags) ∧
  (∀ (s : State) (t : Nat) (p : Fin 2) (i : Fin 48), s.portDead p = false → s.hif.inRecall = false → s.selTag p = some i →
      (s.tag i).st = .held →
    Completes (exec (.mbRespHdr t p) s) fun u =>
      (u.port p).out = [((s.advance t).tagBefore i).respHdr i] ∧ (u.port p).dataPtr = 0 ∧ u.tag i = { s.tag i with reads := satU 8 ((s.tag i).reads + 1) } ∧
      ∀ k, k ≠ i → u.tag k = s.tag k) ∧
  (∀ (s : State) (t : Nat) (p : Fin 2) (i : Fin 48), s.portDead p = false → s.hif.inRecall = false → s.selTag p = some i →
      (s.tag i).st = .held →
    Completes (exec (.mbRespData t p) s) fun u =>
      (u.port p).out = [(s.tag i).data.getD (s.port p).dataPtr 0] ∧ (u.port p).dataPtr = (s.port p).dataPtr + 1 ∧ u.mb.tags = s.mb.tags) ∧
  (∀ (s : State) (t : Nat) (p : Fin 2) (i : Fin 48), s.portDead p = false → s.hif.inRecall = false → s.selTag p = some i →
      (s.tag i).st ≠ .held → ((s.advance t).tagBefore i).st ≠ .held →
    Completes (exec (.mbRespHdr t p) s) fun u =>
      (u.port p).out = [wd (0x0B * 2 ^ 24 + i.val * 2 ^ 10)] ∧ u.mb.tags = s.mb.tags ∧ u.hif.err = s.hif.err) ∧
  (∀ (s : State) (t : Nat) (p : Fin 2) (i : Fin 48), s.portDead p = false → s.hif.inRecall = false → s.selTag p = some i →
      (s.tag i).st ≠ .held →
    Completes (exec (.mbRespData t p) s) fun u =>
      (u.port p).out = [0] ∧ (u.port p).dataPtr = (s.port p).dataPtr ∧ u.mb.tags = s.mb.tags ∧ u.hif.err = s.hif.err) ∧
  (∀ (s : State) (t : Nat) (p : Fin 2) (w : Word) (i : Fin 48), s.portDead p = false → s.hif.inRecall = false → wordTag w = some i →
      (p = 0 → s.noSvcAt t = true) → (s.tag i).st = .held → (s.tag i).collided = 0 →
    Completes (exec (.mbRespAck t p w) s) fun u =>
      u.tag i = Tag.init ∧ u.hif.chimeStatus.getLsbD 17 = true ∧ ∀ k, k ≠ i → u.tag k = s.tag k) ∧
  (∀ (s : State) (t : Nat) (p : Fin 2) (w : Word) (i : Fin 48), s.portDead p = false → s.hif.inRecall = false → wordTag w = some i →
      (p = 0 → s.noSvcAt t = true) → (s.tag i).st = .held → (s.tag i).collided ≠ 0 →
    Completes (exec (.mbRespAck t p w) s) fun u =>
      (u.tag i).st = .held ∧ (u.tag i).status = stTagInUse ∧ (u.tag i).data = [wd (s.tag i).collided] ∧ (u.tag i).collided = 0 ∧
      ∀ k, k ≠ i → u.tag k = s.tag k)

/-- An acknowledgement of a tag that holds no response changes no tag, no buffered word and no work in flight: the
measurements, the receiver's and the pair's, the records, the strobe requests, the commit and the block resets (R101). -/
def Obligations.AcknowledgementNeverAborts : Prop :=
  ∀ (s : State) (t : Nat) (p : Fin 2) (w : Word) (i : Fin 48), s.portDead p = false → s.hif.inRecall = false → wordTag w = some i →
    (p = 0 → s.noSvcAt t = true) → (s.tag i).st ≠ .held →
    Completes (exec (.mbRespAck t p w) s) fun u =>
      u.mb.tags = s.mb.tags ∧ u.mb.shadow = s.mb.shadow ∧ u.meas = s.meas ∧ u.gnss = s.gnss ∧ u.pair = s.pair ∧ u.nvs = s.nvs ∧ u.hif.pend = s.hif.pend ∧
      u.hif.queued = s.hif.queued ∧ u.sys.commitTag = s.sys.commitTag ∧ u.sys.resetBlocks = s.sys.resetBlocks

/-- WV_SEL captures at one edge; when the capture is done the four words, the first most significant, are the value
right-aligned in 128 bits, signed values sign-extended and counters zero-extended (R66); under CLEAR the counter is
then empty (R67). -/
def Obligations.WideValueCapture : Prop :=
  (∀ (s : State) (t : Nat) (p : Fin 2) (w : Word), s.portDead p = false → s.hif.inRecall = false →
    Completes (exec (.wvSel t p w) s) fun u =>
      (u.port p).wvBusy = true ∧ (u.port p).wvValid = false ∧ (u.port p).wvData = (s.port p).wvData ∧
      (fld w 27 24 = 2 → counterOk (fld w 23 0) = true →
        (∃ n, (u.port p).capData =
          BitVec.ofNat 128 (if fecItem (fld w 23 0) || decide (fld w 23 0 = 0x0902) then min ctrMax (s.ctr (fld w 23 0) + n) else s.ctr (fld w 23 0))) ∧
        (wbit w 31 = true → (s.advance t).settled = true →
          u.ctr (fld w 23 0) = 0 ∧ ∀ m, m ≠ fld w 23 0 → u.ctr m = s.ctr m)) ∧
      (∀ d : Fin 8, fld w 27 24 = 3 → fld w 23 0 = 4 * d.val →
        (u.port p).capData = BitVec.ofInt 128 (sat64 ((s.advance t).dpll d).err))) ∧
  (∀ (s : State) (t : Nat) (p : Fin 2), (s.port p).wvBusy = true →
    Completes (exec (.wvCaptureDone t p) s) fun u =>
      (u.port p).wvValid = true ∧ (u.port p).wvBusy = false ∧
      (u.port p).wvWord 0 ++ (u.port p).wvWord 1 ++ (u.port p).wvWord 2 ++ (u.port p).wvWord 3 = (s.port p).capData)

/-- UPD_STROBE.GO makes a request of UPD_ARM as it stands, pending, else queued; a third sets OVERFLOW and is ignored
(R58, R60). A strobe of groups with nothing buffered applies: the request is gone, the queued one becomes pending,
APPLY_COUNT counts, APPLIED sets, the Chime source of a strobe fires, and a SYS_APPLY is answered (R59 to R61, R113).
One buffered LOOP_HOLDOVER_CONFIG of an armed group takes effect at it (R56, R97, R293). -/
def Obligations.UpdateStrobe : Prop :=
  (∀ (s : State) (t : Nat) (p : Fin 2) (w : Word), s.portDead p = false → s.hif.inRecall = false → wbit w 0 = true →
      s.hif.pend = none →
    Completes (exec (.updStrobeGo t p w) s) fun u =>
      ∃ r, u.hif.pend = some r ∧ r.groups = s.hif.armGroups ∧ r.atSecond = s.hif.armSecond ∧ r.tag = none ∧ u.hif.queued = s.hif.queued) ∧
  (∀ (s : State) (t : Nat) (p : Fin 2) (w : Word), s.portDead p = false → s.hif.inRecall = false → wbit w 0 = true →
      s.hif.pend.isSome = true → s.hif.queued = none →
    Completes (exec (.updStrobeGo t p w) s) fun u =>
      ∃ r, u.hif.queued = some r ∧ r.groups = s.hif.armGroups ∧ r.atSecond = s.hif.armSecond ∧ u.hif.pend = s.hif.pend) ∧
  (∀ (s : State) (t : Nat) (p : Fin 2) (w : Word), s.portDead p = false → s.hif.inRecall = false → wbit w 0 = true →
      s.hif.pend.isSome = true → s.hif.queued.isSome = true →
    Completes (exec (.updStrobeGo t p w) s) fun u =>
      u.hif.overflow = true ∧ u.hif.pend = s.hif.pend ∧ u.hif.queued = s.hif.queued) ∧
  (∀ (s : State) (t : Nat) (r : StrobeReq), s.hif.pend = some r → r.due (s.advance t).msec = true →
      s.mb.shadow.filter (Staged.armed r.groups) = [] →
    Completes (exec (.strobeApply t) s) fun u =>
      u.hif.pend = s.hif.queued.map (StrobeReq.next (s.advance t).msec) ∧ u.hif.queued = none ∧
      u.hif.applyCount = s.hif.applyCount + 1 ∧ u.hif.applied = true ∧ u.hif.chimeStatus.getLsbD 1 = true ∧
      (s.sys.loader = false → u.out.released = true) ∧ u.mb.shadow = s.mb.shadow ∧
      ∀ i, r.tag = some i → (u.tag i).st = .held ∧ (u.tag i).status = stOk ∧ (u.tag i).data.length = 4) ∧
  (∀ (s : State) (t : Nat) (r : StrobeReq) (a : Args), s.hif.pend = some r → r.due (s.advance t).msec = true →
      s.mb.shadow.filter (Staged.armed r.groups) = [{ cmd := .loopHoldoverConfig, args := a }] → 4 ≤ a.length →
    Completes (exec (.strobeApply t) s) fun u =>
      (u.dpll (argDpll a)).window = af a 1 31 0 ∧ (u.dpll (argDpll a)).guard = af a 2 31 0 ∧
      (u.dpll (argDpll a)).budget = af a 3 31 0 ∧ u.hif.applyCount = s.hif.applyCount + 1) ∧
  (∀ (s : State) (t : Nat), s.hif.pend = none → exec (.strobeApply t) s = .next (s.advance t).commit)

/-- IND_CTLn and IND_ADDRn take their fields and discard the prefetched word, with no service-port write in the same
cycle before an SPI one; the NVS space prefetches the four bytes of the address, most significant first; a read of
IND_DATAn delivers the prefetched word, discards it and advances the address by STRIDE, in a space other than the SRAM
(R49, R70 to R74). -/
def Obligations.IndirectReads : Prop :=
  (∀ (s : State) (t : Nat) (p : Fin 2) (n : Fin 4) (w : Word), s.portDead p = false → s.hif.inRecall = false →
      (p = 0 → s.noSvcAt t = true) →
    Completes (exec (.indAddressWrite t p n true w) s) fun u =>
      (u.ind n).space = w.extractLsb' 0 2 ∧ (u.ind n).stride = w.extractLsb' 8 8 ∧ (u.ind n).pre = none ∧
      (u.ind n).addr = (s.ind n).addr ∧ ∀ k, k ≠ n → u.ind k = s.ind k) ∧
  (∀ (s : State) (t : Nat) (p : Fin 2) (n : Fin 4) (w : Word), s.portDead p = false → s.hif.inRecall = false →
      (p = 0 → s.noSvcAt t = true) →
    Completes (exec (.indAddressWrite t p n false w) s) fun u =>
      (u.ind n).addr = w.extractLsb' 0 24 ∧ (u.ind n).pre = none ∧ (u.ind n).stride = (s.ind n).stride ∧
      ∀ k, k ≠ n → u.ind k = s.ind k) ∧
  (∀ (s : State) (t : Nat) (n : Fin 4), (s.ind n).pre = none → (s.ind n).space = 1 → (s.ind n).addr.toNat < 0x20000 →
    Completes (exec (.indPrefetch t n .clean) s) fun u =>
      (u.ind n).pre = some (memGet s.nvs.mem (4 * (s.ind n).addr.toNat) ++ memGet s.nvs.mem (4 * (s.ind n).addr.toNat + 1) ++
        memGet s.nvs.mem (4 * (s.ind n).addr.toNat + 2) ++ memGet s.nvs.mem (4 * (s.ind n).addr.toNat + 3)) ∧
      (u.ind n).addr = (s.ind n).addr ∧ u.nvs = s.nvs) ∧
  (∀ (s : State) (t : Nat) (p : Fin 2) (priv : Bool) (n : Fin 4) (w : Word) (e : EccIn), s.portDead p = false →
      s.hif.inRecall = false → (s.ind n).pre = some w → (s.ind n).space ≠ 2 →
    Completes (exec (.indDataRead t p priv n e) s) fun u =>
      (u.port p).out = [w] ∧ (u.ind n).addr = (s.ind n).addr + (s.ind n).stride.setWidth 24 ∧ (u.ind n).pre = none ∧
      u.nvs = s.nvs ∧ u.mb = s.mb)

/-- With no service-port write in the same cycle before an SPI one: a raw NVS write with RAW_WR_EN set and WP_N
deasserted stores the four bytes of the word at 4a, and every other byte of the NVS and every byte of the SRAM reads as
before; a privileged write of the SRAM space likewise; a write of the archive space stores nothing and sets RO_WRITE; an
unprivileged one of another space stores nothing and sets PRIV and DENIED (R37, R49, R70, R71, R73,
R491). -/
def Obligations.IndirectWrites : Prop :=
  (∀ (s : State) (t : Nat) (n : Fin 4) (w : Word), s.portDead 0 = false → s.hif.inRecall = false → (s.ind n).space = 1 →
      (s.ind n).addr.toNat < 0x20000 → s.hif.rawWrEn = true → s.sys.wp = false → s.nvsBarred = false → s.memOk = true → s.noSvcAt t = true →
    Completes (exec (.indDataWrite t 0 true n w) s) fun u =>
      memWord u.nvs.mem (s.ind n).addr.toNat = w ∧ u.nvs.sram = s.nvs.sram ∧
      (∀ a, a < 4 * (s.ind n).addr.toNat ∨ 4 * (s.ind n).addr.toNat + 4 ≤ a → memGet u.nvs.mem a = memGet s.nvs.mem a) ∧
      (u.ind n).addr = (s.ind n).addr + (s.ind n).stride.setWidth 24) ∧
  (∀ (s : State) (t : Nat) (n : Fin 4) (w : Word), s.portDead 0 = false → s.hif.inRecall = false → (s.ind n).space = 2 →
      (s.ind n).addr.toNat < 0x40000 → s.memOk = true → s.noSvcAt t = true →
    Completes (exec (.indDataWrite t 0 true n w) s) fun u =>
      memWord u.nvs.sram (s.ind n).addr.toNat = w ∧ u.nvs.mem = s.nvs.mem ∧
      (∀ a, a < 4 * (s.ind n).addr.toNat ∨ 4 * (s.ind n).addr.toNat + 4 ≤ a → memGet u.nvs.sram a = memGet s.nvs.sram a)) ∧
  (∀ (s : State) (t : Nat) (p : Fin 2) (priv : Bool) (n : Fin 4) (w : Word), s.portDead p = false → s.hif.inRecall = false →
      (s.ind n).space = 0 → (p = 0 → s.noSvcAt t = true) →
    Completes (exec (.indDataWrite t p priv n w) s) fun u =>
      (u.ind n).roWrite = true ∧ u.nvs = s.nvs ∧ u.arc.entries = s.arc.entries) ∧
  (∀ (s : State) (t : Nat) (p : Fin 2) (n : Fin 4) (w : Word), s.portDead p = false → s.hif.inRecall = false → (s.ind n).space ≠ 0 →
      (p = 0 → s.noSvcAt t = true) →
    Completes (exec (.indDataWrite t p false n w) s) fun u =>
      (u.ind n).denied = true ∧ u.hif.err = s.hif.err ||| 0x01 ∧ u.nvs = s.nvs)

/-- The two memories stay in canonical form over the commands that write them: a raw write, the end of a record write, WP_N
or a brown-out during one, a soft reset. -/
def Obligations.MemoryStaysCanonical : Prop :=
  (∀ (s u : State) (t : Nat) (p : Fin 2) (priv : Bool) (n : Fin 4) (w : Word), s.memOk = true →
    exec (.indDataWrite t p priv n w) s = .next u → u.memOk = true) ∧
  (∀ (s u : State) (t k : Nat), s.memOk = true → exec (.wpNAssert t k) s = .next u → u.memOk = true) ∧
  (∀ (s u : State) (t : Nat) (p : Fin 2) (priv : Bool), s.memOk = true → exec (.softReset t p priv) s = .next u → u.memOk = true) ∧
  (∀ (s u : State) (t id : Nat) (ok1 ok2 : Bool), s.memOk = true → exec (.nvsWriteDone t id ok1 ok2) s = .next u → u.memOk = true) ∧
  (∀ (s u : State) (t : Nat) (r : Rail) (ns torn : Nat) (f : Bool), s.memOk = true →
    exec (.brownOut t r ns f torn) s = .next u → u.memOk = true)

/-- Only a write through an indirect pair, the end of a record write, WP_N or a brown-out during one and a soft reset
change a byte of the NVS; only the first and a reset of the module change the SRAM: after every other command each memory is what it was
(R70, R73, R467, R469, R479, R484). -/
def Obligations.ByteMemoriesHaveTheirWriters : Prop :=
  ∀ (c : Instr) (s u : State), exec c s = .next u →
    (c.writesNvs = false → u.nvs.mem = s.nvs.mem) ∧ (c.writesSram = false → u.nvs.sram = s.nvs.sram)

/-- Whole-machine frames: the key slots change only by PTP_SECURITY and by an erase through KEY_CTL, the firmware
slots only by SYS_FW_COMMIT and the end of its write, the reactions only by FLT_REACTION and a reset, and HIF_SCRATCH
and CHIME_ENABLE only by a register write, on either port, and a reset (R55, R79, R82, R371, R462, R463, R541). -/
def Obligations.SettingsHaveTheirWriters : Prop :=
  ∀ (c : Instr) (s u : State), exec c s = .next u →
    (c.writesKeys = false → u.ptp.keys = s.ptp.keys) ∧ (c.writesSlots = false → u.sys.slots = s.sys.slots) ∧
    (c.setsReactions = false → u.flt.react = s.flt.react) ∧
    (c.writesPlain = false → u.hif.scratch = s.hif.scratch ∧ u.hif.chimeEnable = s.hif.chimeEnable)

/-- Whole-machine frame: what a host configures of a measurement channel, a CKOUT output, the PTP engine, the receiver
and the pair unit changes only by a command that can be staged, an applied strobe, the profile that the boot loads,
and a reset; no event, status or other command touches it (R56, R97, R166, R333, R369, R401, R433). -/
def Obligations.ConfigurationHasItsWriters : Prop :=
  ∀ (c : Instr) (s u : State), exec c s = .next u → c.configures = false →
    (∀ k, (u.chan k).enable = (s.chan k).enable ∧ (u.chan k).mode = (s.chan k).mode ∧ (u.chan k).div = (s.chan k).div) ∧
    (∀ k, (u.ck k).enable = (s.ck k).enable ∧ (u.ck k).domain = (s.ck k).domain ∧ (u.ck k).div = (s.ck k).div ∧
      (u.ck k).phaseAdj = (s.ck k).phaseAdj) ∧
    (u.ptp.en = s.ptp.en ∧ u.ptp.profile = s.ptp.profile ∧ u.ptp.prio1 = s.ptp.prio1 ∧ u.ptp.prio2 = s.ptp.prio2 ∧
      u.ptp.clockId = s.ptp.clockId ∧ u.ptp.domain = s.ptp.domain) ∧
    (u.gnss.en = s.gnss.en ∧ u.gnss.const = s.gnss.const ∧ u.gnss.delay = s.gnss.delay ∧ u.gnss.bandDiff = s.gnss.bandDiff ∧
      u.gnss.clearTime = s.gnss.clearTime) ∧
    (u.pair.en = s.pair.en ∧ u.pair.initWait = s.pair.initWait ∧ u.pair.asym = s.pair.asym ∧ u.pair.quiet = s.pair.quiet)

/-- A privileged write to a guarded register acts: FW_CTL.NEXT and FALLBACK, the erasing of key slots, entering TEST
and leaving it for ACQUIRE (R9, R82, R83). An unprivileged write to a guarded register is ignored and sets PRIV;
during the recall a write is refused and sets REFUSED (R38, R45). With no service-port write in the same cycle before
an SPI one, HIF_SCRATCH takes any value, a later complete read delivers it, and the frame's address has moved on;
writing 1 clears a bit of CHIME_STATUS that the hardware does not set in the same cycle and whose level source does not
hold; a fault counter takes the word, with the increments of the same cycle (R41, R49, R55, R78, R84). -/
def Obligations.RegisterWrites : Prop :=
  (∀ (s : State) (t : Nat) (v : Bool), s.portDead 0 = false → s.hif.inRecall = false →
    Completes (exec (.fwCtlNext t 0 true v) s) fun u => u.sys.nextB = v ∧ u.sys.fallback = s.sys.fallback) ∧
  (∀ (s : State) (t : Nat) (v : Bool), s.portDead 0 = false → s.hif.inRecall = false →
    Completes (exec (.fwCtlFallback t 0 true v) s) fun u => u.sys.fallback = v ∧ u.sys.nextB = s.sys.nextB) ∧
  (∀ (s : State) (t : Nat) (m : BitVec 16), s.portDead 0 = false → s.hif.inRecall = false →
    Completes (exec (.keySlotErase t 0 true m) s) fun u =>
      ∀ k : Fin 16, vget u.ptp.keys k = if m.getLsbD k.val then Key.init else vget s.ptp.keys k) ∧
  (∀ (s : State) (t : Nat), s.portDead 0 = false → s.hif.inRecall = false → vget s.hif.lastClr 3 ≠ some (s.advance t).now →
      s.sys.mstate ≠ .faultHold → s.sys.loader = false →
    Completes (exec (.testEnter t 0 true) s) fun u => u.sys.mstate = .test ∧ u.sys.test = true) ∧
  (∀ (s : State) (t : Nat), s.portDead 0 = false → s.hif.inRecall = false → s.sys.mstate = .test → (s.dpll 0).dstate = .acquiring →
    Completes (exec (.testLeave t 0 true) s) fun u => u.sys.mstate = .acquire ∧ u.sys.test = false) ∧
  (∀ (s : State) (t : Nat) (p : Fin 2) (v : Bool) (m : BitVec 16), s.portDead p = false → s.hif.inRecall = false →
    Completes (exec (.softReset t p false) s) (fun u => u.hif.err = s.hif.err ||| 0x01 ∧ u.mb = s.mb ∧ u.sys.resetCause = s.sys.resetCause) ∧
    Completes (exec (.fwCtlNext t p false v) s) (fun u => u.hif.err = s.hif.err ||| 0x01 ∧ u.sys.nextB = s.sys.nextB) ∧
    Completes (exec (.fwCtlFallback t p false v) s) (fun u => u.hif.err = s.hif.err ||| 0x01 ∧ u.sys.fallback = s.sys.fallback) ∧
    Completes (exec (.keySlotErase t p false m) s) (fun u => u.hif.err = s.hif.err ||| 0x01 ∧ u.ptp.keys = s.ptp.keys) ∧
    Completes (exec (.testEnter t p false) s) (fun u => u.hif.err = s.hif.err ||| 0x01 ∧ u.sys.test = s.sys.test) ∧
    Completes (exec (.testLeave t p false) s) (fun u => u.hif.err = s.hif.err ||| 0x01 ∧ u.sys.test = s.sys.test)) ∧
  (∀ (s : State) (t : Nat) (priv : Bool) (a : BitVec 16) (w : Word), s.portDead 0 = false → s.hif.inRecall = true →
    Completes (exec (.registerWrite t 0 priv (some a) w) s) fun u =>
      u.hif.err = s.hif.err ||| 0x20 ∧ u.hif.scratch = s.hif.scratch) ∧
  (∀ (s : State) (t t' : Nat) (p : Fin 2) (priv : Bool) (w : Word) (e : EccIn), s.portDead p = false → s.hif.inRecall = false →
      (p = 0 → s.noSvcAt t = true) →
    Completes (exec (.registerWrite t p priv (some 0x0004) w) s) fun u =>
      u.hif.scratch = w ∧ u.mb.tags = s.mb.tags ∧ u.hif.ind = s.hif.ind ∧ (u.port p).addr = 0x0005 ∧
      Completes (exec (.refusedRead t' p priv (some 0x0004) e) u) fun v => (v.port p).out = [w]) ∧
  (∀ (s : State) (t : Nat) (p : Fin 2) (priv : Bool) (w : Word), s.portDead p = false → s.hif.inRecall = false →
      (p = 0 → s.noSvcAt t = true) → (s.advance t).settled = true →
    Completes (exec (.registerWrite t p priv (some 0x0601) w) s) fun u =>
      u.hif.chimeStatus = (s.hif.chimeStatus &&& (~~~ w.setWidth 18 ||| (s.advance t).cyc.chime)) ||| (s.advance t).chimeRaw ∧ u.hif.chimeEnable = s.hif.chimeEnable) ∧
  (∀ (s : State) (t : Nat) (which : Cls) (w : Word), s.portDead 0 = false → s.hif.inRecall = false →
      s.noSvcAt t = true →
    Completes (exec (.fltCountWrite t 0 which w) s) fun u =>
      (which = .corrected → u.flt.cntCor = cntLoad w (s.advance t).cyc.cor) ∧
      (which = .contained → u.flt.cntCon = cntLoad w (s.advance t).cyc.con) ∧
      (which = .fatal → u.flt.cntFat = cntLoad w (s.advance t).cyc.fat))

/-- COMMAND_ACCEPTANCE of a posted tag: the first check that fails decides the response, a window without a header
fails with BAD_LENGTH, an unknown opcode with BAD_OPCODE; else the command is queued (R88, R92). COMMAND_DISPATCH: a
queued command with no earlier post of its opcode group still to finish its immediate part begins; one that is behind
another stays queued (R93, R94). -/
def Obligations.AcceptanceAndDispatch : Prop :=
  (∀ (s : State) (t : Nat) (i : Fin 48), (s.tag i).st = .posted → s.hif.fwReady = true → (s.advance t).acceptFail i = none →
    Completes (exec (.commandAcceptance t i) s) fun u => (u.tag i).st = .queued ∧ (u.tag i).win = (s.tag i).win) ∧
  (∀ (s : State) (t : Nat) (i : Fin 48) (f : Fail), (s.tag i).st = .posted → s.hif.fwReady = true →
      (s.advance t).acceptFail i = some f →
    Completes (exec (.commandAcceptance t i) s) fun u => u.heldFail i f) ∧
  (∀ (s : State) (t : Nat) (i : Fin 48), (s.tag i).st = .posted → s.hif.fwReady = true → (s.tag i).win = [] →
    Completes (exec (.commandAcceptance t i) s) fun u => u.heldFail i { status := stBadLength }) ∧
  (∀ (s : State) (t : Nat) (i : Fin 48), (s.tag i).st = .posted → s.hif.fwReady = true → (s.tag i).win ≠ [] →
      (s.tag i).cmd = none →
    Completes (exec (.commandAcceptance t i) s) fun u => u.heldFail i { status := stBadOpcode }) ∧
  (∀ (s : State) (t : Nat) (i : Fin 48), (s.tag i).st = .queued → s.hif.fwReady = true → (∀ k, s.behind i k = false) →
    Completes (exec (.commandDispatch t i) s) fun u => u.tag i = { s.tag i with st := .running } ∧ ∀ k, k ≠ i → u.tag k = s.tag k) ∧
  (∀ (s : State) (t : Nat) (i k : Fin 48), s.behind i k = true →
    exec (.commandDispatch t i) s = .next (s.advance t).commit)

/-- A mailbox command that is not in its immediate part does nothing when its row comes, but for the time that passes.
A mailbox command whose check fails changes nothing but its response, which holds the first failure; a FLT_INJECT also
ends its own mark of an injection in progress (R92, R102, R464). -/
def Obligations.RefusedCommandChangesOnlyItsResponse : Prop :=
  (∀ (x : Instr) (t : Nat) (i : Fin 48) (c : Cmd) (s : State), mailboxRow x = some (t, i, c) → (s.advance t).runs i c = false →
    exec x s = .next (s.advance t).commit) ∧
  (∀ (x : Instr) (t : Nat) (i : Fin 48) (c : Cmd) (s : State) (f : Fail), mailboxRow x = some (t, i, c) →
    (s.advance t).runs i c = true →
    firstFail (c.checks i (s.tag i).priv (hdrStaged (s.tag i).hdr) (s.tag i).args ((s.advance t).injectEnd i)) = some f →
    exec x s = .next (((s.advance t).injectEnd i).holdFail i f).commit)

/-- Every command that can be staged, when staged, changes nothing but the shadow buffers and its response: OK, STAGED,
length 0. What stays of the buffers keeps its order, and after it stands the command with its words, ahead of words that
an earlier command had buffered for fields it does not name (R56, R96). -/
def Obligations.StagedCommandIsBuffered : Prop :=
  ∀ (x : Instr) (t : Nat) (i : Fin 48) (c : Cmd) (s : State), mailboxRow x = some (t, i, c) → c.info.s = true →
    (s.advance t).ready i c true = true →
    ∃ l r, l.Sublist s.mb.shadow ∧
      exec x s = .next (((s.advance t).onMb fun m => { m with shadow := l ++ [{ cmd := c, args := (s.tag i).args ++ r }] }).hold i stOk true []).commit

/-- Every command that can be staged but TIME_SET (whose unstaged form is judged at once): unstaged it takes the
effect its buffered value takes at the strobe, and answers OK (R96, R97). -/
def Obligations.UnstagedCommandActsAsAtTheStrobe : Prop :=
  ∀ (x : Instr) (t : Nat) (i : Fin 48) (c : Cmd) (s : State), mailboxRow x = some (t, i, c) → c.info.s = true → c ≠ .timeSet →
    (s.advance t).ready i c false = true →
    ∃ d, exec x s = .next ((applyStaged { cmd := c, args := (s.tag i).args } (s.advance t)).holdOk i d).commit

/-- The commands that only report answer OK and change nothing but their response; those of fixed length have it
(R109, R110, R133, R140, R194, R222, R295, R331, R332, R372, R403, R404, R438, R495, R520, R523). OUT_STATUS brings
the ramp phases up to date and answers with the 67 words of R338. -/
def Obligations.ReportsChangeOnlyTheResponse : Prop :=
  (∀ (s : State) (t : Nat) (i : Fin 48),
    ((s.advance t).ready i .sysIdentify false = true →
      ∃ d, exec (.sysIdentify t i) s = .next ((s.advance t).holdOk i d).commit ∧ d.length = 7) ∧
    ((s.advance t).ready i .sysStatus false = true →
      ∃ d, exec (.sysStatus t i) s = .next ((s.advance t).holdOk i d).commit ∧ d.length = 5 ∧ d.getD 3 0 = wd s.mb.collisions) ∧
    ((s.advance t).ready i .timeGet false = true →
      ∃ d, exec (.timeGet t i) s = .next ((s.advance t).holdOk i d).commit ∧ d.length = 9 ∧ d.take 3 = time96 (s.advance t).mt ∧
        d.drop 6 = time96 (s.advance t).time.lastStep) ∧
    ((s.advance t).ready i .timeAlignQuery false = true →
      ∃ d, exec (.timeAlignQuery t i) s = .next ((s.advance t).holdOk i d).commit ∧ d.length = 13) ∧
    ((s.advance t).ready i .measRead false = true →
      ∃ d, exec (.measRead t i) s = .next ((s.advance t).holdOk i d).commit ∧ 3 ≤ d.length ∧ (d.length - 3) % 4 = 0) ∧
    ((s.advance t).ready i .measCalStatus false = true →
      ∃ d, exec (.measCalStatus t i) s = .next ((s.advance t).holdOk i d).commit ∧ d.length = 136) ∧
    ((s.advance t).ready i .refStatus false = true →
      ∃ d, exec (.refStatus t i) s = .next ((s.advance t).holdOk i d).commit ∧ (ab (s.tag i).args 0 31 = false → d.length = 68)) ∧
    ((s.advance t).ready i .loopStatus false = true →
      ∃ d, exec (.loopStatus t i) s = .next ((s.advance t).holdOk i d).commit ∧ d.length = 17) ∧
    ((s.advance t).ready i .synBandTable false = true →
      ∃ d, exec (.synBandTable t i) s = .next ((s.advance t).holdOk i d).commit ∧ d.length = 1 + 2 * af (s.tag i).args 0 14 8) ∧
    ((s.advance t).ready i .synRootStatus false = true →
      ∃ d, exec (.synRootStatus t i) s = .next ((s.advance t).holdOk i d).commit ∧ d.length = 8 ∧ d.getD 1 0 = wd s.root.losses) ∧
    ((s.advance t).ready i .ptpPortStatus false = true →
      ∃ d, exec (.ptpPortStatus t i) s = .next ((s.advance t).holdOk i d).commit ∧ d.length = 12) ∧
    ((s.advance t).ready i .ptpClientTable false = true →
      ∃ d, exec (.ptpClientTable t i) s = .next ((s.advance t).holdOk i d).commit ∧ 2 ≤ d.length) ∧
    ((s.advance t).ready i .gnssStatus false = true →
      ∃ d, exec (.gnssStatus t i) s = .next ((s.advance t).holdOk i d).commit ∧ d.length = 10) ∧
    ((s.advance t).ready i .gnssPosition false = true →
      ∃ d, exec (.gnssPosition t i) s = .next ((s.advance t).holdOk i d).commit ∧ d.length = 15) ∧
    ((s.advance t).ready i .pairStatus false = true →
      ∃ d, exec (.pairStatus t i) s = .next ((s.advance t).holdOk i d).commit ∧ d.length = 14) ∧
    ((s.advance t).ready i .fltRead false = true →
      ∃ d, exec (.fltRead t i) s = .next ((s.advance t).holdOk i d).commit ∧ (d.length - 1) % 8 = 0 ∧ 1 ≤ d.length) ∧
    ((s.advance t).ready i .nvsRecordRead false = true →
      ∃ d, exec (.nvsRecordRead t i) s = .next ((s.advance t).holdOk i d).commit ∧ 4 ≤ d.length) ∧
    ((s.advance t).ready i .nvsStatus false = true →
      ∃ d, exec (.nvsStatus t i) s = .next ((s.advance t).holdOk i d).commit ∧ d.length = 6) ∧
    ((s.advance t).ready i .arcQuery false = true →
      ∃ d, exec (.arcQuery t i) s = .next ((s.advance t).holdOk i d).commit ∧ 3 ≤ d.length) ∧
    ((s.advance t).ready i .arcLogRead false = true →
      ∃ d, exec (.arcLogRead t i) s = .next ((s.advance t).holdOk i d).commit ∧ 5 ≤ d.length) ∧
    ((s.advance t).ready i .ageStatus false = true →
      ∃ d, exec (.ageStatus t i) s = .next ((s.advance t).holdOk i d).commit ∧ d.length = 22) ∧
    ((s.advance t).ready i .telSnapshot false = true →
      ∃ d, exec (.telSnapshot t i) s = .next ((s.advance t).holdOk i d).commit ∧ d.length = 10)) ∧
  (∀ (s : State) (t : Nat) (i : Fin 48), (s.advance t).ready i .outStatus false = true →
    Completes (exec (.outStatus t i) s) fun u => ∃ d, u.heldOk i d ∧ d.length = 67)

/-- The SYS commands: a stage appends its words and answers the count held; a commit of an image whose length and part
stand and whose signature verifies goes on with the slot being written; an apply waits for its strobe; a block reset
waits for the block; an abort ends its target with ABORTED and answers one word (R112 to R117, R541). -/
def Obligations.SysCommandsAct : Prop :=
  (∀ (s : State) (t : Nat) (i : Fin 48), (s.advance t).readyTurn i .sysFwStage sysFwStageTurn = true →
    Completes (exec (.sysFwStage t i) s) fun u =>
      u.sys.staging = (if ab (s.tag i).args 0 31 then [] else s.sys.staging) ++ (s.tag i).args.drop 1 ∧
      u.heldOk i [wd u.sys.staging.length]) ∧
  (∀ (s : State) (t : Nat) (i : Fin 48), (s.advance t).ready i .sysFwCommit false = true → imageLenOk s.sys.staging = true →
      imagePartOk s.sys.staging = true →
    Completes (exec (.sysFwCommit t i true) s) fun u =>
      u.inDeferred i ∧ u.sys.commitTag = some i ∧ u.sys.commitWriting = true ∧ u.sys.activeB = s.sys.activeB) ∧
  (∀ (s : State) (t : Nat) (i : Fin 48), (s.advance t).ready i .sysApply false = true → s.hif.pend = none →
    Completes (exec (.sysApply t i) s) fun u =>
      u.inDeferred i ∧ ∃ r, u.hif.pend = some r ∧ r.tag = some i ∧
        (has (s.tag i).args 0 = false → r.groups = s.hif.armGroups ∧ r.atSecond = s.hif.armSecond)) ∧
  (∀ (s : State) (t : Nat) (i : Fin 48) (base : Nat) (b : Block), (s.advance t).ready i .sysResetBlock false = true →
      blockOf (af (s.tag i).args 0 9 0) = some (base, b) → s.flt.resetsOf (s.advance t).now base < 2 →
    Completes (exec (.sysResetBlock t i) s) fun u => (base, i) ∈ u.sys.resetBlocks) ∧
  (∀ (s : State) (t : Nat) (i k : Fin 48), (s.advance t).ready i .sysAbort false = true → abortTarget (s.tag i).args = some k →
      k ≠ i → (s.tag k).st ≠ .posted →
    Completes (exec (.sysAbort t i) s) fun u =>
      (u.tag k).st = .held ∧ (u.tag k).status = stAborted ∧ (u.tag k).data = [] ∧
      u.heldOk i [pack [pbit (s.tag k).deferred 1, pbit (decide ((s.tag k).st = .queued)) 0]] ∧
      ∀ j, j ≠ i → j ≠ k → u.tag j = s.tag j)

/-- An unstaged TIME_SET answers length 6: the time the Metronome would have read at the apply edge without the step,
and the time it read after it; a staged one answers length 0 (R137). -/
def Obligations.TimeSetAnswersBothTimes : Prop :=
  (∀ (s : State) (t : Nat) (i : Fin 48), (s.advance t).ready i .timeSet false = true →
    Completes (exec (.timeSet t i) s) fun u => u.heldOk i (time96 (s.advance t).mt ++ time96 u.mt)) ∧
  (∀ (s : State) (t : Nat) (i : Fin 48), (s.advance t).ready i .timeSet true = true →
    Completes (exec (.timeSet t i) s) fun u =>
      (u.tag i).st = .held ∧ (u.tag i).status = stOk ∧ (u.tag i).staged = true ∧ (u.tag i).data = [])

/-- TIME_SET with MODE 0 sets the Metronome to the time given and TIME_VALID; with MODE 1 it moves it by the offset
(R135). TIME_LEAP RELEASE gives the host's values up, SET makes them the host's; both answer the three words of R139.
A query of the alignment with a time given answers the count of points to it (R138 to R141). -/
def Obligations.TimeCommandsAct : Prop :=
  (∀ (s : State) (t : Nat) (i : Fin 48), (s.advance t).ready i .timeSet false = true → af (s.tag i).args 3 1 0 = 0 →
    Completes (exec (.timeSet t i) s) fun u =>
      u.mt = readingOfPat (a96 (s.tag i).args 0) ∧ u.time.valid = true ∧ u.time.lastStep = u.mt ∧ u.mb.shadow = s.mb.shadow) ∧
  (∀ (s : State) (t : Nat) (i : Fin 48), (s.advance t).ready i .timeSet false = true → af (s.tag i).args 3 1 0 = 1 →
    Completes (exec (.timeSet t i) s) fun u =>
      (u.mt : Int) = (s.advance t).mt + as64 (s.tag i).args 1 ∧ u.time.valid = true) ∧
  (∀ (s : State) (t : Nat) (i : Fin 48), (s.advance t).ready i .timeLeap false = true →
    Completes (exec (.timeLeap t i) s) fun u =>
      (af (s.tag i).args 0 31 28 = 0 → u.time.hostOverride = ab (s.tag i).args 0 16) ∧
      (af (s.tag i).args 0 31 28 = 3 → u.time.hostOverride = false) ∧ ∃ d, u.heldOk i d ∧ d.length = 3) ∧
  (∀ (s : State) (t : Nat) (i : Fin 48), (s.advance t).ready i .timeAlignQuery false = true → has (s.tag i).args 4 = true →
    Completes (exec (.timeAlignQuery t i) s) fun u =>
      ∃ d, u.heldOk i d ∧ d.take 2 = w64 (min (readingOfPat (a96 (s.tag i).args 2) * (arg (s.tag i).args 0).toNat /
        ((arg (s.tag i).args 1).toNat * secU)) (2 ^ 64 - 1)))

/-- MEAS_ARM arms the channel's capture with its decimation and limit, or their Defaults, or with RELEASE returns it to
IDLE; it touches no other channel and no other tag. MEAS_INTERVAL and MEAS_FREQ add one interval or gate with the
channels given, go on in their deferred part under their tag, and touch no other tag (R168, R172, R185). MEAS_CONFIG_CH
of a link channel sets ENABLE and CLK_DIV; a disabled pin channel that stays disabled takes THRESHOLD, HYST and DIV, or
the Default of each that COUNT leaves out, and no other channel changes (R166, R167). -/
def Obligations.MeasurementCommandsAct : Prop :=
  (∀ (s : State) (t : Nat) (i : Fin 48), (s.advance t).ready i .measArm false = true →
    Completes (exec (.measArm t i) s) fun u =>
      (u.chan (argCh (s.tag i).args)).capture.st = (if ab (s.tag i).args 0 29 then Capture.init.st else .armed) ∧
      (ab (s.tag i).args 0 29 = false →
        (u.chan (argCh (s.tag i).args)).capture.decim = dflt (s.tag i).args 1 (af (s.tag i).args 1 31 16) 1 ∧
        (u.chan (argCh (s.tag i).args)).capture.limit = dflt (s.tag i).args 1 (af (s.tag i).args 1 10 0) 1024) ∧
      (∀ c, c ≠ argCh (s.tag i).args → u.chan c = s.chan c) ∧ (u.tag i).st = .held ∧ (u.tag i).status = stOk ∧
      ∀ k, k ≠ i → u.tag k = s.tag k) ∧
  (∀ (s : State) (t : Nat) (i : Fin 48), (s.advance t).ready i .measInterval false = true →
    Completes (exec (.measInterval t i) s) fun u =>
      u.inDeferred i ∧ (∃ v, u.meas.ivs = s.meas.ivs ++ [v] ∧ v.tag = i ∧ v.startCh = argStart (s.tag i).args ∧
        v.stopCh = argStop (s.tag i).args ∧ v.waitFrom = (s.advance t).now) ∧ ∀ k, k ≠ i → u.tag k = s.tag k) ∧
  (∀ (s : State) (t : Nat) (i : Fin 48), (s.advance t).ready i .measFreq false = true →
    Completes (exec (.measFreq t i) s) fun u =>
      u.inDeferred i ∧ (∃ g, u.meas.freqs = s.meas.freqs ++ [g] ∧ g.tag = i ∧ g.ch = argStart (s.tag i).args ∧
        g.gate = gateArg (s.tag i).args) ∧ ∀ k, k ≠ i → u.tag k = s.tag k) ∧
  (∀ (s : State) (t : Nat) (i : Fin 48), (s.advance t).ready i .measConfigCh false = true → 16 ≤ (argCh (s.tag i).args).val →
    Completes (exec (.measConfigCh t i) s) fun u =>
      (u.chan (argCh (s.tag i).args)).enable = ab (s.tag i).args 0 8 ∧
      (u.chan (argCh (s.tag i).args)).clkDiv = dflt (s.tag i).args 1 (af (s.tag i).args 1 23 0) 1024) ∧
  (∀ (s : State) (t : Nat) (i : Fin 48), (s.advance t).ready i .measConfigCh false = true → (argCh (s.tag i).args).val < 16 →
      (s.chan (argCh (s.tag i).args)).enable = false → ab (s.tag i).args 0 8 = false →
    Completes (exec (.measConfigCh t i) s) fun u =>
      (u.chan (argCh (s.tag i).args)).threshold = dflt (s.tag i).args 1 (asf (s.tag i).args 1 31 16) 0 ∧
      (u.chan (argCh (s.tag i).args)).hyst = dflt (s.tag i).args 1 (af (s.tag i).args 1 11 10) 1 ∧
      (u.chan (argCh (s.tag i).args)).div = dflt (s.tag i).args 2 (af (s.tag i).args 2 15 0) 1 ∧
      ∀ c, c ≠ argCh (s.tag i).args → u.chan c = s.chan c)

/-- REF_LIMITS sets every limit, a field whose word COUNT leaves out to its Default, keeps the verdict, touches no other
candidate and answers one word (R217, R220). REF_CONFIG of a candidate with the same ENABLE, TIME and rate takes TTRACE,
FTRACE and SSM, keeps ENABLE and answers one word; REF_WTR of one that is not RESTORING takes both of its fields, keeps
its verdict and touches no other (R210, R218, R221). -/
def Obligations.ReferenceCommandsAct : Prop :=
  (∀ (s : State) (t : Nat) (i : Fin 48) (r : Fin 66), (s.advance t).ready i .refLimits false = true → argRef (s.tag i).args = some r →
    Completes (exec (.refLimits t i) s) fun u =>
      (u.cand r).accept = dflt (s.tag i).args 1 (af (s.tag i).args 1 31 0) 8000000 ∧
      (u.cand r).reject = dflt (s.tag i).args 2 (af (s.tag i).args 2 31 0) 10000000 ∧
      (u.cand r).fmWindow = dflt (s.tag i).args 3 (af (s.tag i).args 3 31 0) 0 ∧
      (u.cand r).phaseLimit = dflt (s.tag i).args 4 (af (s.tag i).args 4 31 0) 50000 ∧
      (u.cand r).xchk = dflt (s.tag i).args 5 (af (s.tag i).args 5 31 0) 100000 ∧
      (u.cand r).actMult = dflt (s.tag i).args 6 (af (s.tag i).args 6 31 24) 25 ∧
      (u.cand r).pmConfirm = dflt (s.tag i).args 6 (af (s.tag i).args 6 23 20) 3 ∧
      (u.cand r).fmBase = dflt (s.tag i).args 6 (ab (s.tag i).args 6 16) true ∧ (u.cand r).st = ((s.advance t).cand r).st ∧
      (∀ k, k ≠ r → u.cand k = (s.advance t).cand k) ∧ ∃ d, u.heldOk i d ∧ d.length = 1) ∧
  (∀ (s : State) (t : Nat) (i : Fin 48) (r : Fin 66), (s.advance t).ready i .refConfig false = true → argRef (s.tag i).args = some r →
      ab (s.tag i).args 0 31 = ((s.advance t).cand r).enable → ab (s.tag i).args 0 30 = ((s.advance t).cand r).time →
      (arg (s.tag i).args 1).toNat = ((s.advance t).cand r).num → (arg (s.tag i).args 2).toNat = ((s.advance t).cand r).den →
    Completes (exec (.refConfig t i) s) fun u =>
      (u.cand r).tTrace = ab (s.tag i).args 0 29 ∧ (u.cand r).fTrace = ab (s.tag i).args 0 28 ∧
      (u.cand r).ssm = ab (s.tag i).args 0 27 ∧ (u.cand r).enable = ((s.advance t).cand r).enable ∧
      ∃ d, u.heldOk i d ∧ d.length = 1) ∧
  (∀ (s : State) (t : Nat) (i : Fin 48) (r : Fin 66), (s.advance t).ready i .refWtr false = true → argRef (s.tag i).args = some r →
      ((s.advance t).cand r).st ≠ .restoring →
    Completes (exec (.refWtr t i) s) fun u =>
      (u.cand r).wtrEn = ab (s.tag i).args 0 31 ∧ (u.cand r).wtrTime = af (s.tag i).args 0 27 16 ∧ (u.cand r).st = ((s.advance t).cand r).st ∧
      ∀ k, k ≠ r → u.cand k = (s.advance t).cand k)

/-- REF_SELECT: the DPLL's selection fields take their values, a word COUNT leaves out keeping its own, the DPLL is due
for an evaluation unless it is disabled, REVERT, MANUAL and the due evaluation of the others stay, and four words are
answered. REF_PRIORITY: the table entries named take their USE and priority, the others and every other DPLL's table
stay, and 18 words are answered (R231, R251, R254, R256). -/
def Obligations.SelectionCommandsAct : Prop :=
  (∀ (s : State) (t : Nat) (i : Fin 48), (s.advance t).ready i .refSelect false = true →
    Completes (exec (.refSelect t i) s) fun u =>
      (u.dpll (argDpll (s.tag i).args)).forcedMode = decide (af (s.tag i).args 0 31 30 = 1) ∧
      (u.dpll (argDpll (s.tag i).args)).revert = ab (s.tag i).args 0 29 ∧
      (u.dpll (argDpll (s.tag i).args)).timeAsFreq = ab (s.tag i).args 0 28 ∧
      (u.dpll (argDpll (s.tag i).args)).slopeLimit = dflt (s.tag i).args 1 (af (s.tag i).args 1 31 16) (s.dpll (argDpll (s.tag i).args)).slopeLimit ∧
      (u.dpll (argDpll (s.tag i).args)).settleThr = dflt (s.tag i).args 1 (af (s.tag i).args 1 15 0) (s.dpll (argDpll (s.tag i).args)).settleThr ∧
      (u.dpll (argDpll (s.tag i).args)).manual = candOf (af (s.tag i).args 0 15 8) ∧
      (u.dpll (argDpll (s.tag i).args)).hitLimit = dflt (s.tag i).args 2 (af (s.tag i).args 2 31 0) (s.dpll (argDpll (s.tag i).args)).hitLimit ∧
      (u.dpll (argDpll (s.tag i).args)).evalDue = decide ((s.dpll (argDpll (s.tag i).args)).dstate ≠ .disabled) ∧
      (∀ d, d ≠ argDpll (s.tag i).args → (u.dpll d).revert = (s.dpll d).revert ∧ (u.dpll d).manual = (s.dpll d).manual ∧
        (u.dpll d).evalDue = (s.dpll d).evalDue) ∧ ∃ d, u.heldOk i d ∧ d.length = 4) ∧
  (∀ (s : State) (t : Nat) (i : Fin 48) (r : Fin 66), (s.advance t).ready i .refPriority false = true →
    Completes (exec (.refPriority t i) s) fun u =>
      (¬ (af (s.tag i).args 0 22 16 ≤ r.val ∧ r.val < af (s.tag i).args 0 22 16 + af (s.tag i).args 0 14 8) →
        vget (u.dpll (argDpll (s.tag i).args)).use r = vget (s.dpll (argDpll (s.tag i).args)).use r) ∧
      (af (s.tag i).args 0 22 16 ≤ r.val → r.val < af (s.tag i).args 0 22 16 + af (s.tag i).args 0 14 8 →
        (vget (u.dpll (argDpll (s.tag i).args)).use r).prio = prioByte (s.tag i).args (r.val - af (s.tag i).args 0 22 16) % 16 ∧
        (vget (u.dpll (argDpll (s.tag i).args)).use r).use = decide (128 ≤ prioByte (s.tag i).args (r.val - af (s.tag i).args 0 22 16))) ∧
      (∀ d, d ≠ argDpll (s.tag i).args → (u.dpll d).use = (s.dpll d).use) ∧ ∃ d, u.heldOk i d ∧ d.length = 18)

/-- LOOP_CONFIG, LOOP_BW_SCHEDULE and LOOP_HOLDOVER_CONFIG take their fields, a word COUNT leaves out keeping its
field, and answer one word; no other DPLL's bandwidth and state, schedule, or window changes (R289 to R293).
LOOP_FORCE_HOLDOVER with FORCE 1, of a DPLL not forced, sets FORCED and holds it over with cause FORCED; no other DPLL is
forced or changes state; with FORCE 0 it clears FORCED, the DPLL is due for an evaluation and its state stays (R294). -/
def Obligations.LoopCommandsAct : Prop :=
  (∀ (s : State) (t : Nat) (i : Fin 48), (s.advance t).ready i .loopConfig false = true →
    Completes (exec (.loopConfig t i) s) fun u =>
      (u.dpll (argDpll (s.tag i).args)).damping = af (s.tag i).args 0 23 16 ∧
      (u.dpll (argDpll (s.tag i).args)).bw = dflt (s.tag i).args 1 (af (s.tag i).args 1 31 0) (s.dpll (argDpll (s.tag i).args)).bw ∧
      (u.dpll (argDpll (s.tag i).args)).lockThr = dflt (s.tag i).args 2 (af (s.tag i).args 2 31 0) (s.dpll (argDpll (s.tag i).args)).lockThr ∧
      (u.dpll (argDpll (s.tag i).args)).stepThr = dflt (s.tag i).args 3 (af (s.tag i).args 3 31 0) (s.dpll (argDpll (s.tag i).args)).stepThr ∧
      (u.dpll (argDpll (s.tag i).args)).pullLimit = dflt (s.tag i).args 4 (af (s.tag i).args 4 31 16) (s.dpll (argDpll (s.tag i).args)).pullLimit ∧
      (u.dpll (argDpll (s.tag i).args)).recSlew = dflt (s.tag i).args 4 (af (s.tag i).args 4 15 0) (s.dpll (argDpll (s.tag i).args)).recSlew ∧
      (u.dpll (argDpll (s.tag i).args)).lockTime = dflt (s.tag i).args 5 (af (s.tag i).args 5 15 0) (s.dpll (argDpll (s.tag i).args)).lockTime ∧
      (ab (s.tag i).args 0 31 = true → (u.dpll (argDpll (s.tag i).args)).enable = true ∧
        (u.dpll (argDpll (s.tag i).args)).dstate ≠ .disabled) ∧
      (∀ d, d ≠ argDpll (s.tag i).args → (u.dpll d).bw = (s.dpll d).bw ∧ (u.dpll d).dstate = (s.dpll d).dstate) ∧
      ∃ d, u.heldOk i d ∧ d.length = 1) ∧
  (∀ (s : State) (t : Nat) (i : Fin 48), (s.advance t).ready i .loopBwSchedule false = true →
    Completes (exec (.loopBwSchedule t i) s) fun u =>
      (u.dpll (argDpll (s.tag i).args)).steps.length = af (s.tag i).args 0 27 24 ∧
      (∀ k, k < af (s.tag i).args 0 27 24 →
        (u.dpll (argDpll (s.tag i).args)).steps[k]? = some (af (s.tag i).args (1 + 2 * k) 31 0, af (s.tag i).args (2 + 2 * k) 15 0)) ∧
      (u.dpll (argDpll (s.tag i).args)).restartAfter = af (s.tag i).args 0 23 8 ∧
      (∀ d, d ≠ argDpll (s.tag i).args → (u.dpll d).steps = (s.dpll d).steps) ∧ ∃ d, u.heldOk i d ∧ d.length = 1) ∧
  (∀ (s : State) (t : Nat) (i : Fin 48), (s.advance t).ready i .loopHoldoverConfig false = true →
    Completes (exec (.loopHoldoverConfig t i) s) fun u =>
      (u.dpll (argDpll (s.tag i).args)).driftEn = ab (s.tag i).args 0 31 ∧ (u.dpll (argDpll (s.tag i).args)).tempEn = ab (s.tag i).args 0 30 ∧
      (u.dpll (argDpll (s.tag i).args)).window = dflt (s.tag i).args 1 (af (s.tag i).args 1 31 0) (s.dpll (argDpll (s.tag i).args)).window ∧
      (u.dpll (argDpll (s.tag i).args)).guard = dflt (s.tag i).args 2 (af (s.tag i).args 2 31 0) (s.dpll (argDpll (s.tag i).args)).guard ∧
      (u.dpll (argDpll (s.tag i).args)).budget = dflt (s.tag i).args 3 (af (s.tag i).args 3 31 0) (s.dpll (argDpll (s.tag i).args)).budget ∧
      (∀ d, d ≠ argDpll (s.tag i).args → (u.dpll d).window = (s.dpll d).window) ∧ ∃ d, u.heldOk i d ∧ d.length = 1) ∧
  (∀ (s : State) (t : Nat) (i : Fin 48), (s.advance t).ready i .loopForceHoldover false = true → ab (s.tag i).args 0 31 = true →
      (s.dpll (argDpll (s.tag i).args)).forced = false →
    Completes (exec (.loopForceHoldover t i) s) fun u =>
      (u.dpll (argDpll (s.tag i).args)).forced = true ∧ (u.dpll (argDpll (s.tag i).args)).dstate = .holdover ∧
      (u.dpll (argDpll (s.tag i).args)).hoCause = .forced ∧
      (∀ d, d ≠ argDpll (s.tag i).args → (u.dpll d).forced = (s.dpll d).forced ∧ (u.dpll d).dstate = (s.dpll d).dstate) ∧
      ∃ d, u.heldOk i d ∧ d.length = 1) ∧
  (∀ (s : State) (t : Nat) (i : Fin 48), (s.advance t).ready i .loopForceHoldover false = true → ab (s.tag i).args 0 31 = false →
      (s.dpll (argDpll (s.tag i).args)).forced = true →
    Completes (exec (.loopForceHoldover t i) s) fun u =>
      (u.dpll (argDpll (s.tag i).args)).forced = false ∧ (u.dpll (argDpll (s.tag i).args)).evalDue = true ∧
      (u.dpll (argDpll (s.tag i).args)).dstate = (s.dpll (argDpll (s.tag i).args)).dstate)

/-- SYN_CONFIG that keeps the rate, with a band for it, powers a domain up or down as ENABLE says, domain 0 always up;
no other domain changes and three words are answered. SYN_RAMP_LOAD loads the segments named, leaves the others and
every other domain, and answers one word. SYN_RAMP_RUN starts an idle ramp that is not refused from segment 0 with no
ratio applied yet, touches no other domain and answers one word; STOP makes a ramp IDLE with no ratio applied (R303,
R309, R310, R328 to R330). -/
def Obligations.SynthesisCommandsAct : Prop :=
  (∀ (s : State) (t : Nat) (i : Fin 48), (s.advance t).ready i .synConfig false = true →
      fdArg (s.tag i).args (s.dom (argDom (s.tag i).args)) =
        ((s.dom (argDom (s.tag i).args)).num, (s.dom (argDom (s.tag i).args)).den) →
      (s.dom (argDom (s.tag i).args)).noBandFor (s.dom (argDom (s.tag i).args)).num (s.dom (argDom (s.tag i).args)).den = false →
    Completes (exec (.synConfig t i) s) fun u =>
      (u.dom (argDom (s.tag i).args)).enable = (ab (s.tag i).args 0 31 || decide ((argDom (s.tag i).args).val = 0)) ∧
      (u.dom (argDom (s.tag i).args)).num = (s.dom (argDom (s.tag i).args)).num ∧
      (u.dom (argDom (s.tag i).args)).den = (s.dom (argDom (s.tag i).args)).den ∧
      (∀ d, d ≠ argDom (s.tag i).args → u.dom d = s.dom d) ∧ ∃ d, u.heldOk i d ∧ d.length = 3) ∧
  (∀ (s : State) (t : Nat) (i : Fin 48) (k : Fin 32), (s.advance t).ready i .synRampLoad false = true →
    Completes (exec (.synRampLoad t i) s) fun u =>
      vget (u.dom (argDom (s.tag i).args)).segs k =
        (if af (s.tag i).args 0 20 16 ≤ k.val ∧ k.val < af (s.tag i).args 0 20 16 + af (s.tag i).args 0 12 8
         then some (segArg (s.tag i).args (k.val - af (s.tag i).args 0 20 16))
         else vget (s.dom (argDom (s.tag i).args)).segs k) ∧
      (∀ d, d ≠ argDom (s.tag i).args → u.dom d = s.dom d) ∧ ∃ d, u.heldOk i d ∧ d.length = 1) ∧
  (∀ (s : State) (t : Nat) (i : Fin 48), (s.advance t).ready i .synRampRun false = true → ab (s.tag i).args 0 31 = false →
      s.rampRefused (argDom (s.tag i).args) = false → (s.dom (argDom (s.tag i).args)).ramp = .idle →
    Completes (exec (.synRampRun t i) s) fun u =>
      (u.dom (argDom (s.tag i).args)).ramp = .running ∧ (u.dom (argDom (s.tag i).args)).rampSeg = 0 ∧
      (u.dom (argDom (s.tag i).args)).rampR = 0 ∧ (u.dom (argDom (s.tag i).args)).rampLast = af (s.tag i).args 0 20 16 ∧
      (∀ d, d ≠ argDom (s.tag i).args → u.dom d = s.dom d) ∧ ∃ d, u.heldOk i d ∧ d.length = 1) ∧
  (∀ (s : State) (t : Nat) (i : Fin 48), (s.advance t).ready i .synRampRun false = true → ab (s.tag i).args 0 31 = true →
      (s.dom (argDom (s.tag i).args)).ramp ≠ .idle →
    Completes (exec (.synRampRun t i) s) fun u =>
      (u.dom (argDom (s.tag i).args)).ramp = .idle ∧ (u.dom (argDom (s.tag i).args)).rampR = 0)

/-- OUT_CONFIG gives a CKOUT its ENABLE, FORMAT, DOMAIN, DIV and PHASE_ADJ, a word COUNT leaves out keeping its field; a
running CKOUT whose divider changes loses its alignment; no domain changes and one word is answered. OUT_PULSE_CONFIG
gives a PULSE output its ENABLE, HALF, DOMAIN and DELAY and answers two words. OUT_SLEW sets AUTO and the rate of the
outputs named, leaves those of the others, every CKOUT and every domain, and answers one word. OUT_SYNC_ARM with DISARM
ends the arm, else arms the outputs given from its instant and clears SYNC_EXPIRED; no CKOUT changes and one word is
answered. OUT_REALIGN answers the Metronome time as it stands after it (R313, R317, R322, R324, R333 to R337). -/
def Obligations.OutputCommandsAct : Prop :=
  (∀ (s : State) (t : Nat) (i : Fin 48) (n : Fin 24), (s.advance t).ready i .outConfig false = true → argCk (s.tag i).args = some n →
    Completes (exec (.outConfig t i) s) fun u =>
      (u.ck n).enable = ab (s.tag i).args 0 31 ∧ (u.ck n).format = af (s.tag i).args 0 30 29 ∧
      (u.ck n).domain = argDom8 (s.tag i).args ∧ (u.ck n).div = dflt (s.tag i).args 1 (af (s.tag i).args 1 15 0) (s.ck n).div ∧
      (u.ck n).phaseAdj = dflt (s.tag i).args 2 (af (s.tag i).args 2 15 0) (s.ck n).phaseAdj ∧
      (ab (s.tag i).args 0 31 = true → (s.ck n).enable = true → (u.ck n).div ≠ (s.ck n).div → (u.ck n).aligned = false) ∧
      u.out.doms = s.out.doms ∧ ∃ d, u.heldOk i d ∧ d.length = 1) ∧
  (∀ (s : State) (t : Nat) (i : Fin 48), (s.advance t).ready i .outPulseConfig false = true →
    Completes (exec (.outPulseConfig t i) s) fun u =>
      (u.pl (argPl (s.tag i).args)).enable = ab (s.tag i).args 0 31 ∧ (u.pl (argPl (s.tag i).args)).half = ab (s.tag i).args 0 28 ∧
      (u.pl (argPl (s.tag i).args)).domain = argDom8 (s.tag i).args ∧
      (u.pl (argPl (s.tag i).args)).delay = dflt (s.tag i).args 4 (as32 (s.tag i).args 4) (s.pl (argPl (s.tag i).args)).delay ∧
      ∃ d, u.heldOk i d ∧ d.length = 2) ∧
  (∀ (s : State) (t : Nat) (i : Fin 48) (n : Fin 16), (s.advance t).ready i .outSlew false = true →
    Completes (exec (.outSlew t i) s) fun u =>
      (u.pl n).auto = (if ab (s.tag i).args 0 n.val then ab (s.tag i).args 0 30 else (s.pl n).auto) ∧
      (u.pl n).slewRate = (if ab (s.tag i).args 0 n.val then dflt (s.tag i).args 1 (af (s.tag i).args 1 15 0) (s.pl n).slewRate
        else (s.pl n).slewRate) ∧ u.out.ck = s.out.ck ∧ u.out.doms = s.out.doms ∧ ∃ d, u.heldOk i d ∧ d.length = 1) ∧
  (∀ (s : State) (t : Nat) (i : Fin 48), (s.advance t).ready i .outSyncArm false = true →
    Completes (exec (.outSyncArm t i) s) fun u =>
      (ab (s.tag i).args 0 31 = true → u.out.arm = none) ∧
      (ab (s.tag i).args 0 31 = false → ∃ a, u.out.arm = some a ∧ a.falling = ab (s.tag i).args 0 30 ∧
        a.ckout = BitVec.ofNat 24 (af (s.tag i).args 0 23 0) ∧ a.from_ = (s.advance t).now ∧ u.out.syncExpired = false) ∧
      u.out.ck = s.out.ck ∧ ∃ d, u.heldOk i d ∧ d.length = 1) ∧
  (∀ (s : State) (t : Nat) (i : Fin 48), (s.advance t).ready i .outRealign false = true →
    Completes (exec (.outRealign t i) s) fun u => u.heldOk i (time96 u.mt))

/-- PTP_PROFILE takes ENABLE, PROFILE and both priorities and leaves the keys; PTP_SYNCE_CONFIG takes ESMC_TX, ESMC_RX and
the fixed QL, and with ESMC_RX 0 drops the received QL; a key fills its slot of PTP_SECURITY with its ID and leaves the
other slots and every lane; each answers one word. A frame's pieces assemble, and with LAST they wait to be sent and
their length is answered. A read of the host queue takes its head off where it asks for it, and answers five words, and
none but those with VALID 0 once the queue is empty (R369, R371, R374 to R376). PTP_PORT_CONFIG of a port that keeps
LANE_EN, RATE and FEC takes ROLE, TRANSPORT, TWO_STEP, HOST_COPY and the IPv4 address, and answers one word (R370). -/
def Obligations.PtpCommandsAct : Prop :=
  (∀ (s : State) (t : Nat) (i : Fin 48), (s.advance t).ready i .ptpProfile false = true →
    Completes (exec (.ptpProfile t i) s) fun u =>
      u.ptp.en = ab (s.tag i).args 0 31 ∧ u.ptp.profile = af (s.tag i).args 0 30 28 ∧ u.ptp.prio1 = af (s.tag i).args 0 23 16 ∧
      u.ptp.prio2 = af (s.tag i).args 0 15 8 ∧ u.ptp.keys = s.ptp.keys ∧ ∃ d, u.heldOk i d ∧ d.length = 1) ∧
  (∀ (s : State) (t : Nat) (i l : Fin 48), (s.advance t).ready i .ptpSynceConfig false = true → argLane (s.tag i).args = some l →
    Completes (exec (.ptpSynceConfig t i) s) fun u =>
      (u.lane l).esmcTx = ab (s.tag i).args 0 31 ∧ (u.lane l).esmcRx = ab (s.tag i).args 0 30 ∧
      (u.lane l).qlFixed = af (s.tag i).args 0 27 24 ∧ (ab (s.tag i).args 0 30 = false → (u.lane l).rxQl = 0 ∧ (u.lane l).esmcTimeout = false) ∧
      ∃ d, u.heldOk i d ∧ d.length = 1) ∧
  (∀ (s : State) (t : Nat) (i : Fin 48) (k : Fin 16), (s.advance t).ready i .ptpSecurity false = true → af (s.tag i).args 0 31 30 = 0 →
      k.val = af (s.tag i).args 0 19 16 →
    Completes (exec (.ptpSecurity t i) s) fun u =>
      (vget u.ptp.keys k).filled = true ∧ (vget u.ptp.keys k).id = arg (s.tag i).args 1 ∧
      (∀ j, j ≠ k → vget u.ptp.keys j = vget s.ptp.keys j) ∧ u.ptp.lanes = s.ptp.lanes ∧ ∃ d, u.heldOk i d ∧ d.length = 1) ∧
  (∀ (s : State) (t : Nat) (i l : Fin 48), (s.advance t).readyTurn i .ptpFrameTx ptpFrameTxTurn = true → argLane (s.tag i).args = some l →
      ab (s.tag i).args 0 30 = true →
    Completes (exec (.ptpFrameTx t i) s) fun u =>
      (u.lane l).sendQ = (s.lane l).sendQ ++ [pieceBytes (s.tag i).args (s.lane l)] ∧ (u.lane l).frame = [] ∧
      u.heldOk i [pack [pbit true 31, ((pieceBytes (s.tag i).args (s.lane l)).length, 15, 0)]]) ∧
  (∀ (s : State) (t : Nat) (i l : Fin 48), (s.advance t).readyTurn i .ptpFrameTx ptpFrameTxTurn = true → argLane (s.tag i).args = some l →
      ab (s.tag i).args 0 30 = false →
    Completes (exec (.ptpFrameTx t i) s) fun u =>
      (u.lane l).frame = pieceBytes (s.tag i).args (s.lane l) ∧ (u.lane l).sendQ = (s.lane l).sendQ) ∧
  (∀ (s : State) (t : Nat) (i : Fin 48), (s.advance t).ready i .ptpFrameRx false = true →
    Completes (exec (.ptpFrameRx t i) s) fun u =>
      u.ptp.hostQ = (if ab (s.tag i).args 0 31 then s.ptp.hostQ.drop 1 else s.ptp.hostQ) ∧
      ∃ d, u.heldOk i d ∧ 5 ≤ d.length ∧ (u.ptp.hostQ = [] → d.length = 5 ∧ d.getD 0 0 = 0)) ∧
  (∀ (s : State) (t : Nat) (i l : Fin 48), (s.advance t).ready i .ptpPortConfig false = true → argLane (s.tag i).args = some l →
    (s.lane l).en = ab (s.tag i).args 0 31 → (s.lane l).rate = af (s.tag i).args 0 30 29 → (s.lane l).fec = ab (s.tag i).args 0 28 →
    Completes (exec (.ptpPortConfig t i) s) fun u =>
      (u.lane l).role = af (s.tag i).args 0 23 21 ∧ (u.lane l).transport = af (s.tag i).args 0 20 19 ∧
      (u.lane l).twoStep = ab (s.tag i).args 0 18 ∧ (u.lane l).hostCopy = ab (s.tag i).args 0 14 ∧
      (u.lane l).ipv4 = dflt (s.tag i).args 3 (arg (s.tag i).args 3).toNat (s.lane l).ipv4 ∧ ∃ d, u.heldOk i d ∧ d.length = 1)

/-- GNSS_CONFIG takes ENABLE, BIAS_EN, CONST and CLEAR_TIME and answers one word; GNSS_CABLE_DELAY takes both of its
fields and answers them; a survey and a capture go on in their deferred part under their tag, from their instant and with
the DURATION and LENGTH given; RELEASE drops the capture held (R398, R401, R402, R405, R406). -/
def Obligations.GnssCommandsAct : Prop :=
  (∀ (s : State) (t : Nat) (i : Fin 48), (s.advance t).ready i .gnssConfig false = true →
    Completes (exec (.gnssConfig t i) s) fun u =>
      u.gnss.en = ab (s.tag i).args 0 31 ∧ u.gnss.biasEn = ab (s.tag i).args 0 30 ∧ u.gnss.const = af (s.tag i).args 0 19 16 ∧
      u.gnss.clearTime = dflt (s.tag i).args 1 (af (s.tag i).args 1 15 0) s.gnss.clearTime ∧ ∃ d, u.heldOk i d ∧ d.length = 1) ∧
  (∀ (s : State) (t : Nat) (i : Fin 48), (s.advance t).ready i .gnssCableDelay false = true →
    Completes (exec (.gnssCableDelay t i) s) fun u =>
      u.gnss.delay = (arg (s.tag i).args 0).toNat ∧ u.gnss.bandDiff = as32 (s.tag i).args 1 ∧
      u.heldOk i [wd u.gnss.delay, wd (twos 32 u.gnss.bandDiff)]) ∧
  (∀ (s : State) (t : Nat) (i : Fin 48), (s.advance t).ready i .gnssSurvey false = true → af (s.tag i).args 0 31 30 = 0 →
    Completes (exec (.gnssSurvey t i) s) fun u =>
      u.inDeferred i ∧ ∃ v, u.gnss.survey = some v ∧ v.tag = i ∧ v.from_ = (s.advance t).now ∧
        v.duration = dflt (s.tag i).args 1 (arg (s.tag i).args 1).toNat 3600) ∧
  (∀ (s : State) (t : Nat) (i : Fin 48), (s.advance t).ready i .gnssSnapshot false = true → af (s.tag i).args 0 31 30 = 0 →
    Completes (exec (.gnssSnapshot t i) s) fun u =>
      u.inDeferred i ∧ u.gnss.snap.capTag = some i ∧ u.gnss.snap.held = false ∧ u.gnss.snap.capLen = af (s.tag i).args 0 6 0) ∧
  (∀ (s : State) (t : Nat) (i : Fin 48), (s.advance t).ready i .gnssSnapshot false = true → af (s.tag i).args 0 31 30 = 2 →
    Completes (exec (.gnssSnapshot t i) s) fun u => u.heldOk i [] ∧ u.gnss.snap.held = false)

/-- PAIR_HANDOVER proposes the first Metronome second at least 20 ms ahead and waits; PAIR_CONFIG that keeps ENABLE
takes PTP_QUIET, INIT_WAIT and ASYMMETRY, a word COUNT leaves out keeping its field, and answers one word (R433, R437,
R439). -/
def Obligations.PairCommandsAct : Prop :=
  (∀ (s : State) (t : Nat) (i : Fin 48), (s.advance t).ready i .pairHandover false = true →
    Completes (exec (.pairHandover t i) s) fun u =>
      u.inDeferred i ∧ u.pair.hoTag = some i ∧ u.pair.hoPropose = true ∧
      ∃ h, u.pair.hoT = some h ∧ (s.advance t).mt + 20 * msU ≤ h * secU ∧ h * secU < (s.advance t).mt + 20 * msU + secU) ∧
  (∀ (s : State) (t : Nat) (i : Fin 48), (s.advance t).ready i .pairConfig false = true → s.pair.en = ab (s.tag i).args 0 31 →
    Completes (exec (.pairConfig t i) s) fun u =>
      u.pair.quiet = ab (s.tag i).args 0 30 ∧ u.pair.initWait = dflt (s.tag i).args 1 (arg (s.tag i).args 1).toNat s.pair.initWait ∧
      u.pair.asym = (if has (s.tag i).args 3 then as64 (s.tag i).args 2 else s.pair.asym) ∧ ∃ d, u.heldOk i d ∧ d.length = 1)

/-- FLT_REACTION with WHAT 0 sets the reaction of its code and of no other and leaves GONG_OUTPUTS; with WHAT 1 it sets
GONG_OUTPUTS and leaves every reaction; both answer two words. FLT_CLEAR empties the ring, FLT_FIRST and the ANY and
WRAPPED fields of FLT_SUMMARY, releases the Gong and keeps the three class counters and the unobserved marks of sources
whose report path is broken; it ends FAULT_HOLD, in RECOVERY while DPLL 0 acquires; one word is answered. FLT_INJECT
answers one word; with REACT 0 and no real fault at the checker it is word 0 of a record in the ring of the source and
code given, marked injected (R451, R454, R463 to R466). -/
def Obligations.FaultCommandsAct : Prop :=
  (∀ (s : State) (t : Nat) (i : Fin 48) (k : Nat), (s.advance t).ready i .fltReaction false = true → af (s.tag i).args 0 31 30 = 0 →
    Completes (exec (.fltReaction t i) s) fun u =>
      u.flt.reactOf k = (if k = af (s.tag i).args 0 7 0 then af (s.tag i).args 0 29 28 else s.flt.reactOf k) ∧
      u.flt.disable = s.flt.disable ∧ ∃ d, u.heldOk i d ∧ d.length = 2) ∧
  (∀ (s : State) (t : Nat) (i : Fin 48), (s.advance t).ready i .fltReaction false = true → af (s.tag i).args 0 31 30 ≠ 0 →
    Completes (exec (.fltReaction t i) s) fun u =>
      u.flt.disable = ab (s.tag i).args 0 16 ∧ u.flt.react = s.flt.react ∧ ∃ d, u.heldOk i d ∧ d.length = 2) ∧
  (∀ (s : State) (t : Nat) (i : Fin 48), (s.advance t).ready i .fltClear false = true →
    Completes (exec (.fltClear t i) s) fun u =>
      u.flt.recs = [] ∧ u.flt.first = none ∧ u.flt.gong = false ∧ u.flt.fatAny = false ∧ u.flt.conAny = false ∧ u.flt.corAny = false ∧
      u.flt.wrapped = false ∧ u.flt.cntCor = s.flt.cntCor ∧ u.flt.cntCon = s.flt.cntCon ∧ u.flt.cntFat = s.flt.cntFat ∧
      u.flt.unobs = s.flt.unobs.filter (·.broken) ∧ (s.sys.mstate = .faultHold → u.sys.mstate ≠ .faultHold) ∧
      (s.sys.mstate = .faultHold → (s.dpll 0).dstate = .acquiring → u.sys.mstate = .recovery) ∧ ∃ d, u.heldOk i d ∧ d.length = 1) ∧
  (∀ (s : State) (t : Nat) (i : Fin 48) (real : Cls), ((s.advance t).injectEnd i).ready i .fltInject false = true →
    Completes (exec (.fltInject t i real) s) fun u => ∃ w, u.heldOk i [w]) ∧
  (∀ (s : State) (t : Nat) (i : Fin 48), ((s.advance t).injectEnd i).ready i .fltInject false = true → ab (s.tag i).args 0 8 = false →
    Completes (exec (.fltInject t i .none) s) fun u =>
      ∃ r ∈ u.flt.recs, r.source = af (s.tag i).args 0 31 22 ∧ r.code = af (s.tag i).args 0 19 12 ∧ r.injected = true ∧
        u.heldOk i [r.head])

/-- NVS_RECORD_WRITE without LAST holds its piece and answers two words; with LAST and WP_N deasserted the record waits
to be written under its tag; either way the byte memory is unchanged. AGE_MARGIN_PLAN without REPLAN answers seven
words, the plan in force and its time, and changes nothing else; with REPLAN it answers seven words. AGE_POLICY sets
PLAN_EN and ALARM_YEARS and, with MODEL_RESET, empties the model and its history; one word is answered (R494, R521,
R522). -/
def Obligations.StoreAndAgeingCommandsAct : Prop :=
  (∀ (s : State) (t : Nat) (i : Fin 48), (s.advance t).readyTurn i .nvsRecordWrite nvsRecordWriteTurn = true → ab (s.tag i).args 0 30 = false →
    Completes (exec (.nvsRecordWrite t i) s) fun u =>
      u.nvs.mem = s.nvs.mem ∧ u.nvs.queue = s.nvs.queue ∧ (∃ x ∈ u.nvs.asm, x.id = af (s.tag i).args 0 15 0 ∧ x.bytes = nvPiece (s.tag i).args s) ∧
      ∃ d, u.heldOk i d ∧ d.length = 2) ∧
  (∀ (s : State) (t : Nat) (i : Fin 48), (s.advance t).readyTurn i .nvsRecordWrite nvsRecordWriteTurn = true → ab (s.tag i).args 0 30 = true →
      s.sys.wp = false →
    Completes (exec (.nvsRecordWrite t i) s) fun u =>
      u.nvs.mem = s.nvs.mem ∧ (u.tag i).st = .running ∧ (u.tag i).note = 1 ∧
      ∃ w, u.nvs.queue = s.nvs.queue ++ [w] ∧ w.id = af (s.tag i).args 0 15 0 ∧ w.payload = nvPiece (s.tag i).args s ∧ w.host = some i) ∧
  (∀ (s : State) (t : Nat) (i : Fin 48), (s.advance t).ready i .ageMarginPlan false = true → ab (s.tag i).args 0 31 = false →
    ∃ d, exec (.ageMarginPlan t i) s = .next ((s.advance t).holdOk i d).commit ∧ d.length = 7 ∧ d.drop 4 = time96 s.age.plan.at_) ∧
  (∀ (s : State) (t : Nat) (i : Fin 48), (s.advance t).ready i .ageMarginPlan false = true → ab (s.tag i).args 0 31 = true →
    Completes (exec (.ageMarginPlan t i) s) fun u => ∃ d, u.heldOk i d ∧ d.length = 7) ∧
  (∀ (s : State) (t : Nat) (i : Fin 48), (s.advance t).ready i .agePolicy false = true →
    Completes (exec (.agePolicy t i) s) fun u =>
      u.age.planEn = BitVec.ofNat 5 (af (s.tag i).args 0 20 16) ∧ u.age.alarmYears = af (s.tag i).args 0 7 0 ∧
      (ab (s.tag i).args 0 31 = true → u.age.days = [] ∧ u.age.model = Model.init ∧ u.age.offsetValid = false) ∧
      ∃ d, u.heldOk i d ∧ d.length = 1)

/-- A Metronome second not yet taken, with the Kettle not lost, is taken and fires its Chime, and the Metronome reads on; from 12 h before
an EVENT the leap flag of its direction is set and the offset stays; at EVENT the offset is formed anew while the
Metronome, the CKOUT outputs and the domains do not move (R18, R78, R128, R129). -/
def Obligations.SecondsAndLeapEvents : Prop :=
  (∀ (s : State) (t : Nat), s.time.lastSec < (s.advance t).msec → s.kettle.lost = false →
    Completes (exec (.metronomeSecond t) s) fun u =>
      u.time.lastSec = (s.advance t).msec ∧ u.hif.chimeStatus.getLsbD 9 = true ∧ u.mt = (s.advance t).mt) ∧
  (∀ (s : State) (t : Nat), s.time.event ≠ 0 → s.time.event ≤ (s.advance t).msec + 43200 →
    Completes (exec (.leapFlagSet t) s) fun u =>
      u.time.leap61 = decide (s.time.leap = 1) ∧ u.time.leap59 = decide (s.time.leap = -1) ∧ u.time.offset = s.time.offset) ∧
  (∀ (s : State) (t : Nat), s.time.event ≠ 0 → s.time.event ≤ (s.advance t).msec →
    exec (.leapEvent t) s = .next (utcUpdate (s.advance t)).commit ∧
    Completes (exec (.leapEvent t) s) fun u => u.mt = (s.advance t).mt ∧ u.out.ck = s.out.ck ∧ u.out.doms = s.out.doms)

/-- The Kettle: a loss, whatever its source's marks, sets TIME_INVALID, sounds the Gong and enters FAULT_HOLD; the oven
criteria set and clear KETTLE_WARM; the heater follows its supply, whose fall clears KETTLE_WARM; disagreeing thermistors
are recorded (R20, R179 to R181). The root: a loss puts the derived clocks on the ring, counts, keeps its time and starts
the search; once the search's time has passed a relock ends the loss on a band whose count is nearest 1,280, a failed one
counts and waits 1 s, after which the search starts again (R298 to R300). -/
def Obligations.KettleAndRootEvents : Prop :=
  (∀ (s : State) (t : Nat), s.kettle.lost = false → s.flt.gong = false →
    Completes (exec (.kettleLoss t) s) fun u =>
      u.kettle.lost = true ∧ u.time.invalid = true ∧ u.flt.gong = true ∧ u.sys.mstate = .faultHold) ∧
  (∀ (s : State) (t : Nat), s.kettle.warm = true →
    Completes (exec (.kettleOven t) s) fun u => u.kettle.warm = false ∧ u.kettle.ovenFault = true) ∧
  (∀ (s : State) (t : Nat), Completes (exec (.vddOvenFall t) s) fun u => u.kettle.heaterOn = false ∧ u.kettle.warm = false) ∧
  (∀ (s : State) (t : Nat),
    Completes (exec (.vddOvenReturn t) s) fun u => u.kettle.heaterOn = true ∧ u.kettle.warm = s.kettle.warm) ∧
  (∀ (s : State) (t : Nat), s.kettle.warm = false → s.kettle.heaterOn = true → s.kettle.lost = false →
    Completes (exec (.kettleWarmSet t) s) fun u => u.kettle.warm = true ∧ u.kettle.ovenFault = false) ∧
  (∀ (s : State) (t : Nat) (b : Bool),
    Completes (exec (.kettleSensor t b) s) fun u => u.kettle.sensorFault = true ∧ u.kettle.thermB = b) ∧
  (∀ (s : State) (t khz : Nat), s.root.inLoss = false → s.quietFaults = true →
    Completes (exec (.rootLoss t khz) s) fun u =>
      u.root.inLoss = true ∧ u.root.onRing = true ∧ u.root.st = .search ∧ u.root.invalidSpan = true ∧
      u.root.losses = satU 32 (s.root.losses + 1) ∧ u.root.ringKhz = khz ∧ u.root.lastLoss = (s.advance t).mt) ∧
  (∀ (s : State) (t : Nat) (l : List Nat), s.root.inLoss = true → s.root.waitFrom = none → s.sys.inReset = false →
      (s.advance t).past s.root.seqFrom searchU = true →
    Completes (exec (.rootRelock t l true) s) fun u =>
      u.root.inLoss = false ∧ u.root.onRing = false ∧ u.root.st = .locked ∧ u.root.band ∈ nearestBands l ∧ u.root.invalidSpan = false) ∧
  (∀ (s : State) (t : Nat) (l : List Nat), s.root.inLoss = true → s.root.waitFrom = none → s.sys.inReset = false →
      (s.advance t).past s.root.seqFrom searchU = true → s.quietFaults = true →
    Completes (exec (.rootRelock t l false) s) fun u =>
      u.root.fails = satU 32 (s.root.fails + 1) ∧ u.root.waitFrom = some (s.advance t).now ∧ u.root.inLoss = true) ∧
  (∀ (s : State) (t w : Nat), s.root.waitFrom = some w → (s.advance t).past w secU = true →
    Completes (exec (.rootRelockRetry t) s) fun u => u.root.waitFrom = none ∧ u.root.seqFrom = (s.advance t).now)

/-- The domain PLLs: a table of 128 entries with a band for F_D fills the domain and starts it; a domain that loses
lock stops, and relocks or retunes to run again, and no other domain changes; a low margin is kept (R302 to R304, R306). A ramp
segment that ends gives way to the next with its TARGET applied; the 2 us hold of a format change ends, and the hold of a
divider or phase change ends in a restart, of one CKOUT only; a PULSE's hold ends after 10 us, a high PULSE output falls
at its instant, and a slew within 5 ps ends (R308, R313, R318, R322). SYNC_IN: a released edge of the armed sense within
TIMEOUT consumes the arm; with none due in the queue at TIMEOUT the arm lapses and SYNC_EXPIRED sets; a CKOUT the Clapper
does not gate leaves KEEP at a hand-off point, and no other does (R324, R326, R430, R431). -/
def Obligations.CarillonEvents : Prop :=
  (∀ (s : State) (t : Nat) (d : Fin 8) (table : List (Nat × Nat)) (b : Nat), (s.dom d).enable = true → (s.dom d).filling = true →
      table.length = 128 → s.root.inLoss = false → bandPick table (s.dom d).num (s.dom d).den = some b →
    Completes (exec (.domainBandFillDone t d table) s) fun u =>
      (u.dom d).filled = true ∧ (u.dom d).table = table ∧ (u.dom d).band = b ∧ (u.dom d).running = true ∧ (u.dom d).locked = true ∧
      (u.dom d).filling = false ∧ (u.dom d).noBand = false) ∧
  (∀ (s : State) (t : Nat) (d : Fin 8), (s.dom d).enable = true → (s.dom d).locked = true → (s.dom d).running = true →
      s.quietFaults = true →
    Completes (exec (.domainLock t d) s) fun u =>
      (u.dom d).locked = false ∧ (u.dom d).running = false ∧ (u.dom d).enable = true ∧ ∀ k, k ≠ d → u.dom k = s.dom k) ∧
  (∀ (s : State) (t : Nat) (d : Fin 8), (s.dom d).enable = true → (s.dom d).locked = false → (s.dom d).filling = false →
      (s.dom d).retuning = false → (s.dom d).noBand = false →
    Completes (exec (.domainRelock t d) s) fun u =>
      (u.dom d).locked = true ∧ (u.dom d).running = true ∧ ∀ k, k ≠ d → u.dom k = s.dom k) ∧
  (∀ (s : State) (t : Nat) (d : Fin 8), (s.dom d).enable = true → (s.dom d).retuning = true →
    Completes (exec (.domainRetuneDone t d) s) fun u =>
      (u.dom d).retuning = false ∧ (u.dom d).running = true ∧ ∀ k, k ≠ d → u.dom k = s.dom k) ∧
  (∀ (s : State) (t dev m : Nat) (d : Fin 8), (s.dom d).enable = true → (s.dom d).locked = true → dev ≤ 100 → m < 560 → s.rolls = true →
    Completes (exec (.bandCheck t d dev m) s) fun u => (u.dom d).lowMargin = true ∧ ∀ k, k ≠ d → u.dom k = s.dom k) ∧
  (∀ (s : State) (t : Nat) (d : Fin 8), (s.dom d).ramp = .running → (s.dom d).rampSeg < (s.dom d).rampLast →
      (s.advance t).past (s.dom d).rampFrom ((s.dom d).seg.len (s.dom d).rampR) = true →
    Completes (exec (.rampSegmentEnd t d) s) fun u =>
      (u.dom d).rampSeg = (s.dom d).rampSeg + 1 ∧ (u.dom d).ramp = .running ∧ (u.dom d).rampR = (s.dom d).seg.target ∧
      ∀ k, k ≠ d → u.dom k = s.dom k) ∧
  (∀ (s : State) (t f : Nat) (n : Fin 24), (s.ck n).formFrom = some f → (s.ck n).holdFrom = none →
      (s.advance t).past f (2 * usU) = true →
    Completes (exec (.outputHoldEnd t (.ck n)) s) fun u =>
      u.ck n = { s.ck n with formFrom := none } ∧ ∀ k, k ≠ n → u.ck k = s.ck k) ∧
  (∀ (s : State) (t f : Nat) (n : Fin 24), (s.ck n).holdFrom = some f → s.mb.applying = false →
    Completes (exec (.outputHoldEnd t (.ck n)) s) fun u =>
      (u.ck n).holdFrom = none ∧ (u.ck n).aligned = ((s.ck n).enable && (s.dom (s.ck n).domain).running) ∧
      (u.ck n).div = (s.ck n).div ∧ ∀ k, k ≠ n → u.ck k = s.ck k) ∧
  (∀ (s : State) (t f : Nat) (n : Fin 16), (s.pl n).holdFrom = some f → (s.advance t).past f (10 * usU) = true →
    Completes (exec (.outputHoldEnd t (.pl n)) s) fun u => (u.pl n).holdFrom = none ∧ (u.pl n).enable = (s.pl n).enable) ∧
  (∀ (s : State) (t : Nat) (p : Fin 16), (s.dom (s.pl p).domain).running = true → s.kettle.lost = false → (s.pl p).high = true →
      (s.pl p).fallAt ≤ (s.advance t).now →
    Completes (exec (.pulseEdge t p false) s) fun u => (u.pl p).high = false ∧ u.out.doms = s.out.doms) ∧
  (∀ (s : State) (t : Nat) (p : Fin 16), (s.pl p).slewing = true → (s.pl p).phi.natAbs * 1000 ≤ 5 * 65536 →
    Completes (exec (.slewEnd t p) s) fun u => (u.pl p).slewing = false ∧ (u.pl p).slewReq = false ∧ (u.pl p).phi = (s.pl p).phi) ∧
  (∀ (s : State) (t : Nat) (f : Bool) (w : List Nat) (a : SyncArm), s.out.arm = some a → s.out.released = true → a.falling = f →
      (s.advance t).now ≤ a.from_ + a.timeout * msU →
    Completes (exec (.syncInEdge t f w) s) fun u => u.out.arm = none ∧ u.out.syncExpired = s.out.syncExpired) ∧
  (∀ (s : State) (t : Nat) (a : SyncArm), s.out.arm = some a → (s.advance t).past a.from_ (a.timeout * msU) = true →
      (s.advance t).syncComing a = false →
    Completes (exec (.syncArmTimeout t) s) fun u => u.out.arm = none ∧ u.out.syncExpired = true ∧ u.out.ck = s.out.ck) ∧
  (∀ (s : State) (t : Nat) (n : Fin 24), (s.advance t).gates = false → s.pair.hoDone = false → (s.ck n).enable = true → (s.ck n).keep = true →
      handOk ((s.advance t).domAt (s.ck n).domain (s.advance t).now)
        ((s.ck n).dphi + (((s.ck n).phaseAdj * (s.dom (s.ck n).domain).den * secU /
          ((s.dom (s.ck n).domain).k * (s.dom (s.ck n).domain).num) : Nat) : Int))
        (periodOf (s.dom (s.ck n).domain).num ((s.dom (s.ck n).domain).den * (s.ck n).div) / 2 : Nat)
        (s.dom (s.ck n).domain).num ((s.dom (s.ck n).domain).den * (s.ck n).div) = true →
    Completes (exec (.outputHandoff t (.ck n)) s) fun u => (u.ck n).keep = false ∧ ∀ k, k ≠ n → u.ck k = s.ck k)

/-- An edge of a calibrated, enabled pin channel in EDGE mode that the prescaler passes, the first since it came up, enters
the look-back with its kind, its slope and its time, converted on the line then active. With its look-back over and the channel's turn come, the oldest
stamp of the look-back leaves it and takes the next SEQ. The comparator's settling ends after 2 us. In FRAME_LOCK a sync
2 % of a line overdue is counted as missing, the third in a row going to SEARCH. A capture armed or capturing ends DONE
at its DURATION, and no other channel changes (R144, R146, R153, R156, R160, R168). Calibration: the first period pairs
that fit make a channel ready; a swap makes the standby line active with its new pair, and no other channel changes; a
table of 768 bins whose hits come to 2^20 within 5 % is kept for its line and not for the other; a failed pair that fits
after 1 s returns the channel to LIN (R145 to R150, R157). -/
def Obligations.ChannelEvents : Prop :=
  (∀ (s : State) (t : Nat) (ch : Fin 66) (e : EdgeIn), ch.val < 16 → (s.chan ch).enable = true → (s.chan ch).mode ≠ 2 →
      ((s.chan ch).prescale e.falling).2 = true → (s.chan ch).pairOk = true → (s.chan ch).lastEdge = none → (s.chan ch).lookback = [] →
    Completes (exec (.referenceEdge t ch e) s) fun u =>
      ∃ x, (u.chan ch).lookback = [x] ∧ x.kind = 0 ∧ x.falling = e.falling ∧ x.time = (((s.advance t).swapStart ch).convert ch t e.bin).1 ∧
        (u.chan ch).lastEdge = some (((s.advance t).swapStart ch).convert ch t e.bin).2) ∧
  (∀ (s : State) (t : Nat) (ch : Fin 66) (x : Stamp) (l : List Stamp), (((s.advance t).fifo ch).chan ch).lookback = x :: l →
      x.edge + lookU ≤ (s.advance t).now → ((s.advance t).fifo ch).inTurn ch = true →
    Completes (exec (.stampRelease t ch) s) fun u =>
      (u.chan ch).lookback = l ∧ (u.chan ch).seq = ((((s.advance t).fifo ch).chan ch).seq + 1) % 4096) ∧
  (∀ (s : State) (t : Nat) (ch : Fin 66), (s.chan ch).settling = true → (s.advance t).past (s.chan ch).settleAt (2 * usU) = true →
    Completes (exec (.comparatorSettled t ch) s) fun u =>
      u.chan ch = { s.chan ch with settling := false } ∧ ∀ k, k ≠ ch → u.chan k = s.chan k) ∧
  (∀ (s : State) (t : Nat) (ch : Fin 66), (s.chan ch).mode = 2 → (s.chan ch).video = .frameLock →
      (s.chan ch).lineSpan ≤ (((s.advance t).now : Int) - (s.chan ch).syncDue) * 50 → (s.chan ch).videoMiss + 1 < 3 →
    Completes (exec (.videoSyncMissing t ch) s) fun u =>
      (u.chan ch).videoMiss = (s.chan ch).videoMiss + 1 ∧ (u.chan ch).video = .frameLock) ∧
  (∀ (s : State) (t : Nat) (ch : Fin 66), (s.chan ch).mode = 2 → (s.chan ch).video = .frameLock →
      (s.chan ch).lineSpan ≤ (((s.advance t).now : Int) - (s.chan ch).syncDue) * 50 → 3 ≤ (s.chan ch).videoMiss + 1 →
    Completes (exec (.videoSyncMissing t ch) s) fun u => (u.chan ch).video = .search ∧ (u.chan ch).videoMiss = 0) ∧
  (∀ (s : State) (t : Nat) (ch : Fin 66), (s.chan ch).capture.st = .armed ∨ (s.chan ch).capture.st = .capturing →
      (s.chan ch).capture.ended (s.advance t).mt (s.advance t).now = true →
    Completes (exec (.captureDurationEnd t ch) s) fun u =>
      (u.chan ch).capture = { (s.chan ch).capture with st := .done, byDuration := true } ∧ ∀ k, k ≠ ch → u.chan k = s.chan k) ∧
  (∀ (s : State) (t : Nat) (ch : Fin 66) (dIn : Int) (p1 p2 q1 q2 : Nat), s.chanLive ch = true → (s.chan ch).pairOk = false →
      (s.chan ch).cal = .lin → (s.advance t).past (s.chan ch).upAt (20 * usU) = true → pairFits p1 p2 = true → pairFits q1 q2 = true →
    Completes (exec (.channelReady t ch dIn p1 p2 q1 q2) s) fun u =>
      (u.chan ch).pairOk = true ∧ (u.chan ch).p1a = p1 ∧ (u.chan ch).p2a = p2 ∧ (u.chan ch).p1b = q1 ∧ (u.chan ch).p2b = q2) ∧
  (∀ (s : State) (t : Nat) (ch : Fin 66) (p1 p2 : Nat), s.chanLive ch = true → (s.chan ch).pairOk = true → (s.chan ch).cal ≠ .failed →
      pairFits p1 p2 = true →
    Completes (exec (.lineSwap t ch p1 p2) s) fun u =>
      (u.chan ch).line1 = !(s.chan ch).line1 ∧
      (if (u.chan ch).line1 then ((u.chan ch).p1b, (u.chan ch).p2b) else ((u.chan ch).p1a, (u.chan ch).p2a)) = (p1, p2) ∧
      ∀ k, k ≠ ch → u.chan k = s.chan k) ∧
  (∀ (s : State) (t : Nat) (ch : Fin 66) (hits : List Nat), s.chanLive ch = true → hits.length = 768 →
      20 * ((hits.foldl (· + ·) 0 : Nat) - 2 ^ 20 : Int).natAbs ≤ 2 ^ 20 → s.quietFaults = true →
    Completes (exec (.binTableComplete t ch true hits) s) (fun u =>
      (u.chan ch).newB = hits ∧ (u.chan ch).formedB = (s.advance t).now ∧ (u.chan ch).newA = (s.chan ch).newA) ∧
    Completes (exec (.binTableComplete t ch false hits) s) (fun u =>
      (u.chan ch).newA = hits ∧ (u.chan ch).formedA = (s.advance t).now ∧ (u.chan ch).newB = (s.chan ch).newB)) ∧
  (∀ (s : State) (t : Nat) (ch : Fin 66) (p1 p2 : Nat), s.chanLive ch = true → (s.chan ch).cal = .failed →
      (s.advance t).past (s.chan ch).upAt secU = true → pairFits p1 p2 = true →
    Completes (exec (.periodPairRetry t ch p1 p2) s) fun u => (u.chan ch).cal = .lin ∧ (u.chan ch).pairOk = true)

/-- The deferred measurements end: no start edge within START_WAIT and the look-back, before any attempt was made, is a
TIMEOUT and drops the interval; a window that has shut, without a step of the Metronome in it and with attempts left,
counts the attempt and a timeout and waits for the next start; a gate that is over with its look-back answers OK with
three stamps or more, is a TIMEOUT with fewer, and is dropped (R146, R173, R174, R192). -/
def Obligations.DeferredMeasurementsEnd : Prop :=
  (∀ (s : State) (t : Nat) (i : Fin 48) (v : Interval), (s.advance t).ivOf i = some v → v.cur = none → v.done = 0 →
      (s.advance t).past v.waitFrom (v.startWait * msU + lookU) = true →
    Completes (exec (.intervalStartTimeout t i) s) fun u => u.heldFail i (timeoutF 0x0006) (s.tag i).acceptedStaged ∧ u.ivOf i = none) ∧
  (∀ (s : State) (t : Nat) (i : Fin 48) (v : Interval) (x : Stamp), (s.advance t).ivOf i = some v → v.cur = some x →
      v.stepped = false → (s.advance t).windowShut v x = true → v.done + 1 < v.attempts →
    Completes (exec (.intervalWindowClose t i) s) fun u =>
      ∃ w, u.ivOf i = some w ∧ w.cur = none ∧ w.done = v.done + 1 ∧ w.timeouts = v.timeouts + 1 ∧ w.results = v.results) ∧
  (∀ (s : State) (t : Nat) (i : Fin 48) (g : FreqGate), (s.advance t).meas.freqs.find? (fun g => decide (g.tag = i)) = some g →
      (g.start + g.gate * msU + lookU : Nat) ≤ ((s.advance t).mt : Int) - g.stepSum →
    Completes (exec (.freqGateEnd t i) s) fun u =>
      (3 ≤ g.acc.n → (u.tag i).st = .held ∧ (u.tag i).status = stOk) ∧ (g.acc.n < 3 → u.heldFail i (timeoutF 0x0009) (s.tag i).acceptedStaged) ∧
      u.meas.freqs.find? (fun g => decide (g.tag = i)) = none)

/-- A candidate whose last activity is older than its limit loses activity; one whose condition has held for 1 s gains it
and begins a frequency window; a window that is over without a verdict is counted as one; a phase discontinuity clears
after its hold with activity; a history whose gap is older than a day is dropped, and no other candidate's; the end of
wait-to-restore leaves RESTORING (R199 to R209). -/
def Obligations.QualificationEvents : Prop :=
  (∀ (s : State) (t p a : Nat) (r : Fin 66), (s.advance t).actSpan r = some p → ((s.advance t).cand r).lastAt = some a →
      ((s.advance t).cand r).act = true → a + p ≤ (s.advance t).now →
    Completes (exec (.activityLoss t r) s) fun u => (u.cand r).act = false) ∧
  (∀ (s : State) (t f : Nat) (r : Fin 66), ((s.advance t).cand r).condFrom = some f → ((s.advance t).cand r).act = false →
      ((s.advance t).cand r).st ≠ .off → (s.advance t).actByCond r = true → (s.advance t).actCond r = true →
      (s.advance t).past f secU = true →
    Completes (exec (.activityConditionHeld t r) s) fun u => (u.cand r).act = true ∧ (u.cand r).winFrom = some (s.advance t).now) ∧
  (∀ (s : State) (t f : Nat) (r : Fin 66), ((s.advance t).cand r).winFrom = some f → (s.advance t).past f ((s.advance t).fmLen r) = true →
      ((s.advance t).cand r).act = true → (s.advance t).windowOk r = false →
    Completes (exec (.freqWindowEnd t r) s) fun u =>
      (u.cand r).noVerdict = true ∧ (u.cand r).noVerdicts = satU 16 (((s.advance t).cand r).noVerdicts + 1) ∧
      (u.cand r).winFrom = some (f + (s.advance t).fmLen r)) ∧
  (∀ (s : State) (t f : Nat) (r : Fin 66), ((s.advance t).cand r).discFrom = some f → ((s.advance t).cand r).phaseDisc = true →
      ((s.advance t).cand r).act = true → (s.advance t).past f (((s.advance t).cand r).holdS * secU) = true →
    Completes (exec (.phaseDiscClear t r) s) fun u => (u.cand r).phaseDisc = false) ∧
  (∀ (s : State) (t f : Nat) (r : Fin 66), ((s.advance t).cand r).gapFrom = some f → f + 86400 * secU < (s.advance t).now →
    Completes (exec (.phaseHistoryDiscard t r) s) fun u =>
      (u.cand r).hist = [] ∧ (u.cand r).gapFrom = none ∧ ∀ k, k ≠ r → u.cand k = (s.advance t).cand k) ∧
  (∀ (s : State) (t f : Nat) (r : Fin 66), ((s.advance t).cand r).wtrFrom = some f → ((s.advance t).cand r).st = .restoring →
      (s.advance t).past f (((s.advance t).cand r).wtrTime * secU) = true →
    Completes (exec (.wtrEnd t r) s) fun u => (u.cand r).st ≠ .restoring)

/-- An evaluation that is due: with no switch in progress, the reference it wants stays when it is the current one,
begins a switch to it in MEASURE when it is another, and without one a DPLL with a current reference holds over; during a
switch the evaluation is put off (R231, R233). MEASURE with an offset goes on in HANDOVER with the target as current
reference and the offset kept; with the target lost it goes on in HANDOVER, the loss kept. HANDOVER with the target not
lost goes on in SETTLE after 1 ms, the current reference kept and the lock time begun afresh, outside a standby role.
SETTLE ends after 10 s with SETTLE_TIMEOUT, no target, and an evaluation due, while no ENABLE 0 waits and the current
reference is not OFF (R235 to R239). Steering or slewing ends once the build-out is 0; PULL_LIMITED for 1 s in LOCKED, with
no switch or in SETTLE, makes that DPLL ACQUIRING and no other; a schedule step whose dwell is over gives way to the next
or, as the last, to the final bandwidth, and the schedule stays (R244, R264, R267). -/
def Obligations.SwitchAndLoopEvents : Prop :=
  (∀ (s : State) (t : Nat) (d : Fin 8) (r : Fin 66), (s.dpll d).evalDue = true → (s.advance t).canEval d = true → (s.dpll d).sw = .none →
      (s.advance t).want d none = some r →
    Completes (exec (.evaluation t d) s) fun u =>
      (u.dpll d).evalDue = false ∧ (u.dpll d).cur = (s.dpll d).cur ∧
      ((s.dpll d).cur = some r → (u.dpll d).sw = .none) ∧
      ((s.dpll d).cur ≠ some r → (u.dpll d).sw = .measure ∧ (u.dpll d).target = some r ∧ (u.dpll d).phFrom = (s.advance t).now)) ∧
  (∀ (s : State) (t : Nat) (d : Fin 8), (s.dpll d).evalDue = true → (s.advance t).canEval d = true → (s.dpll d).sw = .none →
      (s.advance t).want d none = none → (s.dpll d).cur ≠ none →
    Completes (exec (.evaluation t d) s) fun u => (u.dpll d).evalDue = false ∧ (u.dpll d).dstate = .holdover ∧ (u.dpll d).cur = none) ∧
  (∀ (s : State) (t : Nat) (d : Fin 8), (s.dpll d).evalDue = true → (s.advance t).canEval d = true → (s.dpll d).sw ≠ .none →
    Completes (exec (.evaluation t d) s) fun u =>
      (u.dpll d).evalDue = false ∧ (u.dpll d).pendingEval = true ∧ (u.dpll d).sw = (s.dpll d).sw ∧ (u.dpll d).cur = (s.dpll d).cur) ∧
  (∀ (s : State) (t : Nat) (d : Fin 8) (r : Fin 66) (o : Int), (s.dpll d).sw = .measure → (s.dpll d).target = some r →
      (s.dpll d).swLost = false → (s.advance t).measured d r = some o → (s.advance t).past (s.dpll d).phFrom (64 * msU) = true →
    Completes (exec (.measureEnd t d) s) fun u =>
      (u.dpll d).sw = .handover ∧ (u.dpll d).cur = some r ∧ (u.dpll d).swO = o ∧ (u.dpll d).phFrom = (s.advance t).now) ∧
  (∀ (s : State) (t : Nat) (d : Fin 8) (r : Fin 66), (s.dpll d).sw = .measure → (s.dpll d).target = some r →
      (s.dpll d).swLost = true → (s.advance t).past (s.dpll d).phFrom (64 * msU) = true →
    Completes (exec (.measureEnd t d) s) fun u => (u.dpll d).sw = .handover ∧ (u.dpll d).swLost = true) ∧
  (∀ (s : State) (t : Nat) (d : Fin 8), (s.dpll d).sw = .handover → (s.dpll d).swLost = false → s.pair.role ≠ .standby →
      (s.advance t).past (s.dpll d).phFrom msU = true →
    Completes (exec (.handoverEnd t d) s) fun u =>
      (u.dpll d).sw = .settle ∧ (u.dpll d).phFrom = (s.advance t).now ∧ (u.dpll d).cur = (s.dpll d).cur ∧ (u.dpll d).lockFrom = none) ∧
  (∀ (s : State) (t : Nat) (d : Fin 8), (s.dpll d).sw = .settle → (s.dpll d).offDue = false →
      (∀ r, (s.dpll d).cur = some r → ((s.advance t).cand r).st ≠ .off) → (s.advance t).past (s.dpll d).phFrom (10 * secU) = true →
    Completes (exec (.settleTimeout t d) s) fun u =>
      (u.dpll d).sw = .none ∧ (u.dpll d).lastOutcome = 2 ∧ (u.dpll d).target = none ∧ (u.dpll d).evalDue = true ∧
      (u.dpll d).cur = (s.dpll d).cur) ∧
  (∀ (s : State) (t : Nat) (d : Fin 8), ((s.advance t).dpll d).steering = true ∨ ((s.advance t).dpll d).slewing = true →
      ((s.advance t).dpll d).buildOut = 0 →
    Completes (exec (.steeringEnd t d) s) fun u =>
      (u.dpll d).steering = false ∧ (u.dpll d).slewing = false ∧ (u.dpll d).buildOut = 0) ∧
  (∀ (s : State) (t : Nat) (d : Fin 8), ((s.advance t).dpll d).pullLimited = true → (s.dpll d).dstate = .locked →
      (s.dpll d).sw = .none ∨ (s.dpll d).sw = .settle → (s.advance t).past ((s.advance t).dpll d).pullFrom secU = true →
    Completes (exec (.pullLimitedTimeout t d) s) fun u =>
      (u.dpll d).dstate = .acquiring ∧ ∀ k, k ≠ d → (u.dpll k).dstate = (s.dpll k).dstate) ∧
  (∀ (s : State) (t bw w : Nat) (d : Fin 8), ((s.advance t).dpll d).steps[((s.advance t).dpll d).stepIdx]? = some (bw, w) →
      w * secU ≤ ((s.advance t).dpll d).dwell →
    Completes (exec (.scheduleStepEnd t d) s) fun u =>
      (u.dpll d).stepIdx = (if ((s.advance t).dpll d).stepIdx + 1 < ((s.advance t).dpll d).steps.length
        then ((s.advance t).dpll d).stepIdx + 1 else 8) ∧ (u.dpll d).dwell = 0 ∧ (u.dpll d).steps = (s.dpll d).steps)

/-- A MEASURING lane with no block reset in hand goes DOWN once 3.5 ms have passed, with the delays measured; block lock takes a
DOWN lane UP, its loss an UP lane DOWN (R343); a delay check due on an UP lane that is within the limit leaves its
delay, and the adaptation keeps its margin and time (R345, R515, R516). On an UP lane: an ESMC PDU with the lane's tag
sets the QL and ends the timeout where ESMC is received, and 5 s without one set it; the next queued host frame is
sent; with HOST_COPY and room in the host queue a management message and an ARP or NDP frame go to it; a request for
the port's own address is answered, an answer to its own request resolves the address, a group query is answered for
each group joined; another frame leaves the queue and the lanes as they are (R364 to R366). -/
def Obligations.LaneEvents : Prop :=
  (∀ (s : State) (t tx rx : Nat) (l : Fin 48), (s.lane l).lstate = .measuring → (s.lane l).held = none →
      (s.advance t).past (s.lane l).measFrom (3500 * usU) = true →
    Completes (exec (.laneMeasuringEnd t l tx rx) s) fun u =>
      (u.lane l).lstate = .down ∧ (u.lane l).txDelay = satU 32 tx ∧ (u.lane l).rxDelay = satU 32 rx ∧
      (u.chan (linkChan l)).dIn = ofPs rx ∧ ∀ k, k ≠ l → u.lane k = s.lane k) ∧
  (∀ (s : State) (t : Nat) (l : Fin 48), (s.lane l).lstate = .down →
    Completes (exec (.blockLockGained t l) s) fun u => (u.lane l).lstate = .up ∧ (u.lane l).foreign = []) ∧
  (∀ (s : State) (t : Nat) (l : Fin 48), (s.lane l).lstate = .up →
    Completes (exec (.blockLockLost t l) s) fun u => (u.lane l).lstate = .down ∧ (u.lane l).parentId = 0) ∧
  (∀ (s : State) (t tx : Nat) (l : Fin 48), s.loopbackBusy = false → s.rolls = true → (s.lane l).lstate = .up →
      (s.advance t).past (s.lane l).checkAt (600 * secU) = true → ((tx : Int) - (s.lane l).txDelay).natAbs ≤ 50 →
    Completes (exec (.laneDelay t (some l) tx) s) fun u =>
      (u.lane l).checkAt = (s.advance t).now ∧ (u.lane l).txDelay = (s.lane l).txDelay) ∧
  (∀ (s : State) (t m : Nat) (l : Fin 48), (s.lane l).lstate = .up → s.rolls = true →
    Completes (exec (.serdesAdapt t l m) s) fun u =>
      (u.lane l).eyeMargin = satU 16 m ∧ (u.lane l).adaptAt = (s.advance t).now ∧ ∀ k, k ≠ l → u.lane k = s.lane k) ∧
  (∀ (s : State) (t : Nat) (l : Fin 48) (vlan : Option Nat) (ql : BitVec 4), (s.lane l).lstate = .up →
      (s.lane l).tagOk vlan = true → (s.lane l).esmcRx = true →
    Completes (exec (.rxEsmc t l vlan ql) s) fun u => (u.lane l).rxQl = ql.toNat ∧ (u.lane l).esmcTimeout = false) ∧
  (∀ (s : State) (t : Nat) (l : Fin 48), (s.lane l).esmcRx = true → (s.lane l).esmcTimeout = false →
      (s.advance t).past (s.lane l).esmcAt (5 * secU) = true →
    Completes (exec (.esmcTimeout t l) s) fun u => (u.lane l).esmcTimeout = true ∧ (u.lane l).rxQl = 15) ∧
  (∀ (s : State) (t : Nat) (l : Fin 48) (b : List (BitVec 8)) (q : List (List (BitVec 8))), (s.lane l).lstate = .up →
      (s.lane l).sendQ = b :: q →
    Completes (exec (.hostFrameSend t l) s) fun u => (u.lane l).sent = [({ msg := .host b } : TxFrame)] ∧ (u.lane l).sendQ = q) ∧
  (∀ (s r : State) (t : Nat) (l : Fin 48) (h : MsgHdr) (b : List (BitVec 8)), ((s.advance t).promote l).receive l h = (r, true) →
      (s.lane l).hostCopy = true → s.ptp.hostQ.length < 32 →
    Completes (exec (.rxManagement t l h b) s) fun u =>
      u.ptp.hostQ = s.ptp.hostQ ++ [{ lane := l, at_ := (s.advance t).mt, bytes := b.take 1522 }] ∧ u.hif.chimeStatus.getLsbD 13 = true) ∧
  (∀ (s : State) (t : Nat) (l : Fin 48) (vlan ans : Option Nat) (b : List (BitVec 8)), (s.lane l).lstate = .up →
      (s.lane l).tagOk vlan = true →
    Completes (exec (.rxArpNdp t l vlan true ans b) s) fun u =>
      (u.lane l).sent = [({ msg := .answer, vlan := (s.lane l).tag } : TxFrame)] ∧ u.ptp.hostQ = s.ptp.hostQ) ∧
  (∀ (s : State) (t a : Nat) (l : Fin 48) (vlan : Option Nat) (b : List (BitVec 8)), (s.lane l).lstate = .up →
      (s.lane l).tagOk vlan = true → a ∈ (s.lane l).resolving →
    Completes (exec (.rxArpNdp t l vlan false (some a) b) s) fun u =>
      (u.lane l).resolved = (s.lane l).resolved ++ [a] ∧ a ∉ (u.lane l).resolving) ∧
  (∀ (s : State) (t : Nat) (l : Fin 48) (vlan : Option Nat) (b : List (BitVec 8)), (s.lane l).lstate = .up →
      (s.lane l).tagOk vlan = true → (s.lane l).hostCopy = true → s.ptp.hostQ.length < 32 →
    Completes (exec (.rxArpNdp t l vlan false none b) s) fun u =>
      u.ptp.hostQ = s.ptp.hostQ ++ [{ lane := l, at_ := (s.advance t).mt, bytes := b.take 1522 }]) ∧
  (∀ (s : State) (t : Nat) (l : Fin 48) (vlan : Option Nat), (s.lane l).lstate = .up → (s.lane l).tagOk vlan = true →
    Completes (exec (.rxIgmpMld t l vlan true) s) fun u =>
      (u.lane l).sent = (s.lane l).joined.map fun a => { msg := .join a, vlan := (s.lane l).tag }) ∧
  (∀ (s : State) (t : Nat) (l : Fin 48), (s.lane l).lstate = .up →
    Completes (exec (.rxOtherFrame t l) s) fun u => u.ptp.hostQ = s.ptp.hostQ ∧ ∀ k, u.lane k = s.lane k)

/-- Sync from the port's parent, solicited if unicast, with the stamp of its arrival valid: a one-step Sync gives T1, its origin with
its correction, and T2, the arrival; a two-step one waits with its stamp, sequence number and correction, and the
Follow_Up of that number gives T1 and T2. A delay response of the parent to the port's own request ends that exchange;
a two-step peer-delay response keeps T4 and T2 until its Follow_Up, which ends the exchange (R352). With the engine not suspended a MASTER port
with end-to-end delay answers a multicast Delay_Req with its arrival and the correction less ASYMMETRY, and a port with peer delay answers a
Pdelay_Req in one step or in two (R348, R354). -/
def Obligations.SyncAndDelayMessages : Prop :=
  (∀ (s r : State) (t origin : Nat) (l : Fin 48) (h : MsgHdr) (e : Stamp), ((s.advance t).promote l).receive l h = (r, true) →
      r.unsolicited l h .sync = false → (s.lane l).fromParent h = true → s.evAt l h.rx = some e → e.invalid = false →
    Completes (exec (.rxSync t l h false origin) s) fun u =>
      (u.lane l).t1 = some (origin + h.corr) ∧ (u.lane l).t2 = s.nowTime e ∧ (u.lane l).fu = none) ∧
  (∀ (s r : State) (t origin : Nat) (l : Fin 48) (h : MsgHdr) (e : Stamp), ((s.advance t).promote l).receive l h = (r, true) →
      r.unsolicited l h .sync = false → (s.lane l).fromParent h = true → s.evAt l h.rx = some e → e.invalid = false →
    Completes (exec (.rxSync t l h true origin) s) fun u =>
      (u.lane l).fu = some e ∧ (u.lane l).syncSeq = h.seq ∧ (u.lane l).syncCorr = h.corr ∧
      (u.lane l).offset = (s.lane l).offset) ∧
  (∀ (s r : State) (t origin : Nat) (l : Fin 48) (h : MsgHdr) (e : Stamp), ((s.advance t).promote l).receive l h = (r, true) →
      r.unsolicited l h .sync = false → (s.lane l).fromParent h = true → (s.lane l).fu = some e → (s.lane l).syncSeq = h.seq →
    Completes (exec (.rxFollowUp t l h origin) s) fun u =>
      (u.lane l).t1 = some (origin + h.corr + (s.lane l).syncCorr) ∧ (u.lane l).t2 = s.nowTime e ∧ (u.lane l).fu = none) ∧
  (∀ (s r : State) (t t4 id port : Nat) (l : Fin 48) (h : MsgHdr) (a b : Int), ((s.advance t).promote l).receive l h = (r, true) →
      s.peer l = false → (s.lane l).fromParent h = true → s.answers l h id port = true → (s.lane l).t1 = some a → (s.lane l).t3 = some b →
    Completes (exec (.rxDelayResp t l h t4 id port) s) fun u => (u.lane l).t3 = none ∧ (u.lane l).t1 = some a) ∧
  (∀ (s r : State) (t t2 id port : Nat) (l : Fin 48) (h : MsgHdr) (a : Int) (e : Stamp), ((s.advance t).promote l).receive l h = (r, true) →
      s.peer l = true → s.answers l h id port = true → (s.lane l).t3 = some a → s.evAt l h.rx = some e → e.invalid = false →
    Completes (exec (.rxPdelayResp t l h true t2 id port) s) fun u =>
      (u.lane l).pdT4 = some (s.nowTime e) ∧ (u.lane l).pdT2 = (t2 : Int) - h.corr ∧ (u.lane l).t3 = some a) ∧
  (∀ (s r : State) (t t3 id port : Nat) (l : Fin 48) (h : MsgHdr) (a b : Int), ((s.advance t).promote l).receive l h = (r, true) →
      s.peer l = true → s.answers l h id port = true → (s.lane l).t3 = some a → (s.lane l).pdT4 = some b →
    Completes (exec (.rxPdelayRespFollowUp t l h t3 id port) s) fun u => (u.lane l).t3 = none ∧ (u.lane l).pdT4 = none) ∧
  (∀ (s r : State) (t : Nat) (l : Fin 48) (h : MsgHdr) (e : Stamp), ((s.advance t).promote l).receive l h = (r, true) → s.peer l = false →
      (s.lane l).pstate = 6 → h.unicast = false → r.suspended l = false → r.ptp.clients = [] → s.evAt l h.rx = some e → e.invalid = false →
    Completes (exec (.rxDelayReq t l h) s) fun u =>
      (u.lane l).sent.map (·.msg) = [.delayResp h.seq e.time (h.corr - (s.lane l).asym) h.id h.port] ∧ ∀ k, k ≠ l → u.lane k = s.lane k) ∧
  (∀ (s r : State) (t : Nat) (l : Fin 48) (h : MsgHdr) (e : Stamp), ((s.advance t).promote l).receive l h = (r, true) → s.peer l = true →
      r.suspended l = false → (s.lane l).twoStep = false → s.evAt l h.rx = some e → e.invalid = false →
    Completes (exec (.rxPdelayReq t l h) s) fun u =>
      (u.lane l).sent.map (·.msg) = [.pdelayResp h.seq false e.time (h.corr + ((r.mt : Int) - s.nowTime e)) h.id h.port]) ∧
  (∀ (s r : State) (t : Nat) (l : Fin 48) (h : MsgHdr) (e : Stamp), ((s.advance t).promote l).receive l h = (r, true) → s.peer l = true →
      r.suspended l = false → (s.lane l).twoStep = true → s.evAt l h.rx = some e → e.invalid = false →
    Completes (exec (.rxPdelayReq t l h) s) fun u =>
      (u.lane l).sent.map (·.msg) = [.pdelayResp h.seq true e.time 0 h.id h.port, .pdelayRespFollowUp h.seq r.mt h.corr h.id h.port])

/-- Announce: one from the port's own clock changes neither its foreign masters nor, out of PRE_MASTER, its state; a multicast one from another clock becomes the
first foreign master of a port that is not MASTER_ONLY and has no acceptance list; the only one ages out after 4
Announce intervals (R349, R361). An UP port without foreign masters whose announceReceiptTimeout passes goes from
LISTENING to MASTER unless SLAVE_ONLY, and a SLAVE_ONLY port from SLAVE to LISTENING without a parent (R349, R353).
Time activity ends once its conditions fail (R353). -/
def Obligations.AnnounceMessages : Prop :=
  (∀ (s r : State) (t : Nat) (l : Fin 48) (h : MsgHdr) (a : AnnData), ((s.advance t).promote l).receive l h = (r, true) → h.id = s.ptp.clockId →
    Completes (exec (.rxAnnounce t l h a) s) fun u =>
      (u.lane l).foreign = (s.lane l).foreign ∧ ((s.lane l).pstate ≠ 5 → (u.lane l).pstate = (s.lane l).pstate)) ∧
  (∀ (s r : State) (t : Nat) (l : Fin 48) (h : MsgHdr) (a : AnnData), ((s.advance t).promote l).receive l h = (r, true) → h.id ≠ s.ptp.clockId →
      (s.lane l).acceptN = 0 → h.unicast = false → (s.lane l).role ≠ 2 → (s.lane l).foreign = [] → 0 < (s.lane l).fmMax →
    Completes (exec (.rxAnnounce t l h a) s) fun u => (u.lane l).foreign = [foreignOf h a (s.advance t).now 1]) ∧
  (∀ (s : State) (t : Nat) (l : Fin 48) (f : Foreign), (s.lane l).foreign = [f] →
      (s.advance t).past f.last (4 * logU s.ptp.annLog) = true →
    Completes (exec (.foreignMasterAgeout t l f.id f.port) s) fun u => (u.lane l).foreign = []) ∧
  (∀ (s : State) (t : Nat) (l : Fin 48), s.portUp l = true → (s.lane l).pstate = 9 → (s.lane l).role = 3 → (s.lane l).foreign = [] →
      (s.advance t).past (s.lane l).annAt (s.ptp.annTimeout * logU s.ptp.annLog) = true →
    Completes (exec (.announceReceiptTimeout t l) s) fun u => (u.lane l).pstate = 4 ∧ (u.lane l).parentId = 0) ∧
  (∀ (s : State) (t : Nat) (l : Fin 48), s.portUp l = true → (s.lane l).pstate = 4 → (s.lane l).role ≠ 3 → (s.lane l).foreign = [] →
      (s.advance t).past (s.lane l).annAt (s.ptp.annTimeout * logU s.ptp.annLog) = true →
    Completes (exec (.announceReceiptTimeout t l) s) fun u => (u.lane l).pstate = 6) ∧
  (∀ (s : State) (t : Nat) (l : Fin 48), (s.lane l).timeAct = true → (s.advance t).timeActNow l = false →
    Completes (exec (.timeActivityTimeout t l) s) fun u => (u.lane l).timeAct = false)

/-- Unicast negotiation, expired grants having lapsed first: a request that nothing denies is granted for at most
MAX_GRANT and answered, a denied one is answered with duration 0; a cancel is acknowledged and, not from one of the
port's own masters, ends the client's grant of that kind; an acknowledged cancel changes no grant; a grant received from a master of the port is held
to its end and drops its retry; the grant of the only client frees at its expiry. Every answer takes the next sequence number of the port's
Signaling stream (R354 to R357). -/
def Obligations.UnicastNegotiation : Prop :=
  (∀ (s r : State) (t dur : Nat) (l : Fin 48) (h : MsgHdr) (k : GrantKind) (lg : Int), ((s.advance t).promote l).receive l h = (r, true) →
      r.lapseAll.denies l h k lg = true →
    Completes (exec (.rxRequestUnicast t l h k lg dur) s) fun u => (u.lane l).sent.map (·.msg) = [.grant (s.lane l).seqSig h.addr k lg 0] ∧ (u.lane l).seqSig = seqNext (s.lane l).seqSig) ∧
  (∀ (s r : State) (t dur : Nat) (l : Fin 48) (h : MsgHdr) (k : GrantKind) (lg : Int), ((s.advance t).promote l).receive l h = (r, true) →
      r.lapseAll.denies l h k lg = false →
    Completes (exec (.rxRequestUnicast t l h k lg dur) s) fun u =>
      (u.lane l).sent.map (·.msg) = [.grant (s.lane l).seqSig h.addr k lg (min dur (s.lane l).maxGrant)] ∧
      (u.lane l).seqSig = seqNext (s.lane l).seqSig ∧
      ∃ c ∈ u.ptp.clients, c.isOf l h = true ∧ (c.grant k).on = true ∧ (c.grant k).log = lg ∧
        (c.grant k).endsAt = (s.advance t).now + min dur (s.lane l).maxGrant * secU) ∧
  (∀ (s r : State) (t : Nat) (l : Fin 48) (h : MsgHdr) (k : GrantKind), ((s.advance t).promote l).receive l h = (r, true) →
    Completes (exec (.rxCancelUnicast t l h k) s) fun u =>
      (u.lane l).sent.map (·.msg) = [.ackCancel (s.lane l).seqSig h.addr k] ∧ (u.lane l).seqSig = seqNext (s.lane l).seqSig ∧
      ((s.lane l).umOf h.addr = none → ∀ c ∈ u.ptp.clients, c.isOf l h = true → (c.grant k).on = false)) ∧
  (∀ (s r : State) (t : Nat) (l : Fin 48) (h : MsgHdr) (k : GrantKind), ((s.advance t).promote l).receive l h = (r, true) →
    exec (.rxAcknowledgeCancel t l h k) s = .next r.commit ∧
    Completes (exec (.rxAcknowledgeCancel t l h k) s) fun u => u.ptp.clients = s.ptp.clients ∧ (u.lane l).umGrant = (s.lane l).umGrant) ∧
  (∀ (s r : State) (t dur m : Nat) (l : Fin 48) (h : MsgHdr) (k : GrantKind) (lg : Int), ((s.advance t).promote l).receive l h = (r, true) →
      (s.lane l).umOf h.addr = some m → dur ≠ 0 →
    Completes (exec (.rxGrantUnicast t l h k lg dur) s) fun u =>
      (umKey m k, (s.advance t).now + dur * secU) ∈ (u.lane l).umGrant ∧ ∀ g ∈ (u.lane l).umRetry, g.1 ≠ umKey m k) ∧
  (∀ (s : State) (t slot : Nat) (k : GrantKind) (c : Client), s.ptp.clients = [c] → c.slot = slot → (c.grant k).on = true →
      (c.grant k).endsAt ≤ (s.advance t).now →
    Completes (exec (.grantExpiry t slot k) s) fun u => ∀ y ∈ u.ptp.clients, (y.grant k).on = false)

/-- Messages an UP port sends of itself, each once its interval has passed: as a multicast MASTER its Sync, with a
Follow_Up where two-step, unless Syncs are held, and its Announce unless the pair keeps it quiet; in SLAVE its Delay_Req where allowed
(with end-to-end delay); its Pdelay_Req with peer delay, T3 being the departure (R352, R354); a request to a master of which it holds neither grant nor denial, and
the retry of a denial after 16 s, ahead of which it resolves an unresolved address over UDP (R357, R364); under the
SMPTE profile the MASTER's metadata message (R369); and on an UP lane with ESMC its PDU each second, tagged as the lane is, an
event PDU where the QL has changed (R366). -/
def Obligations.PortsSendAtTheirIntervals : Prop :=
  (∀ (s : State) (t : Nat) (l : Fin 48), s.portUp l = true → (s.lane l).pstate = 6 → (s.advance t).syncHeld l = false →
      (s.lane l).multicast = true → (s.advance t).past (s.lane l).lastSync (logU s.ptp.syncLog) = true →
    Completes (exec (.syncTx t l none) s) fun u =>
      (u.lane l).sent.map (·.msg) = (s.advance t).syncMsgs l (s.lane l).seqSync ∧ (u.lane l).seqSync = seqNext (s.lane l).seqSync ∧
      (u.lane l).lastSync = (s.advance t).now) ∧
  (∀ (s : State) (t : Nat) (l : Fin 48), s.portUp l = true → (s.lane l).pstate = 6 → s.portQuiet l = false →
      (s.lane l).multicast = true → (s.advance t).past (s.lane l).lastAnn (logU s.ptp.annLog) = true →
    Completes (exec (.announceTx t l none) s) fun u =>
      (u.lane l).sent.map (·.msg) = [.announce (s.lane l).seqAnn (s.advance t).announced] ∧ (u.lane l).seqAnn = seqNext (s.lane l).seqAnn) ∧
  (∀ (s : State) (t : Nat) (l : Fin 48), s.portUp l = true → s.peer l = false → (s.lane l).pstate = 9 →
      (s.advance t).past (s.lane l).lastReq (logU s.ptp.delayLog) = true → (s.advance t).delayAllowed l = true →
    Completes (exec (.delayReqTx t l) s) fun u =>
      (u.lane l).sent.map (·.msg) = [.delayReq (s.lane l).seqReq] ∧ (u.lane l).t3 = some ((s.advance t).mt : Int) ∧
      (u.lane l).seqReq = seqNext (s.lane l).seqReq) ∧
  (∀ (s : State) (t : Nat) (l : Fin 48), s.portUp l = true → s.peer l = true →
      (s.advance t).past (s.lane l).lastReq (logU s.ptp.delayLog) = true →
    Completes (exec (.pdelayReqTx t l) s) fun u =>
      (u.lane l).sent.map (·.msg) = [.pdelayReq (s.lane l).seqReq] ∧ (u.lane l).t3 = some ((s.advance t).mt : Int)) ∧
  (∀ (s : State) (t : Nat) (l : Fin 48) (m : Fin 2) (k : GrantKind), s.portUp l = true → m.val < (s.lane l).umUsed →
      (s.lane l).umGrant = [] → (s.lane l).umRetry = [] → (s.lane l).transport = 0 →
    Completes (exec (.grantRenewal t l m k) s) fun u =>
      (u.lane l).sent.map (·.msg) = [.request (s.lane l).seqSig ((s.lane l).masters.getD m.val 0) k (s.profLog k) (s.lane l).maxGrant]) ∧
  (∀ (s : State) (t : Nat) (l : Fin 48) (m : Fin 2) (k : GrantKind), s.portUp l = true → m.val < (s.lane l).umUsed →
      (s.lane l).umGrant = [] → (s.lane l).umRetry = [] → (s.lane l).transport ≠ 0 →
      (s.lane l).masters.getD m.val 0 ∉ (s.lane l).resolved →
    Completes (exec (.grantRenewal t l m k) s) fun u =>
      (u.lane l).sent.map (·.msg) = [.resolve ((s.lane l).masters.getD m.val 0),
        .request (s.lane l).seqSig ((s.lane l).masters.getD m.val 0) k (s.profLog k) (s.lane l).maxGrant] ∧
      (s.lane l).masters.getD m.val 0 ∈ (u.lane l).resolving) ∧
  (∀ (s : State) (t f : Nat) (l : Fin 48) (m : Fin 2) (k : GrantKind), s.portUp l = true → m.val < (s.lane l).umUsed →
      (s.lane l).umRetry = [(umKey m.val k, f)] → (s.advance t).past f (16 * secU) = true →
      (s.lane l).transport ≠ 0 → (s.lane l).masters.getD m.val 0 ∈ (s.lane l).resolved →
    Completes (exec (.grantDenialRetry t l m k) s) fun u =>
      (u.lane l).sent.map (·.msg) = [.request (s.lane l).seqSig ((s.lane l).masters.getD m.val 0) k (s.profLog k) (s.lane l).maxGrant] ∧ (u.lane l).umRetry = []) ∧
  (∀ (s : State) (t : Nat) (l : Fin 48), s.portUp l = true → s.ptp.profile = 2 → s.ptp.smEn = true → (s.lane l).pstate = 6 →
      (s.advance t).past (s.lane l).lastMeta (logU s.ptp.smLog) = true →
    Completes (exec (.metadataTlvTx t l) s) fun u =>
      (u.lane l).sent.length = 1 ∧ (u.lane l).seqMgmt = seqNext (s.lane l).seqMgmt ∧ (u.lane l).lastMeta = (s.advance t).now) ∧
  (∀ (s : State) (t : Nat) (l : Fin 48), (s.lane l).lstate = .up → (s.lane l).esmcTx = true → (s.advance t).past (s.lane l).esmcSent secU = true →
    Completes (exec (.esmcInfoTx t l) s) fun u =>
      (u.lane l).sent = [({ msg := .esmc (decide ((s.advance t).qlOut l ≠ (s.lane l).txQl)) ((s.advance t).qlOut l), vlan := (s.lane l).tag } : TxFrame)] ∧
      (u.lane l).txQl = (s.advance t).qlOut l ∧ (u.lane l).esmcSent = (s.advance t).now)

/-- The receiver: START ends in SEARCH with its group delays; an acquired signal that it can track is tracked, and with a solution leaves
SEARCH for TIMING or NAV; once an L1 C/A signal is found another L1 signal is not acquired cold, nor an L5 one
without its satellite's L1 signal within 10 s; a lost signal is tracked no more; 10 s without satellites lead from TIMING to SEARCH, and in SEARCH a mark is not valid
(R380, R383, R386); enough clean seconds end a spoof alarm that does not latch; a front-end fault is recorded
(R395, R457). With the supply supervised and driven: below 2 mA OPEN, with its chime, 2 to 100 mA NORMAL, a
short SHORT at 120 mA; after 10 ms of it the supply is off and after 1 s driven again (R382). A survey with
60 positions or more ends in their mean as the fixed position, one with fewer in a TIMEOUT; a capture that is over is
held and answered; its processing within 20 s answers the position or 15 zero words, later a TIMEOUT (R390, R398, R399, R405,
R406). -/
def Obligations.ReceiverEvents : Prop :=
  (∀ (s : State) (t : Nat) (g : GroupDelay), s.gnss.rstate = .start →
    Completes (exec (.receiverStartDone t g) s) fun u => u.gnss.rstate = .search ∧ u.gnss.group = some g) ∧
  (∀ (s : State) (t : Nat) (x : GnssTrack), s.gnss.rstate = .search → (s.advance t).gnssSweep.canTrack x = true →
    Completes (exec (.acquisitionFound t x true) s) fun u =>
      u.gnss.rstate = (if s.gnss.fixedNow then .timing else .nav) ∧
      u.gnss.tracks = (s.advance t).gnssSweep.gnss.tracks ++ [x]) ∧
  (∀ (s : State) (t : Nat) (x : GnssTrack) (b : Bool), x.l5 = false → x.sat.l1ca = false → s.gnss.caFound = true →
      (s.advance t).gnssSweep.l1Recent x.sat = false →
      ((s.advance t).gnssSweep.knowsTime && (s.advance t).gnssSweep.gnss.knowsPos) = false → x ∉ s.gnss.tracks →
    Completes (exec (.acquisitionFound t x b) s) fun u => x ∉ u.gnss.tracks) ∧
  (∀ (s : State) (t : Nat) (x : GnssTrack) (b : Bool), x.l5 = true → s.gnss.hasL1 x.sat = false →
      (s.advance t).l1Recent x.sat = false →
    Completes (exec (.acquisitionFound t x b) s) fun u => x ∉ u.gnss.tracks) ∧
  (∀ (s : State) (t : Nat) (x : GnssTrack), x ∈ s.gnss.tracks →
    Completes (exec (.signalLoss t x) s) fun u => x ∉ u.gnss.tracks ∧ u.gnss.rstate = s.gnss.rstate) ∧
  (∀ (s : State) (t f : Nat), s.gnss.rstate = .timing → s.gnss.lostFrom = some f → (s.advance t).past f (10 * secU) = true →
    Completes (exec (.satellitesLost t) s) fun u => u.gnss.rstate = .search ∧ u.gnss.markValid = false) ∧
  (∀ (s : State) (t : Nat) (m : MarkIn), s.gnss.rstate = .search →
    Completes (exec (.gnssMark t m) s) fun u =>
      u.gnss.used = satsWord ((s.advance t).gnssSweep.gnss.usedSigs m) ∧ u.gnss.markValid = false) ∧
  (∀ (s : State) (t : Nat), s.gnss.spoof = true → s.gnss.latch = false → s.gnss.clearTime < s.gnss.clean →
    Completes (exec (.spoofAlarmClear t) s) fun u => u.gnss.spoof = false) ∧
  (∀ (s : State) (t : Nat), s.gnss.rstate = .search → s.flt.recs = [] → s.quietFaults = true →
    Completes (exec (.gnssFrontEnd t) s) fun u => ∃ r, u.flt.newest = some r ∧ r.source = 0x3D0 ∧ r.code = 0x41) ∧
  (∀ (s : State) (t ma : Nat), s.gnss.supervised = true → s.gnss.biasOn = true → ma < 2 → s.gnss.ant ≠ .antOpen →
    Completes (exec (.antOpen t ma) s) fun u => u.gnss.ant = .antOpen ∧ u.gnss.antMa = ma ∧ u.hif.chimeStatus.getLsbD 10 = true) ∧
  (∀ (s : State) (t : Nat), s.gnss.supervised = true → s.gnss.biasOn = true → s.gnss.ant ≠ .short →
    Completes (exec (.antShort t) s) fun u => u.gnss.ant = .short ∧ u.gnss.antMa = 120 ∧ u.gnss.biasOn = true) ∧
  (∀ (s : State) (t : Nat), s.gnss.supervised = true → s.gnss.ant = .short → s.gnss.biasOn = true →
      (s.advance t).past s.gnss.antFrom (10 * msU) = true →
    Completes (exec (.antShortOff t) s) fun u => u.gnss.biasOn = false ∧ u.gnss.antMa = 0 ∧ u.gnss.ant = .short) ∧
  (∀ (s : State) (t : Nat) (b : Bool), s.gnss.supervised = true → s.gnss.ant = .short → s.gnss.biasOn = false →
      (s.advance t).past s.gnss.antFrom secU = true →
    Completes (exec (.antShortRetry t b) s) fun u => u.gnss.biasOn = true ∧ u.gnss.ant = .short) ∧
  (∀ (s : State) (t ma : Nat), s.gnss.supervised = true → s.gnss.biasOn = true → 2 ≤ ma → ma ≤ 100 →
    Completes (exec (.antNormal t ma) s) fun u => u.gnss.ant = .normal ∧ u.gnss.antMa = ma) ∧
  (∀ (s : State) (t : Nat) (v : Survey), s.gnss.survey = some v → (s.advance t).past v.from_ (v.duration * secU) = true → v.n < 60 →
    Completes (exec (.surveyEnd t) s) fun u => u.heldFail v.tag (timeoutF 0x0004) (s.tag v.tag).acceptedStaged ∧ u.gnss.survey = none ∧ u.gnss.fixed = s.gnss.fixed) ∧
  (∀ (s : State) (t : Nat) (v : Survey), s.gnss.survey = some v → (s.advance t).past v.from_ (v.duration * secU) = true → 60 ≤ v.n →
    Completes (exec (.surveyEnd t) s) fun u =>
      u.heldOk v.tag u.gnss.fixed.words ∧ u.gnss.survey = none ∧ u.gnss.fixed.x = rdiv v.sx v.n ∧ u.gnss.fixed.y = rdiv v.sy v.n ∧
      u.gnss.fixed.z = rdiv v.sz v.n) ∧
  (∀ (s : State) (t : Nat) (i : Fin 48) (k : Int), s.gnss.snap.capTag = some i → (s.advance t).captureOver = true →
    Completes (exec (.snapshotCaptureEnd t k) s) fun u =>
      u.heldOk i u.gnss.snap.words ∧ u.gnss.snap.held = true ∧ u.gnss.snap.capTag = none ∧ u.gnss.snap.first = s.gnss.snap.capAt) ∧
  (∀ (s : State) (t : Nat) (i : Fin 48) (f : Fix), s.gnss.snap.procTag = some i →
      (s.advance t).now ≤ s.gnss.snap.procFrom + 20 * secU →
    Completes (exec (.snapshotProcessEnd t (some f)) s) fun u =>
      u.heldOk i ({ f with fix := 3 } : Fix).words ∧ u.gnss.snap.procTag = none) ∧
  (∀ (s : State) (t : Nat) (i : Fin 48), s.gnss.snap.procTag = some i → (s.advance t).now ≤ s.gnss.snap.procFrom + 20 * secU →
    Completes (exec (.snapshotProcessEnd t none) s) fun u => u.heldOk i (List.replicate 15 0)) ∧
  (∀ (s : State) (t : Nat) (i : Fin 48) (f : Option Fix), s.gnss.snap.procTag = some i →
      s.gnss.snap.procFrom + 20 * secU < (s.advance t).now →
    Completes (exec (.snapshotProcessEnd t f) s) fun u => u.heldFail i timeoutF (s.tag i).acceptedStaged ∧ u.gnss.snap.procTag = none)

/-- The interlock, outside FAULT_HOLD: ILK_IN asserted takes INIT to STANDBY; deasserted, a CLAIMING module
becomes ACTIVE with its cause (R412, R416). Both pins asserted for more than 1 us: slot B goes to INIT with its pin
deasserted, slot A keeps its role and its pin (R413). Claims, with ILK_IN deasserted, the pair unit enabled, no slot conflict
and no FAULT_HOLD: 50 us after its first sample slot B becomes ACTIVE with its pin asserted, and with ILK_IN asserted then the claim ends; slot A in STANDBY that
heard a frame without the partner's ILK_OUT since ILK_IN fell 50 us ago becomes ACTIVE; slot B in INIT with no partner heard for
INIT_WAIT takes its first sample; an ACTIVE module that has lost its partner stays ACTIVE and fires the Chime (R416 to R418, R420). -/
def Obligations.InterlockAndClaims : Prop :=
  (∀ (s : State) (t : Nat), s.pair.ilkIn = false → s.pair.role = .init → s.sys.mstate ≠ .faultHold →
    Completes (exec (.ilkInAssert t) s) fun u => u.pair.ilkIn = true ∧ u.pair.role = .standby ∧ u.pair.claimFirst = s.pair.claimFirst) ∧
  (∀ (s : State) (t : Nat), s.pair.ilkIn = true → s.pair.role = .claiming →
    Completes (exec (.ilkInDeassert t) s) fun u => u.pair.ilkIn = false ∧ u.pair.role = .active ∧ u.pair.lastCause = s.pair.claimCause) ∧
  (∀ (s : State) (t f : Nat), s.pair.bothFrom = some f → s.pair.en = true → f + usU < (s.advance t).now → s.sys.slotB = true →
      s.quietFaults = true →
    Completes (exec (.pairContest t) s) fun u => u.pair.role = .init ∧ u.pair.ilkOut = false) ∧
  (∀ (s : State) (t f : Nat), s.pair.bothFrom = some f → s.pair.en = true → f + usU < (s.advance t).now → s.sys.slotB = false →
    Completes (exec (.pairContest t) s) fun u => u.pair.role = s.pair.role ∧ u.pair.ilkOut = s.pair.ilkOut ∧ u.pair.bothFrom = none) ∧
  (∀ (s : State) (t f : Nat), s.pair.claimFirst = some f → (s.advance t).past f (50 * usU) = true → s.pair.ilkIn = false →
      s.pair.slotConflict = false → s.sys.mstate ≠ .faultHold → s.pair.en = true →
    Completes (exec (.claimSecondSample t) s) fun u => u.pair.role = .active ∧ u.pair.ilkOut = true ∧ u.pair.claimFirst = none) ∧
  (∀ (s : State) (t f : Nat), s.pair.claimFirst = some f → (s.advance t).past f (50 * usU) = true → s.pair.ilkIn = true →
    Completes (exec (.claimSecondSample t) s) fun u =>
      u.pair.role = s.pair.role ∧ u.pair.ilkOut = s.pair.ilkOut ∧ u.pair.claimFirst = none) ∧
  (∀ (s : State) (t f : Nat), s.pair.role = .standby → s.pair.ilkIn = false → (s.advance t).past s.pair.ilkInFrom (50 * usU) = true →
      s.pair.frameAt = some f → s.pair.ilkInFrom ≤ f → s.pair.partner.ilkOut = false → s.pair.en = true → s.pair.slotConflict = false →
      s.sys.mstate ≠ .faultHold → s.pair.claimFirst = none → s.sys.slotB = false →
    Completes (exec (.releaseDetect t) s) fun u => u.pair.role = .active ∧ u.pair.ilkOut = true ∧ u.pair.lastCause = 2) ∧
  (∀ (s : State) (t : Nat), s.pair.role = .init → s.pair.ilkIn = false → s.pair.frameAt = none → s.pair.pinAt = none →
      (s.advance t).past s.pair.enFrom (s.pair.initWait * msU) = true → s.pair.en = true → s.pair.slotConflict = false →
      s.sys.mstate ≠ .faultHold → s.pair.claimFirst = none → s.sys.slotB = true →
    Completes (exec (.initWait t) s) fun u => u.pair.claimFirst = some (s.advance t).now ∧ u.pair.role = .init ∧ u.pair.ilkOut = s.pair.ilkOut) ∧
  (∀ (s : State) (t : Nat), s.pair.alive = true →
      (s.advance t).past (max (s.pair.frameAt.getD 0) (s.pair.pinAt.getD 0)) silentU = true → s.pair.role = .active →
    Completes (exec (.partnerLoss t) s) fun u => u.pair.alive = false ∧ u.pair.role = .active ∧ u.hif.chimeStatus.getLsbD 11 = true)

/-- With the pair unit enabled and its lane measured: a heartbeat is sent once 1 ms has passed, with its number, pin and mark;
a STANDBY takes a stamped heartbeat of the other slot: the partner is alive and its number and arrival are echoed; an
edge of HB_IN makes the partner alive (R419, R420). A frame path silent for 3 ms while the pin delivers is a path
fault, which ends after 1 s of both delivering; an interlock that disagrees for 10 ms is an interlock fault (R420, R421). The partner
lane's delays are kept once 3.5 ms have passed. The ACTIVE module sends its snapshot once 100 ms have passed; another module keeps a chunk of the snapshot being
assembled without changing the one held, which a commit replaces with every chunk and the right CRC and leaves otherwise
(R427, R428). At the agreed T the proposing ACTIVE module releases and goes to INIT; no acceptance within 10 ms ends PAIR_HANDOVER in
a TIMEOUT (R433, R439). -/
def Obligations.HeartbeatAndHandover : Prop :=
  (∀ (s : State) (t : Nat), s.pair.en = true → s.pair.measured = true → (s.advance t).past s.pair.hbTxAt msU = true →
    Completes (exec (.heartbeatTx t) s) fun u =>
      (∃ f, u.pair.hbSent = some f ∧ f.seq = s.pair.seqTx ∧ f.ilkOut = s.pair.ilkOut ∧ f.mark = (s.advance t).mt) ∧
      u.pair.seqTx = (s.pair.seqTx + 1) % 2 ^ 32 ∧ u.pair.hbTxAt = (s.advance t).now) ∧
  (∀ (s : State) (t : Nat) (f : HbFrame) (e : Stamp), s.pair.en = true → s.pair.measured = true → s.pair.hoDone = false →
      s.pair.role = .standby → f.slotB ≠ s.sys.slotB → (s.pair.evs.find? fun x => x.latch = f.rx) = some e →
    Completes (exec (.heartbeatRx t f) s) fun u =>
      u.pair.alive = true ∧ u.pair.frameAt = some (s.advance t).now ∧ u.pair.echoSeq = f.seq ∧ u.pair.echoRx = e.time ∧
      u.pair.slotConflict = false) ∧
  (∀ (s : State) (t : Nat), s.pair.en = true →
    Completes (exec (.hbInEdge t) s) fun u => u.pair.alive = true ∧ u.pair.pinAt = some (s.advance t).now ∧ u.pair.role = s.pair.role) ∧
  (∀ (s : State) (t f : Nat), s.pair.bothOkFrom = some f → s.pair.pathFault = true → (s.advance t).past f secU = true →
      (s.advance t).pathOk s.pair.frameAt = true → (s.advance t).pathOk s.pair.pinAt = true →
    Completes (exec (.pathFaultClear t) s) fun u => u.pair.pathFault = false ∧ u.hif.chimeStatus.getLsbD 11 = true) ∧
  (∀ (s : State) (t p : Nat), s.pair.en = true → s.pair.alive = true → s.pair.pathFault = false → s.pair.frameAt = some p →
      (s.advance t).past p silentU = true → (s.advance t).pathOk s.pair.frameAt = false → (s.advance t).pathOk s.pair.pinAt = true →
      s.quietFaults = true →
    Completes (exec (.pathFault t) s) fun u => u.pair.pathFault = true) ∧
  (∀ (s : State) (t f : Nat), s.pair.ilkDisFrom = some f → s.pair.alive = true → s.pair.ilkFault = false →
      (s.advance t).past f (10 * msU) = true → s.quietFaults = true →
    Completes (exec (.pairIlk t) s) fun u => u.pair.ilkFault = true) ∧
  (∀ (s : State) (t tx rx : Nat), s.pair.en = true → s.pair.measured = false → (s.advance t).past s.pair.measFrom (3500 * usU) = true →
    Completes (exec (.partnerLaneMeasured t tx rx) s) fun u => u.pair.measured = true ∧ u.pair.txDelay = satU 32 tx ∧ u.pair.rxDelay = satU 32 rx) ∧
  (∀ (s : State) (t : Nat), s.pair.role = .active → s.pair.measured = true → (s.advance t).past s.pair.snapTxAt (100 * msU) = true →
    Completes (exec (.snapshotTx t) s) fun u =>
      u.pair.snapSent = some (s.advance t).snapshot ∧ u.pair.snapTxAt = (s.advance t).now ∧ u.pair.snapTx = (s.pair.snapTx + 1) % 2 ^ 32) ∧
  (∀ (s : State) (t seq n : Nat) (i : Fin 16) (b : List (BitVec 8)), s.pair.en = true → s.pair.measured = true → s.pair.role ≠ .active →
      s.pair.asmSeq = seq →
    Completes (exec (.snapshotChunkRx t seq i n b) s) fun u =>
      u.pair.asmSeq = seq ∧ u.pair.asmChunks = s.pair.asmChunks.filter (fun c => decide (c.1 ≠ i.val)) ++ [(i.val, b.take 1024)] ∧
      u.pair.snap = s.pair.snap) ∧
  (∀ (s : State) (t seq n : Nat) (d : List (BitVec 8)) (c : SnapIn), s.pair.en = true → s.pair.measured = true → s.pair.role ≠ .active →
      s.pair.asmSeq = seq → 1 ≤ n → n ≤ 16 → s.pair.assembled n = some d →
    Completes (exec (.snapshotCommitRx t seq n (crc32c d) c) s) fun u =>
      u.pair.snap.seq = seq ∧ u.pair.snap.at_ = (s.advance t).now ∧ u.pair.snap.teEst = c.teEst ∧ u.pair.asmChunks = []) ∧
  (∀ (s : State) (t seq n : Nat) (w : Word) (c : SnapIn), s.pair.en = true → s.pair.measured = true → s.pair.role ≠ .active →
      (∀ d, s.pair.assembled n = some d → crc32c d ≠ w) →
    Completes (exec (.snapshotCommitRx t seq n w c) s) fun u => u.pair.snap = s.pair.snap ∧ u.pair.asmChunks = []) ∧
  (∀ (s : State) (t h : Nat), s.pair.hoT = some h → s.pair.hoAccepted = true → h ≤ (s.advance t).msec → s.pair.role = .active →
      s.pair.hoPropose = true → s.pair.hoDone = false →
    Completes (exec (.handoverInstant t) s) fun u => u.pair.role = .init ∧ u.pair.ilkOut = false ∧ u.pair.hoDone = true) ∧
  (∀ (s : State) (t : Nat) (i : Fin 48), s.pair.hoTag = some i → s.pair.hoAccepted = false → s.pair.hoDone = false →
      (s.advance t).past s.pair.hoFrom (10 * msU) = true →
    Completes (exec (.hoAcceptTimeout t) s) fun u => u.heldFail i (timeoutF 0x0004) (s.tag i).acceptedStaged ∧ u.pair.hoTag = none)

/-- With no source unobserved or in its shadow, every reaction at its default and no record held: a Corrected code becomes the newest
record, with its source, code, class and detail, sets COR_ANY and counts as corrected only (R443, R457). A report pair
broken for more than 2 cycles makes its source unobserved (R444); a stuck Clapper with the pair unit enabled sounds the Gong: FAULT_HOLD, with
ILK_OUT deasserted (R457). A reset's block is ready once its length has passed; its shadow ends 64 CLK_CORE cycles
later, and then a SYS_RESET_BLOCK of it is answered with 4 words (R452). -/
def Obligations.ReportsAndBlockResets : Prop :=
  (∀ (s : State) (t : Nat) (r : Report) (c : CodeInfo), s.quietFaults = true → s.flt.recs = [] → codeInfo r.code = some c →
      r.code ≠ 0x0A → c.cls = .corrected →
    Completes (exec (.faultReport t r) s) fun u =>
      (∃ x, u.flt.newest = some x ∧ x.source = r.source ∧ x.code = r.code ∧ x.cls = .corrected ∧ x.detail = r.detail) ∧
      u.flt.corAny = true ∧ u.flt.cntCor = cntUp s.flt.cntCor ∧ u.flt.cntFat = s.flt.cntFat) ∧
  (∀ (s : State) (t n : Nat) (src : BitVec 10), s.quietFaults = true → 2 < n →
    Completes (exec (.reportPath t src n false) s) fun u => ∃ x ∈ u.flt.unobs, x.source = src.toNat ∧ x.broken = true) ∧
  (∀ (s : State) (t : Nat), s.pair.en = true → s.quietFaults = true → s.flt.gong = false →
    Completes (exec (.clapperStuck t) s) fun u => u.flt.gong = true ∧ u.sys.mstate = .faultHold ∧ u.pair.ilkOut = false) ∧
  (∀ (s : State) (t base f : Nat) (src : BitVec 10) (b : Block), blockOf src.toNat = some (base, b) →
      s.flt.shadows = [(base, f, none)] → f + b.resetLen ≤ (s.advance t).now →
    Completes (exec (.blockResetDone t src) s) fun u => u.flt.shadows = [(base, f, some (s.advance t).now)]) ∧
  (∀ (s : State) (t base f r : Nat) (src : BitVec 10) (b : Block), blockOf src.toNat = some (base, b) →
      s.flt.shadows = [(base, f, some r)] → r + shadowTail ≤ (s.advance t).now → s.sys.resetBlocks = [] →
    Completes (exec (.resetShadowEnd t src) s) fun u => u.flt.shadows = []) ∧
  (∀ (s : State) (t base f r : Nat) (src : BitVec 10) (b : Block) (i : Fin 48), blockOf src.toNat = some (base, b) →
      s.flt.shadows = [(base, f, some r)] → r + shadowTail ≤ (s.advance t).now → s.sys.resetBlocks = [(base, i)] →
    Completes (exec (.resetShadowEnd t src) s) fun u =>
      (u.tag i).st = .held ∧ (u.tag i).status = stOk ∧ (u.tag i).data.length = 4 ∧ u.sys.resetBlocks = [])

/-- The record store: the one waiting write, with WP_N high and out of reset, is written to the slot that holds no winning copy
with the next SEQ and answers its host, unless its host's command is more than 5 ms old, which is answered TIMEOUT (R95, R484). WP_N asserted fires the
Chime and defers a waiting firmware write, of which the page operations already made stand, last page first and the header
never; deasserted it makes the deferred writes wait again (R484, R487, R488).
A corrected SRAM or archive error is recorded with code 1 and changes no byte (R467, R469). The margin and
refresh passes begin once their interval has passed and end after their length, a margin pass without weak bytes
changing none; the hour's WEAR write brings LIFE_HOURS up to date; the second's entry enters tier 0 (R475, R489 to R491). -/
def Obligations.RecordStoreEvents : Prop :=
  (∀ (s : State) (t id : Nat) (w : NvWrite) (i : Fin 48) (g : Nat × Nat × Nat), s.nvs.queue = [w] → w.id = id → nvGeom id = some g →
      s.sys.wp = false → s.sys.inReset = false → w.host = some i → s.nvsBarred = false →
      (s.advance t).now ≤ (s.tag i).busy + 5 * msU →
    Completes (exec (.nvsWriteDone t id true true) s) fun u =>
      u.nvs.queue = [] ∧ u.nvs.mem = memApply s.nvs.mem (writeSeq id (s.nextSlotB id) (s.nextSeq id) w.tag w.payload) ∧
      u.heldOk i (nvReply true false (s.nextSlotB id) w.payload.length (s.nextSeq id))) ∧
  (∀ (s : State) (t id : Nat) (w : NvWrite) (i : Fin 48) (g : Nat × Nat × Nat) (a b : Bool), s.nvs.queue = [w] → w.id = id →
      nvGeom id = some g → s.sys.wp = false → s.sys.inReset = false → s.nvsBarred = false → w.host = some i →
      (s.tag i).busy + 5 * msU < (s.advance t).now →
    Completes (exec (.nvsWriteDone t id a b) s) fun u => u.heldFail i timeoutF (s.tag i).acceptedStaged ∧ u.nvs.queue = [] ∧ u.nvs.mem = s.nvs.mem) ∧
  (∀ (s : State) (t k : Nat) (w : NvWrite) (g : Nat × Nat × Nat), s.sys.wp = false → s.nvs.queue = [w] → w.host = none →
      nvGeom w.id = some g →
    Completes (exec (.wpNAssert t k) s) fun u => u.sys.wp = true ∧ u.nvs.queue = [] ∧
      u.nvs.mem = memApply s.nvs.mem
        ((writeSeq w.id (s.nextSlotB w.id) (s.nextSeq w.id) w.tag w.payload).take (256 * min k (g.1 - 1))) ∧
      ∃ x ∈ u.nvs.deferred, x.id = w.id ∧ x.payload = w.payload) ∧
  (∀ (s : State) (t k : Nat), s.sys.wp = false → s.nvs.queue = [] →
    Completes (exec (.wpNAssert t k) s) fun u => u.sys.wp = true ∧ u.nvs.mem = s.nvs.mem ∧ u.hif.chimeStatus.getLsbD 15 = true) ∧
  (∀ (s : State) (t : Nat), s.sys.wp = true →
    Completes (exec (.wpNDeassert t) s) fun u =>
      u.sys.wp = false ∧ u.nvs.queue = s.nvs.queue ++ s.nvs.deferred ∧ u.nvs.deferred = [] ∧ u.nvs.mem = s.nvs.mem) ∧
  (∀ (s : State) (t a : Nat), s.rolls = true → s.quietFaults = true → s.flt.recs = [] →
    Completes (exec (.sramScrub t a .corrected) s) fun u =>
      u.nvs = s.nvs ∧ ∃ r, u.flt.newest = some r ∧ r.source = 0x020 ∧ r.code = 0x01 ∧ r.detail = wd a) ∧
  (∀ (s : State) (t a : Nat), s.rolls = true → s.quietFaults = true → s.flt.recs = [] →
    Completes (exec (.dramScrub t a .corrected) s) fun u =>
      u.arc.entries = s.arc.entries ∧ ∃ r, u.flt.newest = some r ∧ r.source = 0x040 ∧ r.code = 0x01) ∧
  (∀ (s : State) (t r : Nat) (w : List Nat), s.nvs.marginPass = false → s.rolls = true →
      (s.advance t).past s.nvs.marginAt (s.age.plan.marginDays * dayU) = true →
    Completes (exec (.nvsMargin t true w r) s) fun u => u.nvs.marginPass = true ∧ u.nvs.mem = s.nvs.mem ∧ u.nvs.marginAt = (s.advance t).now) ∧
  (∀ (s : State) (t r : Nat), s.nvs.marginPass = true → s.rolls = true → (s.advance t).past s.nvs.marginAt (512 * secU) = true →
    Completes (exec (.nvsMargin t false [] r) s) fun u =>
      u.nvs.marginPass = false ∧ u.age.retention = r ∧ u.nvs.mem = s.nvs.mem ∧ u.nvs.marginAt = (s.advance t).now) ∧
  (∀ (s : State) (t : Nat), s.nvs.refreshing = false → s.sys.wp = false → s.rolls = true →
      (s.advance t).past s.nvs.refreshAt (s.age.plan.refreshDays * dayU) = true →
    Completes (exec (.nvsRefresh t true) s) fun u => u.nvs.refreshing = true ∧ u.nvs.mem = s.nvs.mem) ∧
  (∀ (s : State) (t : Nat), s.nvs.refreshing = true → s.sys.wp = false → s.rolls = true →
      (s.advance t).past s.nvs.refreshAt (180 * secU) = true →
    Completes (exec (.nvsRefresh t false) s) fun u => u.nvs.refreshing = false ∧ u.nvs.mem = s.nvs.mem ∧ u.nvs.refreshAt = (s.advance t).now) ∧
  (∀ (s : State) (t : Nat), s.rolls = true → (s.advance t).past s.nvs.wearAt (3600 * secU) = true →
    Completes (exec (.wear t) s) fun u => u.nvs.wearAt = (s.advance t).now ∧ u.nvs.mem = s.nvs.mem ∧
      u.age.lifeHours = satU 32 (s.age.lifeHours + ((s.advance t).now - s.age.lifeFrom) / (3600 * secU))) ∧
  (∀ (s : State) (t : Nat) (e : ArcEnt), s.rolls = true → s.timeValid = true → s.arc.pendEnt = some e →
    Completes (exec (.rollup t 0) s) fun u => e ∈ u.arc.entries ∧ u.arc.pendEnt = none)

/-- The ring monitors' measurement is kept with its load; below RO_MIN the planned VCORE_SET rises by 5 mV to at most 0.740 V, and
at 0.740 V the CORE item's USED reads 10,000 (R511). Off the ring and 10 ms after its last step the supply moves 1 mV
toward its planned value; a telemetry mean is kept with its second (R518); a task not yet late that has gone
without a pass past its limit is marked LATE (R513);
the day's update, once per Metronome day at 600 s into it, marks the day and its instant and keeps the model before it (R500, R509). -/
def Obligations.AgeingEvents : Prop :=
  (∀ (s : State) (t q l : Nat) (m : Int), s.rolls = true → 0 ≤ m →
    Completes (exec (.roMeasure t q m l) s) fun u => u.age.required = q ∧ u.age.load = min 1000 l ∧ u.age.plan = s.age.plan) ∧
  (∀ (s : State) (t q l : Nat) (m : Int), s.rolls = true → m < 0 → s.age.plan.vcore < 7400 →
      s.age.lowerAt ≠ some (s.advance t).now →
    Completes (exec (.roMeasure t q m l) s) fun u => u.age.plan.vcore = min 7400 (s.age.plan.vcore + 50) ∧ u.age.items = s.age.items) ∧
  (∀ (s : State) (t q l : Nat) (m : Int), s.rolls = true → m < 0 → 7400 ≤ s.age.plan.vcore →
      s.age.lowerAt ≠ some (s.advance t).now →
    Completes (exec (.roMeasure t q m l) s) fun u => u.age.plan = s.age.plan ∧ (vget u.age.items 4).used = 10000) ∧
  (∀ (s : State) (t : Nat), s.root.onRing = false → (s.advance t).past s.age.vcoreRow (10 * msU) = true →
    Completes (exec (.vcoreRamp t) s) fun u =>
      u.age.vcore = (if s.age.vcore < s.age.plan.vcore then min s.age.plan.vcore (s.age.vcore + 10)
        else max s.age.plan.vcore (s.age.vcore - 10)) ∧ u.age.vcoreRow = (s.advance t).now) ∧
  (∀ (s : State) (t : Nat) (v : Sensors), s.rolls = true →
    Completes (exec (.telemetry t v) s) fun u =>
      u.age.caseTemp = v.caseTemp ∧ u.age.vddCore = v.vddCore ∧ u.kettle.heater = v.heater ∧ u.age.telAt = (s.advance t).msec * secU) ∧
  (∀ (s : State) (t : Nat) (k : Fin 13), s.age.late.getLsbD k.val = false → s.rolls = true →
      (s.advance t).past (vget s.age.taskAt k) (s.age.plan.taskLimit k.val) = true →
    Completes (exec (.taskLate t k) s) fun u => u.age.late.getLsbD k.val = true) ∧
  (∀ (s : State) (t : Nat) (v : DayIn), s.rolls = true → s.timeValid = true →
      (s.advance t).msec % 86400 = 600 → s.age.planDay ≠ some (s.advance t).ageDay →
    Completes (exec (.ageUpdate t v) s) fun u =>
      u.age.planDay = some (s.advance t).ageDay ∧ u.age.planAt = some (s.advance t).now ∧ u.age.prev = s.age.model)
end

