-- ==== Sys2Proof/Laws/State.lean ====
section
/-!
SUPPORT. One lemma per part of State and per update of a part, so that no proof unfolds a record update.
-/

namespace Sys2Proof.Machine

@[simp] theorem State.onHif_hif (s : State) (f : Hif → Hif) : (s.onHif f).hif = f s.hif := rfl
@[simp] theorem State.onHif_mb (s : State) (f : Hif → Hif) : (s.onHif f).mb = s.mb := rfl
@[simp] theorem State.onHif_sys (s : State) (f : Hif → Hif) : (s.onHif f).sys = s.sys := rfl
@[simp] theorem State.onHif_time (s : State) (f : Hif → Hif) : (s.onHif f).time = s.time := rfl
@[simp] theorem State.onHif_kettle (s : State) (f : Hif → Hif) : (s.onHif f).kettle = s.kettle := rfl
@[simp] theorem State.onHif_root (s : State) (f : Hif → Hif) : (s.onHif f).root = s.root := rfl
@[simp] theorem State.onHif_meas (s : State) (f : Hif → Hif) : (s.onHif f).meas = s.meas := rfl
@[simp] theorem State.onHif_ref (s : State) (f : Hif → Hif) : (s.onHif f).ref = s.ref := rfl
@[simp] theorem State.onHif_loop (s : State) (f : Hif → Hif) : (s.onHif f).loop = s.loop := rfl
@[simp] theorem State.onHif_out (s : State) (f : Hif → Hif) : (s.onHif f).out = s.out := rfl
@[simp] theorem State.onHif_ptp (s : State) (f : Hif → Hif) : (s.onHif f).ptp = s.ptp := rfl
@[simp] theorem State.onHif_gnss (s : State) (f : Hif → Hif) : (s.onHif f).gnss = s.gnss := rfl
@[simp] theorem State.onHif_pair (s : State) (f : Hif → Hif) : (s.onHif f).pair = s.pair := rfl
@[simp] theorem State.onHif_flt (s : State) (f : Hif → Hif) : (s.onHif f).flt = s.flt := rfl
@[simp] theorem State.onHif_nvs (s : State) (f : Hif → Hif) : (s.onHif f).nvs = s.nvs := rfl
@[simp] theorem State.onHif_arc (s : State) (f : Hif → Hif) : (s.onHif f).arc = s.arc := rfl
@[simp] theorem State.onHif_age (s : State) (f : Hif → Hif) : (s.onHif f).age = s.age := rfl
@[simp] theorem State.onHif_store (s : State) (f : Hif → Hif) : (s.onHif f).store = s.store := rfl
@[simp] theorem State.onHif_ctrs (s : State) (f : Hif → Hif) : (s.onHif f).ctrs = s.ctrs := rfl
@[simp] theorem State.onHif_freeCtr (s : State) (f : Hif → Hif) : (s.onHif f).freeCtr = s.freeCtr := rfl
@[simp] theorem State.onHif_pending (s : State) (f : Hif → Hif) : (s.onHif f).pending = s.pending := rfl
@[simp] theorem State.onMb_mb (s : State) (f : Mb → Mb) : (s.onMb f).mb = f s.mb := rfl
@[simp] theorem State.onMb_hif (s : State) (f : Mb → Mb) : (s.onMb f).hif = s.hif := rfl
@[simp] theorem State.onMb_sys (s : State) (f : Mb → Mb) : (s.onMb f).sys = s.sys := rfl
@[simp] theorem State.onMb_time (s : State) (f : Mb → Mb) : (s.onMb f).time = s.time := rfl
@[simp] theorem State.onMb_kettle (s : State) (f : Mb → Mb) : (s.onMb f).kettle = s.kettle := rfl
@[simp] theorem State.onMb_root (s : State) (f : Mb → Mb) : (s.onMb f).root = s.root := rfl
@[simp] theorem State.onMb_meas (s : State) (f : Mb → Mb) : (s.onMb f).meas = s.meas := rfl
@[simp] theorem State.onMb_ref (s : State) (f : Mb → Mb) : (s.onMb f).ref = s.ref := rfl
@[simp] theorem State.onMb_loop (s : State) (f : Mb → Mb) : (s.onMb f).loop = s.loop := rfl
@[simp] theorem State.onMb_out (s : State) (f : Mb → Mb) : (s.onMb f).out = s.out := rfl
@[simp] theorem State.onMb_ptp (s : State) (f : Mb → Mb) : (s.onMb f).ptp = s.ptp := rfl
@[simp] theorem State.onMb_gnss (s : State) (f : Mb → Mb) : (s.onMb f).gnss = s.gnss := rfl
@[simp] theorem State.onMb_pair (s : State) (f : Mb → Mb) : (s.onMb f).pair = s.pair := rfl
@[simp] theorem State.onMb_flt (s : State) (f : Mb → Mb) : (s.onMb f).flt = s.flt := rfl
@[simp] theorem State.onMb_nvs (s : State) (f : Mb → Mb) : (s.onMb f).nvs = s.nvs := rfl
@[simp] theorem State.onMb_arc (s : State) (f : Mb → Mb) : (s.onMb f).arc = s.arc := rfl
@[simp] theorem State.onMb_age (s : State) (f : Mb → Mb) : (s.onMb f).age = s.age := rfl
@[simp] theorem State.onMb_store (s : State) (f : Mb → Mb) : (s.onMb f).store = s.store := rfl
@[simp] theorem State.onMb_ctrs (s : State) (f : Mb → Mb) : (s.onMb f).ctrs = s.ctrs := rfl
@[simp] theorem State.onMb_freeCtr (s : State) (f : Mb → Mb) : (s.onMb f).freeCtr = s.freeCtr := rfl
@[simp] theorem State.onMb_pending (s : State) (f : Mb → Mb) : (s.onMb f).pending = s.pending := rfl
@[simp] theorem State.onSys_sys (s : State) (f : Sys → Sys) : (s.onSys f).sys = f s.sys := rfl
@[simp] theorem State.onSys_hif (s : State) (f : Sys → Sys) : (s.onSys f).hif = s.hif := rfl
@[simp] theorem State.onSys_mb (s : State) (f : Sys → Sys) : (s.onSys f).mb = s.mb := rfl
@[simp] theorem State.onSys_time (s : State) (f : Sys → Sys) : (s.onSys f).time = s.time := rfl
@[simp] theorem State.onSys_kettle (s : State) (f : Sys → Sys) : (s.onSys f).kettle = s.kettle := rfl
@[simp] theorem State.onSys_root (s : State) (f : Sys → Sys) : (s.onSys f).root = s.root := rfl
@[simp] theorem State.onSys_meas (s : State) (f : Sys → Sys) : (s.onSys f).meas = s.meas := rfl
@[simp] theorem State.onSys_ref (s : State) (f : Sys → Sys) : (s.onSys f).ref = s.ref := rfl
@[simp] theorem State.onSys_loop (s : State) (f : Sys → Sys) : (s.onSys f).loop = s.loop := rfl
@[simp] theorem State.onSys_out (s : State) (f : Sys → Sys) : (s.onSys f).out = s.out := rfl
@[simp] theorem State.onSys_ptp (s : State) (f : Sys → Sys) : (s.onSys f).ptp = s.ptp := rfl
@[simp] theorem State.onSys_gnss (s : State) (f : Sys → Sys) : (s.onSys f).gnss = s.gnss := rfl
@[simp] theorem State.onSys_pair (s : State) (f : Sys → Sys) : (s.onSys f).pair = s.pair := rfl
@[simp] theorem State.onSys_flt (s : State) (f : Sys → Sys) : (s.onSys f).flt = s.flt := rfl
@[simp] theorem State.onSys_nvs (s : State) (f : Sys → Sys) : (s.onSys f).nvs = s.nvs := rfl
@[simp] theorem State.onSys_arc (s : State) (f : Sys → Sys) : (s.onSys f).arc = s.arc := rfl
@[simp] theorem State.onSys_age (s : State) (f : Sys → Sys) : (s.onSys f).age = s.age := rfl
@[simp] theorem State.onSys_store (s : State) (f : Sys → Sys) : (s.onSys f).store = s.store := rfl
@[simp] theorem State.onSys_ctrs (s : State) (f : Sys → Sys) : (s.onSys f).ctrs = s.ctrs := rfl
@[simp] theorem State.onSys_freeCtr (s : State) (f : Sys → Sys) : (s.onSys f).freeCtr = s.freeCtr := rfl
@[simp] theorem State.onSys_pending (s : State) (f : Sys → Sys) : (s.onSys f).pending = s.pending := rfl
@[simp] theorem State.onTime_time (s : State) (f : Time → Time) : (s.onTime f).time = f s.time := rfl
@[simp] theorem State.onTime_hif (s : State) (f : Time → Time) : (s.onTime f).hif = s.hif := rfl
@[simp] theorem State.onTime_mb (s : State) (f : Time → Time) : (s.onTime f).mb = s.mb := rfl
@[simp] theorem State.onTime_sys (s : State) (f : Time → Time) : (s.onTime f).sys = s.sys := rfl
@[simp] theorem State.onTime_kettle (s : State) (f : Time → Time) : (s.onTime f).kettle = s.kettle := rfl
@[simp] theorem State.onTime_root (s : State) (f : Time → Time) : (s.onTime f).root = s.root := rfl
@[simp] theorem State.onTime_meas (s : State) (f : Time → Time) : (s.onTime f).meas = s.meas := rfl
@[simp] theorem State.onTime_ref (s : State) (f : Time → Time) : (s.onTime f).ref = s.ref := rfl
@[simp] theorem State.onTime_loop (s : State) (f : Time → Time) : (s.onTime f).loop = s.loop := rfl
@[simp] theorem State.onTime_out (s : State) (f : Time → Time) : (s.onTime f).out = s.out := rfl
@[simp] theorem State.onTime_ptp (s : State) (f : Time → Time) : (s.onTime f).ptp = s.ptp := rfl
@[simp] theorem State.onTime_gnss (s : State) (f : Time → Time) : (s.onTime f).gnss = s.gnss := rfl
@[simp] theorem State.onTime_pair (s : State) (f : Time → Time) : (s.onTime f).pair = s.pair := rfl
@[simp] theorem State.onTime_flt (s : State) (f : Time → Time) : (s.onTime f).flt = s.flt := rfl
@[simp] theorem State.onTime_nvs (s : State) (f : Time → Time) : (s.onTime f).nvs = s.nvs := rfl
@[simp] theorem State.onTime_arc (s : State) (f : Time → Time) : (s.onTime f).arc = s.arc := rfl
@[simp] theorem State.onTime_age (s : State) (f : Time → Time) : (s.onTime f).age = s.age := rfl
@[simp] theorem State.onTime_store (s : State) (f : Time → Time) : (s.onTime f).store = s.store := rfl
@[simp] theorem State.onTime_ctrs (s : State) (f : Time → Time) : (s.onTime f).ctrs = s.ctrs := rfl
@[simp] theorem State.onTime_freeCtr (s : State) (f : Time → Time) : (s.onTime f).freeCtr = s.freeCtr := rfl
@[simp] theorem State.onTime_pending (s : State) (f : Time → Time) : (s.onTime f).pending = s.pending := rfl
@[simp] theorem State.onKettle_kettle (s : State) (f : Kettle → Kettle) : (s.onKettle f).kettle = f s.kettle := rfl
@[simp] theorem State.onKettle_hif (s : State) (f : Kettle → Kettle) : (s.onKettle f).hif = s.hif := rfl
@[simp] theorem State.onKettle_mb (s : State) (f : Kettle → Kettle) : (s.onKettle f).mb = s.mb := rfl
@[simp] theorem State.onKettle_sys (s : State) (f : Kettle → Kettle) : (s.onKettle f).sys = s.sys := rfl
@[simp] theorem State.onKettle_time (s : State) (f : Kettle → Kettle) : (s.onKettle f).time = s.time := rfl
@[simp] theorem State.onKettle_root (s : State) (f : Kettle → Kettle) : (s.onKettle f).root = s.root := rfl
@[simp] theorem State.onKettle_meas (s : State) (f : Kettle → Kettle) : (s.onKettle f).meas = s.meas := rfl
@[simp] theorem State.onKettle_ref (s : State) (f : Kettle → Kettle) : (s.onKettle f).ref = s.ref := rfl
@[simp] theorem State.onKettle_loop (s : State) (f : Kettle → Kettle) : (s.onKettle f).loop = s.loop := rfl
@[simp] theorem State.onKettle_out (s : State) (f : Kettle → Kettle) : (s.onKettle f).out = s.out := rfl
@[simp] theorem State.onKettle_ptp (s : State) (f : Kettle → Kettle) : (s.onKettle f).ptp = s.ptp := rfl
@[simp] theorem State.onKettle_gnss (s : State) (f : Kettle → Kettle) : (s.onKettle f).gnss = s.gnss := rfl
@[simp] theorem State.onKettle_pair (s : State) (f : Kettle → Kettle) : (s.onKettle f).pair = s.pair := rfl
@[simp] theorem State.onKettle_flt (s : State) (f : Kettle → Kettle) : (s.onKettle f).flt = s.flt := rfl
@[simp] theorem State.onKettle_nvs (s : State) (f : Kettle → Kettle) : (s.onKettle f).nvs = s.nvs := rfl
@[simp] theorem State.onKettle_arc (s : State) (f : Kettle → Kettle) : (s.onKettle f).arc = s.arc := rfl
@[simp] theorem State.onKettle_age (s : State) (f : Kettle → Kettle) : (s.onKettle f).age = s.age := rfl
@[simp] theorem State.onKettle_store (s : State) (f : Kettle → Kettle) : (s.onKettle f).store = s.store := rfl
@[simp] theorem State.onKettle_ctrs (s : State) (f : Kettle → Kettle) : (s.onKettle f).ctrs = s.ctrs := rfl
@[simp] theorem State.onKettle_freeCtr (s : State) (f : Kettle → Kettle) : (s.onKettle f).freeCtr = s.freeCtr := rfl
@[simp] theorem State.onKettle_pending (s : State) (f : Kettle → Kettle) : (s.onKettle f).pending = s.pending := rfl
@[simp] theorem State.onRoot_root (s : State) (f : Root → Root) : (s.onRoot f).root = f s.root := rfl
@[simp] theorem State.onRoot_hif (s : State) (f : Root → Root) : (s.onRoot f).hif = s.hif := rfl
@[simp] theorem State.onRoot_mb (s : State) (f : Root → Root) : (s.onRoot f).mb = s.mb := rfl
@[simp] theorem State.onRoot_sys (s : State) (f : Root → Root) : (s.onRoot f).sys = s.sys := rfl
@[simp] theorem State.onRoot_time (s : State) (f : Root → Root) : (s.onRoot f).time = s.time := rfl
@[simp] theorem State.onRoot_kettle (s : State) (f : Root → Root) : (s.onRoot f).kettle = s.kettle := rfl
@[simp] theorem State.onRoot_meas (s : State) (f : Root → Root) : (s.onRoot f).meas = s.meas := rfl
@[simp] theorem State.onRoot_ref (s : State) (f : Root → Root) : (s.onRoot f).ref = s.ref := rfl
@[simp] theorem State.onRoot_loop (s : State) (f : Root → Root) : (s.onRoot f).loop = s.loop := rfl
@[simp] theorem State.onRoot_out (s : State) (f : Root → Root) : (s.onRoot f).out = s.out := rfl
@[simp] theorem State.onRoot_ptp (s : State) (f : Root → Root) : (s.onRoot f).ptp = s.ptp := rfl
@[simp] theorem State.onRoot_gnss (s : State) (f : Root → Root) : (s.onRoot f).gnss = s.gnss := rfl
@[simp] theorem State.onRoot_pair (s : State) (f : Root → Root) : (s.onRoot f).pair = s.pair := rfl
@[simp] theorem State.onRoot_flt (s : State) (f : Root → Root) : (s.onRoot f).flt = s.flt := rfl
@[simp] theorem State.onRoot_nvs (s : State) (f : Root → Root) : (s.onRoot f).nvs = s.nvs := rfl
@[simp] theorem State.onRoot_arc (s : State) (f : Root → Root) : (s.onRoot f).arc = s.arc := rfl
@[simp] theorem State.onRoot_age (s : State) (f : Root → Root) : (s.onRoot f).age = s.age := rfl
@[simp] theorem State.onRoot_store (s : State) (f : Root → Root) : (s.onRoot f).store = s.store := rfl
@[simp] theorem State.onRoot_ctrs (s : State) (f : Root → Root) : (s.onRoot f).ctrs = s.ctrs := rfl
@[simp] theorem State.onRoot_freeCtr (s : State) (f : Root → Root) : (s.onRoot f).freeCtr = s.freeCtr := rfl
@[simp] theorem State.onRoot_pending (s : State) (f : Root → Root) : (s.onRoot f).pending = s.pending := rfl
@[simp] theorem State.onMeas_meas (s : State) (f : MeasU → MeasU) : (s.onMeas f).meas = f s.meas := rfl
@[simp] theorem State.onMeas_hif (s : State) (f : MeasU → MeasU) : (s.onMeas f).hif = s.hif := rfl
@[simp] theorem State.onMeas_mb (s : State) (f : MeasU → MeasU) : (s.onMeas f).mb = s.mb := rfl
@[simp] theorem State.onMeas_sys (s : State) (f : MeasU → MeasU) : (s.onMeas f).sys = s.sys := rfl
@[simp] theorem State.onMeas_time (s : State) (f : MeasU → MeasU) : (s.onMeas f).time = s.time := rfl
@[simp] theorem State.onMeas_kettle (s : State) (f : MeasU → MeasU) : (s.onMeas f).kettle = s.kettle := rfl
@[simp] theorem State.onMeas_root (s : State) (f : MeasU → MeasU) : (s.onMeas f).root = s.root := rfl
@[simp] theorem State.onMeas_ref (s : State) (f : MeasU → MeasU) : (s.onMeas f).ref = s.ref := rfl
@[simp] theorem State.onMeas_loop (s : State) (f : MeasU → MeasU) : (s.onMeas f).loop = s.loop := rfl
@[simp] theorem State.onMeas_out (s : State) (f : MeasU → MeasU) : (s.onMeas f).out = s.out := rfl
@[simp] theorem State.onMeas_ptp (s : State) (f : MeasU → MeasU) : (s.onMeas f).ptp = s.ptp := rfl
@[simp] theorem State.onMeas_gnss (s : State) (f : MeasU → MeasU) : (s.onMeas f).gnss = s.gnss := rfl
@[simp] theorem State.onMeas_pair (s : State) (f : MeasU → MeasU) : (s.onMeas f).pair = s.pair := rfl
@[simp] theorem State.onMeas_flt (s : State) (f : MeasU → MeasU) : (s.onMeas f).flt = s.flt := rfl
@[simp] theorem State.onMeas_nvs (s : State) (f : MeasU → MeasU) : (s.onMeas f).nvs = s.nvs := rfl
@[simp] theorem State.onMeas_arc (s : State) (f : MeasU → MeasU) : (s.onMeas f).arc = s.arc := rfl
@[simp] theorem State.onMeas_age (s : State) (f : MeasU → MeasU) : (s.onMeas f).age = s.age := rfl
@[simp] theorem State.onMeas_store (s : State) (f : MeasU → MeasU) : (s.onMeas f).store = s.store := rfl
@[simp] theorem State.onMeas_ctrs (s : State) (f : MeasU → MeasU) : (s.onMeas f).ctrs = s.ctrs := rfl
@[simp] theorem State.onMeas_freeCtr (s : State) (f : MeasU → MeasU) : (s.onMeas f).freeCtr = s.freeCtr := rfl
@[simp] theorem State.onMeas_pending (s : State) (f : MeasU → MeasU) : (s.onMeas f).pending = s.pending := rfl
@[simp] theorem State.onRef_ref (s : State) (f : RefU → RefU) : (s.onRef f).ref = f s.ref := rfl
@[simp] theorem State.onRef_hif (s : State) (f : RefU → RefU) : (s.onRef f).hif = s.hif := rfl
@[simp] theorem State.onRef_mb (s : State) (f : RefU → RefU) : (s.onRef f).mb = s.mb := rfl
@[simp] theorem State.onRef_sys (s : State) (f : RefU → RefU) : (s.onRef f).sys = s.sys := rfl
@[simp] theorem State.onRef_time (s : State) (f : RefU → RefU) : (s.onRef f).time = s.time := rfl
@[simp] theorem State.onRef_kettle (s : State) (f : RefU → RefU) : (s.onRef f).kettle = s.kettle := rfl
@[simp] theorem State.onRef_root (s : State) (f : RefU → RefU) : (s.onRef f).root = s.root := rfl
@[simp] theorem State.onRef_meas (s : State) (f : RefU → RefU) : (s.onRef f).meas = s.meas := rfl
@[simp] theorem State.onRef_loop (s : State) (f : RefU → RefU) : (s.onRef f).loop = s.loop := rfl
@[simp] theorem State.onRef_out (s : State) (f : RefU → RefU) : (s.onRef f).out = s.out := rfl
@[simp] theorem State.onRef_ptp (s : State) (f : RefU → RefU) : (s.onRef f).ptp = s.ptp := rfl
@[simp] theorem State.onRef_gnss (s : State) (f : RefU → RefU) : (s.onRef f).gnss = s.gnss := rfl
@[simp] theorem State.onRef_pair (s : State) (f : RefU → RefU) : (s.onRef f).pair = s.pair := rfl
@[simp] theorem State.onRef_flt (s : State) (f : RefU → RefU) : (s.onRef f).flt = s.flt := rfl
@[simp] theorem State.onRef_nvs (s : State) (f : RefU → RefU) : (s.onRef f).nvs = s.nvs := rfl
@[simp] theorem State.onRef_arc (s : State) (f : RefU → RefU) : (s.onRef f).arc = s.arc := rfl
@[simp] theorem State.onRef_age (s : State) (f : RefU → RefU) : (s.onRef f).age = s.age := rfl
@[simp] theorem State.onRef_store (s : State) (f : RefU → RefU) : (s.onRef f).store = s.store := rfl
@[simp] theorem State.onRef_ctrs (s : State) (f : RefU → RefU) : (s.onRef f).ctrs = s.ctrs := rfl
@[simp] theorem State.onRef_freeCtr (s : State) (f : RefU → RefU) : (s.onRef f).freeCtr = s.freeCtr := rfl
@[simp] theorem State.onRef_pending (s : State) (f : RefU → RefU) : (s.onRef f).pending = s.pending := rfl
@[simp] theorem State.onLoop_loop (s : State) (f : LoopU → LoopU) : (s.onLoop f).loop = f s.loop := rfl
@[simp] theorem State.onLoop_hif (s : State) (f : LoopU → LoopU) : (s.onLoop f).hif = s.hif := rfl
@[simp] theorem State.onLoop_mb (s : State) (f : LoopU → LoopU) : (s.onLoop f).mb = s.mb := rfl
@[simp] theorem State.onLoop_sys (s : State) (f : LoopU → LoopU) : (s.onLoop f).sys = s.sys := rfl
@[simp] theorem State.onLoop_time (s : State) (f : LoopU → LoopU) : (s.onLoop f).time = s.time := rfl
@[simp] theorem State.onLoop_kettle (s : State) (f : LoopU → LoopU) : (s.onLoop f).kettle = s.kettle := rfl
@[simp] theorem State.onLoop_root (s : State) (f : LoopU → LoopU) : (s.onLoop f).root = s.root := rfl
@[simp] theorem State.onLoop_meas (s : State) (f : LoopU → LoopU) : (s.onLoop f).meas = s.meas := rfl
@[simp] theorem State.onLoop_ref (s : State) (f : LoopU → LoopU) : (s.onLoop f).ref = s.ref := rfl
@[simp] theorem State.onLoop_out (s : State) (f : LoopU → LoopU) : (s.onLoop f).out = s.out := rfl
@[simp] theorem State.onLoop_ptp (s : State) (f : LoopU → LoopU) : (s.onLoop f).ptp = s.ptp := rfl
@[simp] theorem State.onLoop_gnss (s : State) (f : LoopU → LoopU) : (s.onLoop f).gnss = s.gnss := rfl
@[simp] theorem State.onLoop_pair (s : State) (f : LoopU → LoopU) : (s.onLoop f).pair = s.pair := rfl
@[simp] theorem State.onLoop_flt (s : State) (f : LoopU → LoopU) : (s.onLoop f).flt = s.flt := rfl
@[simp] theorem State.onLoop_nvs (s : State) (f : LoopU → LoopU) : (s.onLoop f).nvs = s.nvs := rfl
@[simp] theorem State.onLoop_arc (s : State) (f : LoopU → LoopU) : (s.onLoop f).arc = s.arc := rfl
@[simp] theorem State.onLoop_age (s : State) (f : LoopU → LoopU) : (s.onLoop f).age = s.age := rfl
@[simp] theorem State.onLoop_store (s : State) (f : LoopU → LoopU) : (s.onLoop f).store = s.store := rfl
@[simp] theorem State.onLoop_ctrs (s : State) (f : LoopU → LoopU) : (s.onLoop f).ctrs = s.ctrs := rfl
@[simp] theorem State.onLoop_freeCtr (s : State) (f : LoopU → LoopU) : (s.onLoop f).freeCtr = s.freeCtr := rfl
@[simp] theorem State.onLoop_pending (s : State) (f : LoopU → LoopU) : (s.onLoop f).pending = s.pending := rfl
@[simp] theorem State.onOut_out (s : State) (f : Out → Out) : (s.onOut f).out = f s.out := rfl
@[simp] theorem State.onOut_hif (s : State) (f : Out → Out) : (s.onOut f).hif = s.hif := rfl
@[simp] theorem State.onOut_mb (s : State) (f : Out → Out) : (s.onOut f).mb = s.mb := rfl
@[simp] theorem State.onOut_sys (s : State) (f : Out → Out) : (s.onOut f).sys = s.sys := rfl
@[simp] theorem State.onOut_time (s : State) (f : Out → Out) : (s.onOut f).time = s.time := rfl
@[simp] theorem State.onOut_kettle (s : State) (f : Out → Out) : (s.onOut f).kettle = s.kettle := rfl
@[simp] theorem State.onOut_root (s : State) (f : Out → Out) : (s.onOut f).root = s.root := rfl
@[simp] theorem State.onOut_meas (s : State) (f : Out → Out) : (s.onOut f).meas = s.meas := rfl
@[simp] theorem State.onOut_ref (s : State) (f : Out → Out) : (s.onOut f).ref = s.ref := rfl
@[simp] theorem State.onOut_loop (s : State) (f : Out → Out) : (s.onOut f).loop = s.loop := rfl
@[simp] theorem State.onOut_ptp (s : State) (f : Out → Out) : (s.onOut f).ptp = s.ptp := rfl
@[simp] theorem State.onOut_gnss (s : State) (f : Out → Out) : (s.onOut f).gnss = s.gnss := rfl
@[simp] theorem State.onOut_pair (s : State) (f : Out → Out) : (s.onOut f).pair = s.pair := rfl
@[simp] theorem State.onOut_flt (s : State) (f : Out → Out) : (s.onOut f).flt = s.flt := rfl
@[simp] theorem State.onOut_nvs (s : State) (f : Out → Out) : (s.onOut f).nvs = s.nvs := rfl
@[simp] theorem State.onOut_arc (s : State) (f : Out → Out) : (s.onOut f).arc = s.arc := rfl
@[simp] theorem State.onOut_age (s : State) (f : Out → Out) : (s.onOut f).age = s.age := rfl
@[simp] theorem State.onOut_store (s : State) (f : Out → Out) : (s.onOut f).store = s.store := rfl
@[simp] theorem State.onOut_ctrs (s : State) (f : Out → Out) : (s.onOut f).ctrs = s.ctrs := rfl
@[simp] theorem State.onOut_freeCtr (s : State) (f : Out → Out) : (s.onOut f).freeCtr = s.freeCtr := rfl
@[simp] theorem State.onOut_pending (s : State) (f : Out → Out) : (s.onOut f).pending = s.pending := rfl
@[simp] theorem State.onPtp_ptp (s : State) (f : Ptp → Ptp) : (s.onPtp f).ptp = f s.ptp := rfl
@[simp] theorem State.onPtp_hif (s : State) (f : Ptp → Ptp) : (s.onPtp f).hif = s.hif := rfl
@[simp] theorem State.onPtp_mb (s : State) (f : Ptp → Ptp) : (s.onPtp f).mb = s.mb := rfl
@[simp] theorem State.onPtp_sys (s : State) (f : Ptp → Ptp) : (s.onPtp f).sys = s.sys := rfl
@[simp] theorem State.onPtp_time (s : State) (f : Ptp → Ptp) : (s.onPtp f).time = s.time := rfl
@[simp] theorem State.onPtp_kettle (s : State) (f : Ptp → Ptp) : (s.onPtp f).kettle = s.kettle := rfl
@[simp] theorem State.onPtp_root (s : State) (f : Ptp → Ptp) : (s.onPtp f).root = s.root := rfl
@[simp] theorem State.onPtp_meas (s : State) (f : Ptp → Ptp) : (s.onPtp f).meas = s.meas := rfl
@[simp] theorem State.onPtp_ref (s : State) (f : Ptp → Ptp) : (s.onPtp f).ref = s.ref := rfl
@[simp] theorem State.onPtp_loop (s : State) (f : Ptp → Ptp) : (s.onPtp f).loop = s.loop := rfl
@[simp] theorem State.onPtp_out (s : State) (f : Ptp → Ptp) : (s.onPtp f).out = s.out := rfl
@[simp] theorem State.onPtp_gnss (s : State) (f : Ptp → Ptp) : (s.onPtp f).gnss = s.gnss := rfl
@[simp] theorem State.onPtp_pair (s : State) (f : Ptp → Ptp) : (s.onPtp f).pair = s.pair := rfl
@[simp] theorem State.onPtp_flt (s : State) (f : Ptp → Ptp) : (s.onPtp f).flt = s.flt := rfl
@[simp] theorem State.onPtp_nvs (s : State) (f : Ptp → Ptp) : (s.onPtp f).nvs = s.nvs := rfl
@[simp] theorem State.onPtp_arc (s : State) (f : Ptp → Ptp) : (s.onPtp f).arc = s.arc := rfl
@[simp] theorem State.onPtp_age (s : State) (f : Ptp → Ptp) : (s.onPtp f).age = s.age := rfl
@[simp] theorem State.onPtp_store (s : State) (f : Ptp → Ptp) : (s.onPtp f).store = s.store := rfl
@[simp] theorem State.onPtp_ctrs (s : State) (f : Ptp → Ptp) : (s.onPtp f).ctrs = s.ctrs := rfl
@[simp] theorem State.onPtp_freeCtr (s : State) (f : Ptp → Ptp) : (s.onPtp f).freeCtr = s.freeCtr := rfl
@[simp] theorem State.onPtp_pending (s : State) (f : Ptp → Ptp) : (s.onPtp f).pending = s.pending := rfl
@[simp] theorem State.onGnss_gnss (s : State) (f : Gnss → Gnss) : (s.onGnss f).gnss = f s.gnss := rfl
@[simp] theorem State.onGnss_hif (s : State) (f : Gnss → Gnss) : (s.onGnss f).hif = s.hif := rfl
@[simp] theorem State.onGnss_mb (s : State) (f : Gnss → Gnss) : (s.onGnss f).mb = s.mb := rfl
@[simp] theorem State.onGnss_sys (s : State) (f : Gnss → Gnss) : (s.onGnss f).sys = s.sys := rfl
@[simp] theorem State.onGnss_time (s : State) (f : Gnss → Gnss) : (s.onGnss f).time = s.time := rfl
@[simp] theorem State.onGnss_kettle (s : State) (f : Gnss → Gnss) : (s.onGnss f).kettle = s.kettle := rfl
@[simp] theorem State.onGnss_root (s : State) (f : Gnss → Gnss) : (s.onGnss f).root = s.root := rfl
@[simp] theorem State.onGnss_meas (s : State) (f : Gnss → Gnss) : (s.onGnss f).meas = s.meas := rfl
@[simp] theorem State.onGnss_ref (s : State) (f : Gnss → Gnss) : (s.onGnss f).ref = s.ref := rfl
@[simp] theorem State.onGnss_loop (s : State) (f : Gnss → Gnss) : (s.onGnss f).loop = s.loop := rfl
@[simp] theorem State.onGnss_out (s : State) (f : Gnss → Gnss) : (s.onGnss f).out = s.out := rfl
@[simp] theorem State.onGnss_ptp (s : State) (f : Gnss → Gnss) : (s.onGnss f).ptp = s.ptp := rfl
@[simp] theorem State.onGnss_pair (s : State) (f : Gnss → Gnss) : (s.onGnss f).pair = s.pair := rfl
@[simp] theorem State.onGnss_flt (s : State) (f : Gnss → Gnss) : (s.onGnss f).flt = s.flt := rfl
@[simp] theorem State.onGnss_nvs (s : State) (f : Gnss → Gnss) : (s.onGnss f).nvs = s.nvs := rfl
@[simp] theorem State.onGnss_arc (s : State) (f : Gnss → Gnss) : (s.onGnss f).arc = s.arc := rfl
@[simp] theorem State.onGnss_age (s : State) (f : Gnss → Gnss) : (s.onGnss f).age = s.age := rfl
@[simp] theorem State.onGnss_store (s : State) (f : Gnss → Gnss) : (s.onGnss f).store = s.store := rfl
@[simp] theorem State.onGnss_ctrs (s : State) (f : Gnss → Gnss) : (s.onGnss f).ctrs = s.ctrs := rfl
@[simp] theorem State.onGnss_freeCtr (s : State) (f : Gnss → Gnss) : (s.onGnss f).freeCtr = s.freeCtr := rfl
@[simp] theorem State.onGnss_pending (s : State) (f : Gnss → Gnss) : (s.onGnss f).pending = s.pending := rfl
@[simp] theorem State.onPair_pair (s : State) (f : Pair → Pair) : (s.onPair f).pair = f s.pair := rfl
@[simp] theorem State.onPair_hif (s : State) (f : Pair → Pair) : (s.onPair f).hif = s.hif := rfl
@[simp] theorem State.onPair_mb (s : State) (f : Pair → Pair) : (s.onPair f).mb = s.mb := rfl
@[simp] theorem State.onPair_sys (s : State) (f : Pair → Pair) : (s.onPair f).sys = s.sys := rfl
@[simp] theorem State.onPair_time (s : State) (f : Pair → Pair) : (s.onPair f).time = s.time := rfl
@[simp] theorem State.onPair_kettle (s : State) (f : Pair → Pair) : (s.onPair f).kettle = s.kettle := rfl
@[simp] theorem State.onPair_root (s : State) (f : Pair → Pair) : (s.onPair f).root = s.root := rfl
@[simp] theorem State.onPair_meas (s : State) (f : Pair → Pair) : (s.onPair f).meas = s.meas := rfl
@[simp] theorem State.onPair_ref (s : State) (f : Pair → Pair) : (s.onPair f).ref = s.ref := rfl
@[simp] theorem State.onPair_loop (s : State) (f : Pair → Pair) : (s.onPair f).loop = s.loop := rfl
@[simp] theorem State.onPair_out (s : State) (f : Pair → Pair) : (s.onPair f).out = s.out := rfl
@[simp] theorem State.onPair_ptp (s : State) (f : Pair → Pair) : (s.onPair f).ptp = s.ptp := rfl
@[simp] theorem State.onPair_gnss (s : State) (f : Pair → Pair) : (s.onPair f).gnss = s.gnss := rfl
@[simp] theorem State.onPair_flt (s : State) (f : Pair → Pair) : (s.onPair f).flt = s.flt := rfl
@[simp] theorem State.onPair_nvs (s : State) (f : Pair → Pair) : (s.onPair f).nvs = s.nvs := rfl
@[simp] theorem State.onPair_arc (s : State) (f : Pair → Pair) : (s.onPair f).arc = s.arc := rfl
@[simp] theorem State.onPair_age (s : State) (f : Pair → Pair) : (s.onPair f).age = s.age := rfl
@[simp] theorem State.onPair_store (s : State) (f : Pair → Pair) : (s.onPair f).store = s.store := rfl
@[simp] theorem State.onPair_ctrs (s : State) (f : Pair → Pair) : (s.onPair f).ctrs = s.ctrs := rfl
@[simp] theorem State.onPair_freeCtr (s : State) (f : Pair → Pair) : (s.onPair f).freeCtr = s.freeCtr := rfl
@[simp] theorem State.onPair_pending (s : State) (f : Pair → Pair) : (s.onPair f).pending = s.pending := rfl
@[simp] theorem State.onFlt_flt (s : State) (f : Flt → Flt) : (s.onFlt f).flt = f s.flt := rfl
@[simp] theorem State.onFlt_hif (s : State) (f : Flt → Flt) : (s.onFlt f).hif = s.hif := rfl
@[simp] theorem State.onFlt_mb (s : State) (f : Flt → Flt) : (s.onFlt f).mb = s.mb := rfl
@[simp] theorem State.onFlt_sys (s : State) (f : Flt → Flt) : (s.onFlt f).sys = s.sys := rfl
@[simp] theorem State.onFlt_time (s : State) (f : Flt → Flt) : (s.onFlt f).time = s.time := rfl
@[simp] theorem State.onFlt_kettle (s : State) (f : Flt → Flt) : (s.onFlt f).kettle = s.kettle := rfl
@[simp] theorem State.onFlt_root (s : State) (f : Flt → Flt) : (s.onFlt f).root = s.root := rfl
@[simp] theorem State.onFlt_meas (s : State) (f : Flt → Flt) : (s.onFlt f).meas = s.meas := rfl
@[simp] theorem State.onFlt_ref (s : State) (f : Flt → Flt) : (s.onFlt f).ref = s.ref := rfl
@[simp] theorem State.onFlt_loop (s : State) (f : Flt → Flt) : (s.onFlt f).loop = s.loop := rfl
@[simp] theorem State.onFlt_out (s : State) (f : Flt → Flt) : (s.onFlt f).out = s.out := rfl
@[simp] theorem State.onFlt_ptp (s : State) (f : Flt → Flt) : (s.onFlt f).ptp = s.ptp := rfl
@[simp] theorem State.onFlt_gnss (s : State) (f : Flt → Flt) : (s.onFlt f).gnss = s.gnss := rfl
@[simp] theorem State.onFlt_pair (s : State) (f : Flt → Flt) : (s.onFlt f).pair = s.pair := rfl
@[simp] theorem State.onFlt_nvs (s : State) (f : Flt → Flt) : (s.onFlt f).nvs = s.nvs := rfl
@[simp] theorem State.onFlt_arc (s : State) (f : Flt → Flt) : (s.onFlt f).arc = s.arc := rfl
@[simp] theorem State.onFlt_age (s : State) (f : Flt → Flt) : (s.onFlt f).age = s.age := rfl
@[simp] theorem State.onFlt_store (s : State) (f : Flt → Flt) : (s.onFlt f).store = s.store := rfl
@[simp] theorem State.onFlt_ctrs (s : State) (f : Flt → Flt) : (s.onFlt f).ctrs = s.ctrs := rfl
@[simp] theorem State.onFlt_freeCtr (s : State) (f : Flt → Flt) : (s.onFlt f).freeCtr = s.freeCtr := rfl
@[simp] theorem State.onFlt_pending (s : State) (f : Flt → Flt) : (s.onFlt f).pending = s.pending := rfl
@[simp] theorem State.onNvs_nvs (s : State) (f : Nvs → Nvs) : (s.onNvs f).nvs = f s.nvs := rfl
@[simp] theorem State.onNvs_hif (s : State) (f : Nvs → Nvs) : (s.onNvs f).hif = s.hif := rfl
@[simp] theorem State.onNvs_mb (s : State) (f : Nvs → Nvs) : (s.onNvs f).mb = s.mb := rfl
@[simp] theorem State.onNvs_sys (s : State) (f : Nvs → Nvs) : (s.onNvs f).sys = s.sys := rfl
@[simp] theorem State.onNvs_time (s : State) (f : Nvs → Nvs) : (s.onNvs f).time = s.time := rfl
@[simp] theorem State.onNvs_kettle (s : State) (f : Nvs → Nvs) : (s.onNvs f).kettle = s.kettle := rfl
@[simp] theorem State.onNvs_root (s : State) (f : Nvs → Nvs) : (s.onNvs f).root = s.root := rfl
@[simp] theorem State.onNvs_meas (s : State) (f : Nvs → Nvs) : (s.onNvs f).meas = s.meas := rfl
@[simp] theorem State.onNvs_ref (s : State) (f : Nvs → Nvs) : (s.onNvs f).ref = s.ref := rfl
@[simp] theorem State.onNvs_loop (s : State) (f : Nvs → Nvs) : (s.onNvs f).loop = s.loop := rfl
@[simp] theorem State.onNvs_out (s : State) (f : Nvs → Nvs) : (s.onNvs f).out = s.out := rfl
@[simp] theorem State.onNvs_ptp (s : State) (f : Nvs → Nvs) : (s.onNvs f).ptp = s.ptp := rfl
@[simp] theorem State.onNvs_gnss (s : State) (f : Nvs → Nvs) : (s.onNvs f).gnss = s.gnss := rfl
@[simp] theorem State.onNvs_pair (s : State) (f : Nvs → Nvs) : (s.onNvs f).pair = s.pair := rfl
@[simp] theorem State.onNvs_flt (s : State) (f : Nvs → Nvs) : (s.onNvs f).flt = s.flt := rfl
@[simp] theorem State.onNvs_arc (s : State) (f : Nvs → Nvs) : (s.onNvs f).arc = s.arc := rfl
@[simp] theorem State.onNvs_age (s : State) (f : Nvs → Nvs) : (s.onNvs f).age = s.age := rfl
@[simp] theorem State.onNvs_store (s : State) (f : Nvs → Nvs) : (s.onNvs f).store = s.store := rfl
@[simp] theorem State.onNvs_ctrs (s : State) (f : Nvs → Nvs) : (s.onNvs f).ctrs = s.ctrs := rfl
@[simp] theorem State.onNvs_freeCtr (s : State) (f : Nvs → Nvs) : (s.onNvs f).freeCtr = s.freeCtr := rfl
@[simp] theorem State.onNvs_pending (s : State) (f : Nvs → Nvs) : (s.onNvs f).pending = s.pending := rfl
@[simp] theorem State.onArc_arc (s : State) (f : Arc → Arc) : (s.onArc f).arc = f s.arc := rfl
@[simp] theorem State.onArc_hif (s : State) (f : Arc → Arc) : (s.onArc f).hif = s.hif := rfl
@[simp] theorem State.onArc_mb (s : State) (f : Arc → Arc) : (s.onArc f).mb = s.mb := rfl
@[simp] theorem State.onArc_sys (s : State) (f : Arc → Arc) : (s.onArc f).sys = s.sys := rfl
@[simp] theorem State.onArc_time (s : State) (f : Arc → Arc) : (s.onArc f).time = s.time := rfl
@[simp] theorem State.onArc_kettle (s : State) (f : Arc → Arc) : (s.onArc f).kettle = s.kettle := rfl
@[simp] theorem State.onArc_root (s : State) (f : Arc → Arc) : (s.onArc f).root = s.root := rfl
@[simp] theorem State.onArc_meas (s : State) (f : Arc → Arc) : (s.onArc f).meas = s.meas := rfl
@[simp] theorem State.onArc_ref (s : State) (f : Arc → Arc) : (s.onArc f).ref = s.ref := rfl
@[simp] theorem State.onArc_loop (s : State) (f : Arc → Arc) : (s.onArc f).loop = s.loop := rfl
@[simp] theorem State.onArc_out (s : State) (f : Arc → Arc) : (s.onArc f).out = s.out := rfl
@[simp] theorem State.onArc_ptp (s : State) (f : Arc → Arc) : (s.onArc f).ptp = s.ptp := rfl
@[simp] theorem State.onArc_gnss (s : State) (f : Arc → Arc) : (s.onArc f).gnss = s.gnss := rfl
@[simp] theorem State.onArc_pair (s : State) (f : Arc → Arc) : (s.onArc f).pair = s.pair := rfl
@[simp] theorem State.onArc_flt (s : State) (f : Arc → Arc) : (s.onArc f).flt = s.flt := rfl
@[simp] theorem State.onArc_nvs (s : State) (f : Arc → Arc) : (s.onArc f).nvs = s.nvs := rfl
@[simp] theorem State.onArc_age (s : State) (f : Arc → Arc) : (s.onArc f).age = s.age := rfl
@[simp] theorem State.onArc_store (s : State) (f : Arc → Arc) : (s.onArc f).store = s.store := rfl
@[simp] theorem State.onArc_ctrs (s : State) (f : Arc → Arc) : (s.onArc f).ctrs = s.ctrs := rfl
@[simp] theorem State.onArc_freeCtr (s : State) (f : Arc → Arc) : (s.onArc f).freeCtr = s.freeCtr := rfl
@[simp] theorem State.onArc_pending (s : State) (f : Arc → Arc) : (s.onArc f).pending = s.pending := rfl
@[simp] theorem State.onAge_age (s : State) (f : Age → Age) : (s.onAge f).age = f s.age := rfl
@[simp] theorem State.onAge_hif (s : State) (f : Age → Age) : (s.onAge f).hif = s.hif := rfl
@[simp] theorem State.onAge_mb (s : State) (f : Age → Age) : (s.onAge f).mb = s.mb := rfl
@[simp] theorem State.onAge_sys (s : State) (f : Age → Age) : (s.onAge f).sys = s.sys := rfl
@[simp] theorem State.onAge_time (s : State) (f : Age → Age) : (s.onAge f).time = s.time := rfl
@[simp] theorem State.onAge_kettle (s : State) (f : Age → Age) : (s.onAge f).kettle = s.kettle := rfl
@[simp] theorem State.onAge_root (s : State) (f : Age → Age) : (s.onAge f).root = s.root := rfl
@[simp] theorem State.onAge_meas (s : State) (f : Age → Age) : (s.onAge f).meas = s.meas := rfl
@[simp] theorem State.onAge_ref (s : State) (f : Age → Age) : (s.onAge f).ref = s.ref := rfl
@[simp] theorem State.onAge_loop (s : State) (f : Age → Age) : (s.onAge f).loop = s.loop := rfl
@[simp] theorem State.onAge_out (s : State) (f : Age → Age) : (s.onAge f).out = s.out := rfl
@[simp] theorem State.onAge_ptp (s : State) (f : Age → Age) : (s.onAge f).ptp = s.ptp := rfl
@[simp] theorem State.onAge_gnss (s : State) (f : Age → Age) : (s.onAge f).gnss = s.gnss := rfl
@[simp] theorem State.onAge_pair (s : State) (f : Age → Age) : (s.onAge f).pair = s.pair := rfl
@[simp] theorem State.onAge_flt (s : State) (f : Age → Age) : (s.onAge f).flt = s.flt := rfl
@[simp] theorem State.onAge_nvs (s : State) (f : Age → Age) : (s.onAge f).nvs = s.nvs := rfl
@[simp] theorem State.onAge_arc (s : State) (f : Age → Age) : (s.onAge f).arc = s.arc := rfl
@[simp] theorem State.onAge_store (s : State) (f : Age → Age) : (s.onAge f).store = s.store := rfl
@[simp] theorem State.onAge_ctrs (s : State) (f : Age → Age) : (s.onAge f).ctrs = s.ctrs := rfl
@[simp] theorem State.onAge_freeCtr (s : State) (f : Age → Age) : (s.onAge f).freeCtr = s.freeCtr := rfl
@[simp] theorem State.onAge_pending (s : State) (f : Age → Age) : (s.onAge f).pending = s.pending := rfl
@[simp] theorem State.onStore_store (s : State) (f : FwStore → FwStore) : (s.onStore f).store = f s.store := rfl
@[simp] theorem State.onStore_hif (s : State) (f : FwStore → FwStore) : (s.onStore f).hif = s.hif := rfl
@[simp] theorem State.onStore_mb (s : State) (f : FwStore → FwStore) : (s.onStore f).mb = s.mb := rfl
@[simp] theorem State.onStore_sys (s : State) (f : FwStore → FwStore) : (s.onStore f).sys = s.sys := rfl
@[simp] theorem State.onStore_time (s : State) (f : FwStore → FwStore) : (s.onStore f).time = s.time := rfl
@[simp] theorem State.onStore_kettle (s : State) (f : FwStore → FwStore) : (s.onStore f).kettle = s.kettle := rfl
@[simp] theorem State.onStore_root (s : State) (f : FwStore → FwStore) : (s.onStore f).root = s.root := rfl
@[simp] theorem State.onStore_meas (s : State) (f : FwStore → FwStore) : (s.onStore f).meas = s.meas := rfl
@[simp] theorem State.onStore_ref (s : State) (f : FwStore → FwStore) : (s.onStore f).ref = s.ref := rfl
@[simp] theorem State.onStore_loop (s : State) (f : FwStore → FwStore) : (s.onStore f).loop = s.loop := rfl
@[simp] theorem State.onStore_out (s : State) (f : FwStore → FwStore) : (s.onStore f).out = s.out := rfl
@[simp] theorem State.onStore_ptp (s : State) (f : FwStore → FwStore) : (s.onStore f).ptp = s.ptp := rfl
@[simp] theorem State.onStore_gnss (s : State) (f : FwStore → FwStore) : (s.onStore f).gnss = s.gnss := rfl
@[simp] theorem State.onStore_pair (s : State) (f : FwStore → FwStore) : (s.onStore f).pair = s.pair := rfl
@[simp] theorem State.onStore_flt (s : State) (f : FwStore → FwStore) : (s.onStore f).flt = s.flt := rfl
@[simp] theorem State.onStore_nvs (s : State) (f : FwStore → FwStore) : (s.onStore f).nvs = s.nvs := rfl
@[simp] theorem State.onStore_arc (s : State) (f : FwStore → FwStore) : (s.onStore f).arc = s.arc := rfl
@[simp] theorem State.onStore_age (s : State) (f : FwStore → FwStore) : (s.onStore f).age = s.age := rfl
@[simp] theorem State.onStore_ctrs (s : State) (f : FwStore → FwStore) : (s.onStore f).ctrs = s.ctrs := rfl
@[simp] theorem State.onStore_freeCtr (s : State) (f : FwStore → FwStore) : (s.onStore f).freeCtr = s.freeCtr := rfl
@[simp] theorem State.onStore_pending (s : State) (f : FwStore → FwStore) : (s.onStore f).pending = s.pending := rfl

end Sys2Proof.Machine
end

