-- ==== Sys2Proof/Laws/Ops.lean ====
section
/-!
SUPPORT. What each shared operation leaves alone: one lemma per operation and per part of State it does not touch; and
what the end of every step (`commit`) and the passage of time (`advance`) can do.
-/

namespace Sys2Proof.Machine

/-- A projection that one step of a fold keeps is kept by the fold. -/
theorem foldl_keep {α β : Type} (f : State → β → State) (p : State → α) (h : ∀ s i, p (f s i) = p s) :
    ∀ (l : List β) (s : State), p (l.foldl f s) = p s
  | [], _ => rfl
  | i :: l, s => by rw [List.foldl_cons, foldl_keep f p h l, h]

/-- The same for `forFin`. -/
theorem forFin_keep {α : Type} (n : Nat) (f : Fin n → State → State) (s : State) (p : State → α) (h : ∀ i s, p (f i s) = p s) :
    p (forFin n f s) = p s := foldl_keep (fun a i => f i a) p (fun s i => h i s) _ s

/-- Either of two updates of the archive and the counters keeps what each keeps. -/
theorem either_keep {α : Type} (s : State) (b : Bool) (f : Arc → Arc) (i j : Nat) (p : State → α)
    (hc : ∀ s i, p (s.count i) = p s) (ha : ∀ s f, p (s.onArc f) = p s) :
    p (if b then s.count i else (s.onArc f).count j) = p s := by
  cases b
  · exact (hc _ _).trans (ha _ _)
  · exact hc _ _

/-- Writing to the event log touches the archive and the counters alone. -/
theorem log_keep {α : Type} (s : State) (g e u : Nat) (l : List Word) (p : State → α)
    (hc : ∀ s i, p (s.count i) = p s) (ha : ∀ s f, p (s.onArc f) = p s) : p (s.log g e u l) = p s :=
  either_keep s _ _ _ _ p hc ha


@[simp] theorem State.dpllMod_hif (s : State) (d : Fin 8) (f : Dpll → Dpll) : (s.dpllMod d f).hif = s.hif := rfl
@[simp] theorem State.dpllMod_mb (s : State) (d : Fin 8) (f : Dpll → Dpll) : (s.dpllMod d f).mb = s.mb := rfl
@[simp] theorem State.dpllMod_sys (s : State) (d : Fin 8) (f : Dpll → Dpll) : (s.dpllMod d f).sys = s.sys := rfl
@[simp] theorem State.dpllMod_time (s : State) (d : Fin 8) (f : Dpll → Dpll) : (s.dpllMod d f).time = s.time := rfl
@[simp] theorem State.dpllMod_kettle (s : State) (d : Fin 8) (f : Dpll → Dpll) : (s.dpllMod d f).kettle = s.kettle := rfl
@[simp] theorem State.dpllMod_root (s : State) (d : Fin 8) (f : Dpll → Dpll) : (s.dpllMod d f).root = s.root := rfl
@[simp] theorem State.dpllMod_meas (s : State) (d : Fin 8) (f : Dpll → Dpll) : (s.dpllMod d f).meas = s.meas := rfl
@[simp] theorem State.dpllMod_ref (s : State) (d : Fin 8) (f : Dpll → Dpll) : (s.dpllMod d f).ref = s.ref := rfl
@[simp] theorem State.dpllMod_out (s : State) (d : Fin 8) (f : Dpll → Dpll) : (s.dpllMod d f).out = s.out := rfl
@[simp] theorem State.dpllMod_ptp (s : State) (d : Fin 8) (f : Dpll → Dpll) : (s.dpllMod d f).ptp = s.ptp := rfl
@[simp] theorem State.dpllMod_gnss (s : State) (d : Fin 8) (f : Dpll → Dpll) : (s.dpllMod d f).gnss = s.gnss := rfl
@[simp] theorem State.dpllMod_pair (s : State) (d : Fin 8) (f : Dpll → Dpll) : (s.dpllMod d f).pair = s.pair := rfl
@[simp] theorem State.dpllMod_flt (s : State) (d : Fin 8) (f : Dpll → Dpll) : (s.dpllMod d f).flt = s.flt := rfl
@[simp] theorem State.dpllMod_nvs (s : State) (d : Fin 8) (f : Dpll → Dpll) : (s.dpllMod d f).nvs = s.nvs := rfl
@[simp] theorem State.dpllMod_arc (s : State) (d : Fin 8) (f : Dpll → Dpll) : (s.dpllMod d f).arc = s.arc := rfl
@[simp] theorem State.dpllMod_age (s : State) (d : Fin 8) (f : Dpll → Dpll) : (s.dpllMod d f).age = s.age := rfl
@[simp] theorem State.dpllMod_store (s : State) (d : Fin 8) (f : Dpll → Dpll) : (s.dpllMod d f).store = s.store := rfl
@[simp] theorem State.dpllMod_ctrs (s : State) (d : Fin 8) (f : Dpll → Dpll) : (s.dpllMod d f).ctrs = s.ctrs := rfl
@[simp] theorem State.dpllMod_freeCtr (s : State) (d : Fin 8) (f : Dpll → Dpll) : (s.dpllMod d f).freeCtr = s.freeCtr := rfl
@[simp] theorem State.dpllMod_pending (s : State) (d : Fin 8) (f : Dpll → Dpll) : (s.dpllMod d f).pending = s.pending := rfl

@[simp] theorem State.chanMod_hif (s : State) (c : Fin 66) (f : Chan → Chan) : (s.chanMod c f).hif = s.hif := rfl
@[simp] theorem State.chanMod_mb (s : State) (c : Fin 66) (f : Chan → Chan) : (s.chanMod c f).mb = s.mb := rfl
@[simp] theorem State.chanMod_sys (s : State) (c : Fin 66) (f : Chan → Chan) : (s.chanMod c f).sys = s.sys := rfl
@[simp] theorem State.chanMod_time (s : State) (c : Fin 66) (f : Chan → Chan) : (s.chanMod c f).time = s.time := rfl
@[simp] theorem State.chanMod_kettle (s : State) (c : Fin 66) (f : Chan → Chan) : (s.chanMod c f).kettle = s.kettle := rfl
@[simp] theorem State.chanMod_root (s : State) (c : Fin 66) (f : Chan → Chan) : (s.chanMod c f).root = s.root := rfl
@[simp] theorem State.chanMod_ref (s : State) (c : Fin 66) (f : Chan → Chan) : (s.chanMod c f).ref = s.ref := rfl
@[simp] theorem State.chanMod_loop (s : State) (c : Fin 66) (f : Chan → Chan) : (s.chanMod c f).loop = s.loop := rfl
@[simp] theorem State.chanMod_out (s : State) (c : Fin 66) (f : Chan → Chan) : (s.chanMod c f).out = s.out := rfl
@[simp] theorem State.chanMod_ptp (s : State) (c : Fin 66) (f : Chan → Chan) : (s.chanMod c f).ptp = s.ptp := rfl
@[simp] theorem State.chanMod_gnss (s : State) (c : Fin 66) (f : Chan → Chan) : (s.chanMod c f).gnss = s.gnss := rfl
@[simp] theorem State.chanMod_pair (s : State) (c : Fin 66) (f : Chan → Chan) : (s.chanMod c f).pair = s.pair := rfl
@[simp] theorem State.chanMod_flt (s : State) (c : Fin 66) (f : Chan → Chan) : (s.chanMod c f).flt = s.flt := rfl
@[simp] theorem State.chanMod_nvs (s : State) (c : Fin 66) (f : Chan → Chan) : (s.chanMod c f).nvs = s.nvs := rfl
@[simp] theorem State.chanMod_arc (s : State) (c : Fin 66) (f : Chan → Chan) : (s.chanMod c f).arc = s.arc := rfl
@[simp] theorem State.chanMod_age (s : State) (c : Fin 66) (f : Chan → Chan) : (s.chanMod c f).age = s.age := rfl
@[simp] theorem State.chanMod_store (s : State) (c : Fin 66) (f : Chan → Chan) : (s.chanMod c f).store = s.store := rfl
@[simp] theorem State.chanMod_ctrs (s : State) (c : Fin 66) (f : Chan → Chan) : (s.chanMod c f).ctrs = s.ctrs := rfl
@[simp] theorem State.chanMod_freeCtr (s : State) (c : Fin 66) (f : Chan → Chan) : (s.chanMod c f).freeCtr = s.freeCtr := rfl
@[simp] theorem State.chanMod_pending (s : State) (c : Fin 66) (f : Chan → Chan) : (s.chanMod c f).pending = s.pending := rfl

@[simp] theorem State.candMod_hif (s : State) (r : Fin 66) (f : Cand → Cand) : (s.candMod r f).hif = s.hif := rfl
@[simp] theorem State.candMod_mb (s : State) (r : Fin 66) (f : Cand → Cand) : (s.candMod r f).mb = s.mb := rfl
@[simp] theorem State.candMod_sys (s : State) (r : Fin 66) (f : Cand → Cand) : (s.candMod r f).sys = s.sys := rfl
@[simp] theorem State.candMod_time (s : State) (r : Fin 66) (f : Cand → Cand) : (s.candMod r f).time = s.time := rfl
@[simp] theorem State.candMod_kettle (s : State) (r : Fin 66) (f : Cand → Cand) : (s.candMod r f).kettle = s.kettle := rfl
@[simp] theorem State.candMod_root (s : State) (r : Fin 66) (f : Cand → Cand) : (s.candMod r f).root = s.root := rfl
@[simp] theorem State.candMod_meas (s : State) (r : Fin 66) (f : Cand → Cand) : (s.candMod r f).meas = s.meas := rfl
@[simp] theorem State.candMod_loop (s : State) (r : Fin 66) (f : Cand → Cand) : (s.candMod r f).loop = s.loop := rfl
@[simp] theorem State.candMod_out (s : State) (r : Fin 66) (f : Cand → Cand) : (s.candMod r f).out = s.out := rfl
@[simp] theorem State.candMod_ptp (s : State) (r : Fin 66) (f : Cand → Cand) : (s.candMod r f).ptp = s.ptp := rfl
@[simp] theorem State.candMod_gnss (s : State) (r : Fin 66) (f : Cand → Cand) : (s.candMod r f).gnss = s.gnss := rfl
@[simp] theorem State.candMod_pair (s : State) (r : Fin 66) (f : Cand → Cand) : (s.candMod r f).pair = s.pair := rfl
@[simp] theorem State.candMod_flt (s : State) (r : Fin 66) (f : Cand → Cand) : (s.candMod r f).flt = s.flt := rfl
@[simp] theorem State.candMod_nvs (s : State) (r : Fin 66) (f : Cand → Cand) : (s.candMod r f).nvs = s.nvs := rfl
@[simp] theorem State.candMod_arc (s : State) (r : Fin 66) (f : Cand → Cand) : (s.candMod r f).arc = s.arc := rfl
@[simp] theorem State.candMod_age (s : State) (r : Fin 66) (f : Cand → Cand) : (s.candMod r f).age = s.age := rfl
@[simp] theorem State.candMod_store (s : State) (r : Fin 66) (f : Cand → Cand) : (s.candMod r f).store = s.store := rfl
@[simp] theorem State.candMod_ctrs (s : State) (r : Fin 66) (f : Cand → Cand) : (s.candMod r f).ctrs = s.ctrs := rfl
@[simp] theorem State.candMod_freeCtr (s : State) (r : Fin 66) (f : Cand → Cand) : (s.candMod r f).freeCtr = s.freeCtr := rfl
@[simp] theorem State.candMod_pending (s : State) (r : Fin 66) (f : Cand → Cand) : (s.candMod r f).pending = s.pending := rfl

@[simp] theorem State.domMod_hif (s : State) (d : Fin 8) (f : Domain → Domain) : (s.domMod d f).hif = s.hif := rfl
@[simp] theorem State.domMod_mb (s : State) (d : Fin 8) (f : Domain → Domain) : (s.domMod d f).mb = s.mb := rfl
@[simp] theorem State.domMod_sys (s : State) (d : Fin 8) (f : Domain → Domain) : (s.domMod d f).sys = s.sys := rfl
@[simp] theorem State.domMod_time (s : State) (d : Fin 8) (f : Domain → Domain) : (s.domMod d f).time = s.time := rfl
@[simp] theorem State.domMod_kettle (s : State) (d : Fin 8) (f : Domain → Domain) : (s.domMod d f).kettle = s.kettle := rfl
@[simp] theorem State.domMod_root (s : State) (d : Fin 8) (f : Domain → Domain) : (s.domMod d f).root = s.root := rfl
@[simp] theorem State.domMod_meas (s : State) (d : Fin 8) (f : Domain → Domain) : (s.domMod d f).meas = s.meas := rfl
@[simp] theorem State.domMod_ref (s : State) (d : Fin 8) (f : Domain → Domain) : (s.domMod d f).ref = s.ref := rfl
@[simp] theorem State.domMod_loop (s : State) (d : Fin 8) (f : Domain → Domain) : (s.domMod d f).loop = s.loop := rfl
@[simp] theorem State.domMod_ptp (s : State) (d : Fin 8) (f : Domain → Domain) : (s.domMod d f).ptp = s.ptp := rfl
@[simp] theorem State.domMod_gnss (s : State) (d : Fin 8) (f : Domain → Domain) : (s.domMod d f).gnss = s.gnss := rfl
@[simp] theorem State.domMod_pair (s : State) (d : Fin 8) (f : Domain → Domain) : (s.domMod d f).pair = s.pair := rfl
@[simp] theorem State.domMod_flt (s : State) (d : Fin 8) (f : Domain → Domain) : (s.domMod d f).flt = s.flt := rfl
@[simp] theorem State.domMod_nvs (s : State) (d : Fin 8) (f : Domain → Domain) : (s.domMod d f).nvs = s.nvs := rfl
@[simp] theorem State.domMod_arc (s : State) (d : Fin 8) (f : Domain → Domain) : (s.domMod d f).arc = s.arc := rfl
@[simp] theorem State.domMod_age (s : State) (d : Fin 8) (f : Domain → Domain) : (s.domMod d f).age = s.age := rfl
@[simp] theorem State.domMod_store (s : State) (d : Fin 8) (f : Domain → Domain) : (s.domMod d f).store = s.store := rfl
@[simp] theorem State.domMod_ctrs (s : State) (d : Fin 8) (f : Domain → Domain) : (s.domMod d f).ctrs = s.ctrs := rfl
@[simp] theorem State.domMod_freeCtr (s : State) (d : Fin 8) (f : Domain → Domain) : (s.domMod d f).freeCtr = s.freeCtr := rfl
@[simp] theorem State.domMod_pending (s : State) (d : Fin 8) (f : Domain → Domain) : (s.domMod d f).pending = s.pending := rfl

@[simp] theorem State.ckMod_hif (s : State) (k : Fin 24) (f : Ckout → Ckout) : (s.ckMod k f).hif = s.hif := rfl
@[simp] theorem State.ckMod_mb (s : State) (k : Fin 24) (f : Ckout → Ckout) : (s.ckMod k f).mb = s.mb := rfl
@[simp] theorem State.ckMod_sys (s : State) (k : Fin 24) (f : Ckout → Ckout) : (s.ckMod k f).sys = s.sys := rfl
@[simp] theorem State.ckMod_time (s : State) (k : Fin 24) (f : Ckout → Ckout) : (s.ckMod k f).time = s.time := rfl
@[simp] theorem State.ckMod_kettle (s : State) (k : Fin 24) (f : Ckout → Ckout) : (s.ckMod k f).kettle = s.kettle := rfl
@[simp] theorem State.ckMod_root (s : State) (k : Fin 24) (f : Ckout → Ckout) : (s.ckMod k f).root = s.root := rfl
@[simp] theorem State.ckMod_meas (s : State) (k : Fin 24) (f : Ckout → Ckout) : (s.ckMod k f).meas = s.meas := rfl
@[simp] theorem State.ckMod_ref (s : State) (k : Fin 24) (f : Ckout → Ckout) : (s.ckMod k f).ref = s.ref := rfl
@[simp] theorem State.ckMod_loop (s : State) (k : Fin 24) (f : Ckout → Ckout) : (s.ckMod k f).loop = s.loop := rfl
@[simp] theorem State.ckMod_ptp (s : State) (k : Fin 24) (f : Ckout → Ckout) : (s.ckMod k f).ptp = s.ptp := rfl
@[simp] theorem State.ckMod_gnss (s : State) (k : Fin 24) (f : Ckout → Ckout) : (s.ckMod k f).gnss = s.gnss := rfl
@[simp] theorem State.ckMod_pair (s : State) (k : Fin 24) (f : Ckout → Ckout) : (s.ckMod k f).pair = s.pair := rfl
@[simp] theorem State.ckMod_flt (s : State) (k : Fin 24) (f : Ckout → Ckout) : (s.ckMod k f).flt = s.flt := rfl
@[simp] theorem State.ckMod_nvs (s : State) (k : Fin 24) (f : Ckout → Ckout) : (s.ckMod k f).nvs = s.nvs := rfl
@[simp] theorem State.ckMod_arc (s : State) (k : Fin 24) (f : Ckout → Ckout) : (s.ckMod k f).arc = s.arc := rfl
@[simp] theorem State.ckMod_age (s : State) (k : Fin 24) (f : Ckout → Ckout) : (s.ckMod k f).age = s.age := rfl
@[simp] theorem State.ckMod_store (s : State) (k : Fin 24) (f : Ckout → Ckout) : (s.ckMod k f).store = s.store := rfl
@[simp] theorem State.ckMod_ctrs (s : State) (k : Fin 24) (f : Ckout → Ckout) : (s.ckMod k f).ctrs = s.ctrs := rfl
@[simp] theorem State.ckMod_freeCtr (s : State) (k : Fin 24) (f : Ckout → Ckout) : (s.ckMod k f).freeCtr = s.freeCtr := rfl
@[simp] theorem State.ckMod_pending (s : State) (k : Fin 24) (f : Ckout → Ckout) : (s.ckMod k f).pending = s.pending := rfl

@[simp] theorem State.plMod_hif (s : State) (p : Fin 16) (f : Pulse → Pulse) : (s.plMod p f).hif = s.hif := rfl
@[simp] theorem State.plMod_mb (s : State) (p : Fin 16) (f : Pulse → Pulse) : (s.plMod p f).mb = s.mb := rfl
@[simp] theorem State.plMod_sys (s : State) (p : Fin 16) (f : Pulse → Pulse) : (s.plMod p f).sys = s.sys := rfl
@[simp] theorem State.plMod_time (s : State) (p : Fin 16) (f : Pulse → Pulse) : (s.plMod p f).time = s.time := rfl
@[simp] theorem State.plMod_kettle (s : State) (p : Fin 16) (f : Pulse → Pulse) : (s.plMod p f).kettle = s.kettle := rfl
@[simp] theorem State.plMod_root (s : State) (p : Fin 16) (f : Pulse → Pulse) : (s.plMod p f).root = s.root := rfl
@[simp] theorem State.plMod_meas (s : State) (p : Fin 16) (f : Pulse → Pulse) : (s.plMod p f).meas = s.meas := rfl
@[simp] theorem State.plMod_ref (s : State) (p : Fin 16) (f : Pulse → Pulse) : (s.plMod p f).ref = s.ref := rfl
@[simp] theorem State.plMod_loop (s : State) (p : Fin 16) (f : Pulse → Pulse) : (s.plMod p f).loop = s.loop := rfl
@[simp] theorem State.plMod_ptp (s : State) (p : Fin 16) (f : Pulse → Pulse) : (s.plMod p f).ptp = s.ptp := rfl
@[simp] theorem State.plMod_gnss (s : State) (p : Fin 16) (f : Pulse → Pulse) : (s.plMod p f).gnss = s.gnss := rfl
@[simp] theorem State.plMod_pair (s : State) (p : Fin 16) (f : Pulse → Pulse) : (s.plMod p f).pair = s.pair := rfl
@[simp] theorem State.plMod_flt (s : State) (p : Fin 16) (f : Pulse → Pulse) : (s.plMod p f).flt = s.flt := rfl
@[simp] theorem State.plMod_nvs (s : State) (p : Fin 16) (f : Pulse → Pulse) : (s.plMod p f).nvs = s.nvs := rfl
@[simp] theorem State.plMod_arc (s : State) (p : Fin 16) (f : Pulse → Pulse) : (s.plMod p f).arc = s.arc := rfl
@[simp] theorem State.plMod_age (s : State) (p : Fin 16) (f : Pulse → Pulse) : (s.plMod p f).age = s.age := rfl
@[simp] theorem State.plMod_store (s : State) (p : Fin 16) (f : Pulse → Pulse) : (s.plMod p f).store = s.store := rfl
@[simp] theorem State.plMod_ctrs (s : State) (p : Fin 16) (f : Pulse → Pulse) : (s.plMod p f).ctrs = s.ctrs := rfl
@[simp] theorem State.plMod_freeCtr (s : State) (p : Fin 16) (f : Pulse → Pulse) : (s.plMod p f).freeCtr = s.freeCtr := rfl
@[simp] theorem State.plMod_pending (s : State) (p : Fin 16) (f : Pulse → Pulse) : (s.plMod p f).pending = s.pending := rfl

@[simp] theorem State.laneMod_hif (s : State) (l : Fin 48) (f : Lane → Lane) : (s.laneMod l f).hif = s.hif := rfl
@[simp] theorem State.laneMod_mb (s : State) (l : Fin 48) (f : Lane → Lane) : (s.laneMod l f).mb = s.mb := rfl
@[simp] theorem State.laneMod_sys (s : State) (l : Fin 48) (f : Lane → Lane) : (s.laneMod l f).sys = s.sys := rfl
@[simp] theorem State.laneMod_time (s : State) (l : Fin 48) (f : Lane → Lane) : (s.laneMod l f).time = s.time := rfl
@[simp] theorem State.laneMod_kettle (s : State) (l : Fin 48) (f : Lane → Lane) : (s.laneMod l f).kettle = s.kettle := rfl
@[simp] theorem State.laneMod_root (s : State) (l : Fin 48) (f : Lane → Lane) : (s.laneMod l f).root = s.root := rfl
@[simp] theorem State.laneMod_meas (s : State) (l : Fin 48) (f : Lane → Lane) : (s.laneMod l f).meas = s.meas := rfl
@[simp] theorem State.laneMod_ref (s : State) (l : Fin 48) (f : Lane → Lane) : (s.laneMod l f).ref = s.ref := rfl
@[simp] theorem State.laneMod_loop (s : State) (l : Fin 48) (f : Lane → Lane) : (s.laneMod l f).loop = s.loop := rfl
@[simp] theorem State.laneMod_out (s : State) (l : Fin 48) (f : Lane → Lane) : (s.laneMod l f).out = s.out := rfl
@[simp] theorem State.laneMod_gnss (s : State) (l : Fin 48) (f : Lane → Lane) : (s.laneMod l f).gnss = s.gnss := rfl
@[simp] theorem State.laneMod_pair (s : State) (l : Fin 48) (f : Lane → Lane) : (s.laneMod l f).pair = s.pair := rfl
@[simp] theorem State.laneMod_flt (s : State) (l : Fin 48) (f : Lane → Lane) : (s.laneMod l f).flt = s.flt := rfl
@[simp] theorem State.laneMod_nvs (s : State) (l : Fin 48) (f : Lane → Lane) : (s.laneMod l f).nvs = s.nvs := rfl
@[simp] theorem State.laneMod_arc (s : State) (l : Fin 48) (f : Lane → Lane) : (s.laneMod l f).arc = s.arc := rfl
@[simp] theorem State.laneMod_age (s : State) (l : Fin 48) (f : Lane → Lane) : (s.laneMod l f).age = s.age := rfl
@[simp] theorem State.laneMod_store (s : State) (l : Fin 48) (f : Lane → Lane) : (s.laneMod l f).store = s.store := rfl
@[simp] theorem State.laneMod_ctrs (s : State) (l : Fin 48) (f : Lane → Lane) : (s.laneMod l f).ctrs = s.ctrs := rfl
@[simp] theorem State.laneMod_freeCtr (s : State) (l : Fin 48) (f : Lane → Lane) : (s.laneMod l f).freeCtr = s.freeCtr := rfl
@[simp] theorem State.laneMod_pending (s : State) (l : Fin 48) (f : Lane → Lane) : (s.laneMod l f).pending = s.pending := rfl

@[simp] theorem State.tagMod_hif (s : State) (i : Fin 48) (f : Tag → Tag) : (s.tagMod i f).hif = s.hif := rfl
@[simp] theorem State.tagMod_sys (s : State) (i : Fin 48) (f : Tag → Tag) : (s.tagMod i f).sys = s.sys := rfl
@[simp] theorem State.tagMod_time (s : State) (i : Fin 48) (f : Tag → Tag) : (s.tagMod i f).time = s.time := rfl
@[simp] theorem State.tagMod_kettle (s : State) (i : Fin 48) (f : Tag → Tag) : (s.tagMod i f).kettle = s.kettle := rfl
@[simp] theorem State.tagMod_root (s : State) (i : Fin 48) (f : Tag → Tag) : (s.tagMod i f).root = s.root := rfl
@[simp] theorem State.tagMod_meas (s : State) (i : Fin 48) (f : Tag → Tag) : (s.tagMod i f).meas = s.meas := rfl
@[simp] theorem State.tagMod_ref (s : State) (i : Fin 48) (f : Tag → Tag) : (s.tagMod i f).ref = s.ref := rfl
@[simp] theorem State.tagMod_loop (s : State) (i : Fin 48) (f : Tag → Tag) : (s.tagMod i f).loop = s.loop := rfl
@[simp] theorem State.tagMod_out (s : State) (i : Fin 48) (f : Tag → Tag) : (s.tagMod i f).out = s.out := rfl
@[simp] theorem State.tagMod_ptp (s : State) (i : Fin 48) (f : Tag → Tag) : (s.tagMod i f).ptp = s.ptp := rfl
@[simp] theorem State.tagMod_gnss (s : State) (i : Fin 48) (f : Tag → Tag) : (s.tagMod i f).gnss = s.gnss := rfl
@[simp] theorem State.tagMod_pair (s : State) (i : Fin 48) (f : Tag → Tag) : (s.tagMod i f).pair = s.pair := rfl
@[simp] theorem State.tagMod_flt (s : State) (i : Fin 48) (f : Tag → Tag) : (s.tagMod i f).flt = s.flt := rfl
@[simp] theorem State.tagMod_nvs (s : State) (i : Fin 48) (f : Tag → Tag) : (s.tagMod i f).nvs = s.nvs := rfl
@[simp] theorem State.tagMod_arc (s : State) (i : Fin 48) (f : Tag → Tag) : (s.tagMod i f).arc = s.arc := rfl
@[simp] theorem State.tagMod_age (s : State) (i : Fin 48) (f : Tag → Tag) : (s.tagMod i f).age = s.age := rfl
@[simp] theorem State.tagMod_store (s : State) (i : Fin 48) (f : Tag → Tag) : (s.tagMod i f).store = s.store := rfl
@[simp] theorem State.tagMod_ctrs (s : State) (i : Fin 48) (f : Tag → Tag) : (s.tagMod i f).ctrs = s.ctrs := rfl
@[simp] theorem State.tagMod_freeCtr (s : State) (i : Fin 48) (f : Tag → Tag) : (s.tagMod i f).freeCtr = s.freeCtr := rfl
@[simp] theorem State.tagMod_pending (s : State) (i : Fin 48) (f : Tag → Tag) : (s.tagMod i f).pending = s.pending := rfl

@[simp] theorem State.portMod_mb (s : State) (p : Fin 2) (f : Port → Port) : (s.portMod p f).mb = s.mb := rfl
@[simp] theorem State.portMod_sys (s : State) (p : Fin 2) (f : Port → Port) : (s.portMod p f).sys = s.sys := rfl
@[simp] theorem State.portMod_time (s : State) (p : Fin 2) (f : Port → Port) : (s.portMod p f).time = s.time := rfl
@[simp] theorem State.portMod_kettle (s : State) (p : Fin 2) (f : Port → Port) : (s.portMod p f).kettle = s.kettle := rfl
@[simp] theorem State.portMod_root (s : State) (p : Fin 2) (f : Port → Port) : (s.portMod p f).root = s.root := rfl
@[simp] theorem State.portMod_meas (s : State) (p : Fin 2) (f : Port → Port) : (s.portMod p f).meas = s.meas := rfl
@[simp] theorem State.portMod_ref (s : State) (p : Fin 2) (f : Port → Port) : (s.portMod p f).ref = s.ref := rfl
@[simp] theorem State.portMod_loop (s : State) (p : Fin 2) (f : Port → Port) : (s.portMod p f).loop = s.loop := rfl
@[simp] theorem State.portMod_out (s : State) (p : Fin 2) (f : Port → Port) : (s.portMod p f).out = s.out := rfl
@[simp] theorem State.portMod_ptp (s : State) (p : Fin 2) (f : Port → Port) : (s.portMod p f).ptp = s.ptp := rfl
@[simp] theorem State.portMod_gnss (s : State) (p : Fin 2) (f : Port → Port) : (s.portMod p f).gnss = s.gnss := rfl
@[simp] theorem State.portMod_pair (s : State) (p : Fin 2) (f : Port → Port) : (s.portMod p f).pair = s.pair := rfl
@[simp] theorem State.portMod_flt (s : State) (p : Fin 2) (f : Port → Port) : (s.portMod p f).flt = s.flt := rfl
@[simp] theorem State.portMod_nvs (s : State) (p : Fin 2) (f : Port → Port) : (s.portMod p f).nvs = s.nvs := rfl
@[simp] theorem State.portMod_arc (s : State) (p : Fin 2) (f : Port → Port) : (s.portMod p f).arc = s.arc := rfl
@[simp] theorem State.portMod_age (s : State) (p : Fin 2) (f : Port → Port) : (s.portMod p f).age = s.age := rfl
@[simp] theorem State.portMod_store (s : State) (p : Fin 2) (f : Port → Port) : (s.portMod p f).store = s.store := rfl
@[simp] theorem State.portMod_ctrs (s : State) (p : Fin 2) (f : Port → Port) : (s.portMod p f).ctrs = s.ctrs := rfl
@[simp] theorem State.portMod_freeCtr (s : State) (p : Fin 2) (f : Port → Port) : (s.portMod p f).freeCtr = s.freeCtr := rfl
@[simp] theorem State.portMod_pending (s : State) (p : Fin 2) (f : Port → Port) : (s.portMod p f).pending = s.pending := rfl

@[simp] theorem State.indMod_mb (s : State) (n : Fin 4) (f : Ind → Ind) : (s.indMod n f).mb = s.mb := rfl
@[simp] theorem State.indMod_sys (s : State) (n : Fin 4) (f : Ind → Ind) : (s.indMod n f).sys = s.sys := rfl
@[simp] theorem State.indMod_time (s : State) (n : Fin 4) (f : Ind → Ind) : (s.indMod n f).time = s.time := rfl
@[simp] theorem State.indMod_kettle (s : State) (n : Fin 4) (f : Ind → Ind) : (s.indMod n f).kettle = s.kettle := rfl
@[simp] theorem State.indMod_root (s : State) (n : Fin 4) (f : Ind → Ind) : (s.indMod n f).root = s.root := rfl
@[simp] theorem State.indMod_meas (s : State) (n : Fin 4) (f : Ind → Ind) : (s.indMod n f).meas = s.meas := rfl
@[simp] theorem State.indMod_ref (s : State) (n : Fin 4) (f : Ind → Ind) : (s.indMod n f).ref = s.ref := rfl
@[simp] theorem State.indMod_loop (s : State) (n : Fin 4) (f : Ind → Ind) : (s.indMod n f).loop = s.loop := rfl
@[simp] theorem State.indMod_out (s : State) (n : Fin 4) (f : Ind → Ind) : (s.indMod n f).out = s.out := rfl
@[simp] theorem State.indMod_ptp (s : State) (n : Fin 4) (f : Ind → Ind) : (s.indMod n f).ptp = s.ptp := rfl
@[simp] theorem State.indMod_gnss (s : State) (n : Fin 4) (f : Ind → Ind) : (s.indMod n f).gnss = s.gnss := rfl
@[simp] theorem State.indMod_pair (s : State) (n : Fin 4) (f : Ind → Ind) : (s.indMod n f).pair = s.pair := rfl
@[simp] theorem State.indMod_flt (s : State) (n : Fin 4) (f : Ind → Ind) : (s.indMod n f).flt = s.flt := rfl
@[simp] theorem State.indMod_nvs (s : State) (n : Fin 4) (f : Ind → Ind) : (s.indMod n f).nvs = s.nvs := rfl
@[simp] theorem State.indMod_arc (s : State) (n : Fin 4) (f : Ind → Ind) : (s.indMod n f).arc = s.arc := rfl
@[simp] theorem State.indMod_age (s : State) (n : Fin 4) (f : Ind → Ind) : (s.indMod n f).age = s.age := rfl
@[simp] theorem State.indMod_store (s : State) (n : Fin 4) (f : Ind → Ind) : (s.indMod n f).store = s.store := rfl
@[simp] theorem State.indMod_ctrs (s : State) (n : Fin 4) (f : Ind → Ind) : (s.indMod n f).ctrs = s.ctrs := rfl
@[simp] theorem State.indMod_freeCtr (s : State) (n : Fin 4) (f : Ind → Ind) : (s.indMod n f).freeCtr = s.freeCtr := rfl
@[simp] theorem State.indMod_pending (s : State) (n : Fin 4) (f : Ind → Ind) : (s.indMod n f).pending = s.pending := rfl

@[simp] theorem State.chime_mb (s : State) (b : Nat) : (s.chime b).mb = s.mb := rfl
@[simp] theorem State.chime_sys (s : State) (b : Nat) : (s.chime b).sys = s.sys := rfl
@[simp] theorem State.chime_time (s : State) (b : Nat) : (s.chime b).time = s.time := rfl
@[simp] theorem State.chime_kettle (s : State) (b : Nat) : (s.chime b).kettle = s.kettle := rfl
@[simp] theorem State.chime_root (s : State) (b : Nat) : (s.chime b).root = s.root := rfl
@[simp] theorem State.chime_meas (s : State) (b : Nat) : (s.chime b).meas = s.meas := rfl
@[simp] theorem State.chime_ref (s : State) (b : Nat) : (s.chime b).ref = s.ref := rfl
@[simp] theorem State.chime_loop (s : State) (b : Nat) : (s.chime b).loop = s.loop := rfl
@[simp] theorem State.chime_out (s : State) (b : Nat) : (s.chime b).out = s.out := rfl
@[simp] theorem State.chime_ptp (s : State) (b : Nat) : (s.chime b).ptp = s.ptp := rfl
@[simp] theorem State.chime_gnss (s : State) (b : Nat) : (s.chime b).gnss = s.gnss := rfl
@[simp] theorem State.chime_pair (s : State) (b : Nat) : (s.chime b).pair = s.pair := rfl
@[simp] theorem State.chime_flt (s : State) (b : Nat) : (s.chime b).flt = s.flt := rfl
@[simp] theorem State.chime_nvs (s : State) (b : Nat) : (s.chime b).nvs = s.nvs := rfl
@[simp] theorem State.chime_arc (s : State) (b : Nat) : (s.chime b).arc = s.arc := rfl
@[simp] theorem State.chime_age (s : State) (b : Nat) : (s.chime b).age = s.age := rfl
@[simp] theorem State.chime_store (s : State) (b : Nat) : (s.chime b).store = s.store := rfl
@[simp] theorem State.chime_ctrs (s : State) (b : Nat) : (s.chime b).ctrs = s.ctrs := rfl
@[simp] theorem State.chime_freeCtr (s : State) (b : Nat) : (s.chime b).freeCtr = s.freeCtr := rfl
@[simp] theorem State.chime_pending (s : State) (b : Nat) : (s.chime b).pending = s.pending := rfl

@[simp] theorem State.hifErr_mb (s : State) (b : Nat) : (s.hifErr b).mb = s.mb := rfl
@[simp] theorem State.hifErr_sys (s : State) (b : Nat) : (s.hifErr b).sys = s.sys := rfl
@[simp] theorem State.hifErr_time (s : State) (b : Nat) : (s.hifErr b).time = s.time := rfl
@[simp] theorem State.hifErr_kettle (s : State) (b : Nat) : (s.hifErr b).kettle = s.kettle := rfl
@[simp] theorem State.hifErr_root (s : State) (b : Nat) : (s.hifErr b).root = s.root := rfl
@[simp] theorem State.hifErr_meas (s : State) (b : Nat) : (s.hifErr b).meas = s.meas := rfl
@[simp] theorem State.hifErr_ref (s : State) (b : Nat) : (s.hifErr b).ref = s.ref := rfl
@[simp] theorem State.hifErr_loop (s : State) (b : Nat) : (s.hifErr b).loop = s.loop := rfl
@[simp] theorem State.hifErr_out (s : State) (b : Nat) : (s.hifErr b).out = s.out := rfl
@[simp] theorem State.hifErr_ptp (s : State) (b : Nat) : (s.hifErr b).ptp = s.ptp := rfl
@[simp] theorem State.hifErr_gnss (s : State) (b : Nat) : (s.hifErr b).gnss = s.gnss := rfl
@[simp] theorem State.hifErr_pair (s : State) (b : Nat) : (s.hifErr b).pair = s.pair := rfl
@[simp] theorem State.hifErr_flt (s : State) (b : Nat) : (s.hifErr b).flt = s.flt := rfl
@[simp] theorem State.hifErr_nvs (s : State) (b : Nat) : (s.hifErr b).nvs = s.nvs := rfl
@[simp] theorem State.hifErr_arc (s : State) (b : Nat) : (s.hifErr b).arc = s.arc := rfl
@[simp] theorem State.hifErr_age (s : State) (b : Nat) : (s.hifErr b).age = s.age := rfl
@[simp] theorem State.hifErr_store (s : State) (b : Nat) : (s.hifErr b).store = s.store := rfl
@[simp] theorem State.hifErr_ctrs (s : State) (b : Nat) : (s.hifErr b).ctrs = s.ctrs := rfl
@[simp] theorem State.hifErr_freeCtr (s : State) (b : Nat) : (s.hifErr b).freeCtr = s.freeCtr := rfl
@[simp] theorem State.hifErr_pending (s : State) (b : Nat) : (s.hifErr b).pending = s.pending := rfl

@[simp] theorem State.hold_hif (s : State) (i : Fin 48) (st : BitVec 7) (g : Bool) (l : List Word) : (s.hold i st g l).hif = s.hif := rfl
@[simp] theorem State.hold_sys (s : State) (i : Fin 48) (st : BitVec 7) (g : Bool) (l : List Word) : (s.hold i st g l).sys = s.sys := rfl
@[simp] theorem State.hold_time (s : State) (i : Fin 48) (st : BitVec 7) (g : Bool) (l : List Word) : (s.hold i st g l).time = s.time := rfl
@[simp] theorem State.hold_kettle (s : State) (i : Fin 48) (st : BitVec 7) (g : Bool) (l : List Word) : (s.hold i st g l).kettle = s.kettle := rfl
@[simp] theorem State.hold_root (s : State) (i : Fin 48) (st : BitVec 7) (g : Bool) (l : List Word) : (s.hold i st g l).root = s.root := rfl
@[simp] theorem State.hold_meas (s : State) (i : Fin 48) (st : BitVec 7) (g : Bool) (l : List Word) : (s.hold i st g l).meas = s.meas := rfl
@[simp] theorem State.hold_ref (s : State) (i : Fin 48) (st : BitVec 7) (g : Bool) (l : List Word) : (s.hold i st g l).ref = s.ref := rfl
@[simp] theorem State.hold_loop (s : State) (i : Fin 48) (st : BitVec 7) (g : Bool) (l : List Word) : (s.hold i st g l).loop = s.loop := rfl
@[simp] theorem State.hold_out (s : State) (i : Fin 48) (st : BitVec 7) (g : Bool) (l : List Word) : (s.hold i st g l).out = s.out := rfl
@[simp] theorem State.hold_ptp (s : State) (i : Fin 48) (st : BitVec 7) (g : Bool) (l : List Word) : (s.hold i st g l).ptp = s.ptp := rfl
@[simp] theorem State.hold_gnss (s : State) (i : Fin 48) (st : BitVec 7) (g : Bool) (l : List Word) : (s.hold i st g l).gnss = s.gnss := rfl
@[simp] theorem State.hold_pair (s : State) (i : Fin 48) (st : BitVec 7) (g : Bool) (l : List Word) : (s.hold i st g l).pair = s.pair := rfl
@[simp] theorem State.hold_flt (s : State) (i : Fin 48) (st : BitVec 7) (g : Bool) (l : List Word) : (s.hold i st g l).flt = s.flt := rfl
@[simp] theorem State.hold_nvs (s : State) (i : Fin 48) (st : BitVec 7) (g : Bool) (l : List Word) : (s.hold i st g l).nvs = s.nvs := rfl
@[simp] theorem State.hold_arc (s : State) (i : Fin 48) (st : BitVec 7) (g : Bool) (l : List Word) : (s.hold i st g l).arc = s.arc := rfl
@[simp] theorem State.hold_age (s : State) (i : Fin 48) (st : BitVec 7) (g : Bool) (l : List Word) : (s.hold i st g l).age = s.age := rfl
@[simp] theorem State.hold_store (s : State) (i : Fin 48) (st : BitVec 7) (g : Bool) (l : List Word) : (s.hold i st g l).store = s.store := rfl
@[simp] theorem State.hold_ctrs (s : State) (i : Fin 48) (st : BitVec 7) (g : Bool) (l : List Word) : (s.hold i st g l).ctrs = s.ctrs := rfl
@[simp] theorem State.hold_freeCtr (s : State) (i : Fin 48) (st : BitVec 7) (g : Bool) (l : List Word) : (s.hold i st g l).freeCtr = s.freeCtr := rfl
@[simp] theorem State.hold_pending (s : State) (i : Fin 48) (st : BitVec 7) (g : Bool) (l : List Word) : (s.hold i st g l).pending = s.pending := rfl

@[simp] theorem State.holdOk_hif (s : State) (i : Fin 48) (l : List Word) : (s.holdOk i l).hif = s.hif := rfl
@[simp] theorem State.holdOk_sys (s : State) (i : Fin 48) (l : List Word) : (s.holdOk i l).sys = s.sys := rfl
@[simp] theorem State.holdOk_time (s : State) (i : Fin 48) (l : List Word) : (s.holdOk i l).time = s.time := rfl
@[simp] theorem State.holdOk_kettle (s : State) (i : Fin 48) (l : List Word) : (s.holdOk i l).kettle = s.kettle := rfl
@[simp] theorem State.holdOk_root (s : State) (i : Fin 48) (l : List Word) : (s.holdOk i l).root = s.root := rfl
@[simp] theorem State.holdOk_meas (s : State) (i : Fin 48) (l : List Word) : (s.holdOk i l).meas = s.meas := rfl
@[simp] theorem State.holdOk_ref (s : State) (i : Fin 48) (l : List Word) : (s.holdOk i l).ref = s.ref := rfl
@[simp] theorem State.holdOk_loop (s : State) (i : Fin 48) (l : List Word) : (s.holdOk i l).loop = s.loop := rfl
@[simp] theorem State.holdOk_out (s : State) (i : Fin 48) (l : List Word) : (s.holdOk i l).out = s.out := rfl
@[simp] theorem State.holdOk_ptp (s : State) (i : Fin 48) (l : List Word) : (s.holdOk i l).ptp = s.ptp := rfl
@[simp] theorem State.holdOk_gnss (s : State) (i : Fin 48) (l : List Word) : (s.holdOk i l).gnss = s.gnss := rfl
@[simp] theorem State.holdOk_pair (s : State) (i : Fin 48) (l : List Word) : (s.holdOk i l).pair = s.pair := rfl
@[simp] theorem State.holdOk_flt (s : State) (i : Fin 48) (l : List Word) : (s.holdOk i l).flt = s.flt := rfl
@[simp] theorem State.holdOk_nvs (s : State) (i : Fin 48) (l : List Word) : (s.holdOk i l).nvs = s.nvs := rfl
@[simp] theorem State.holdOk_arc (s : State) (i : Fin 48) (l : List Word) : (s.holdOk i l).arc = s.arc := rfl
@[simp] theorem State.holdOk_age (s : State) (i : Fin 48) (l : List Word) : (s.holdOk i l).age = s.age := rfl
@[simp] theorem State.holdOk_store (s : State) (i : Fin 48) (l : List Word) : (s.holdOk i l).store = s.store := rfl
@[simp] theorem State.holdOk_ctrs (s : State) (i : Fin 48) (l : List Word) : (s.holdOk i l).ctrs = s.ctrs := rfl
@[simp] theorem State.holdOk_freeCtr (s : State) (i : Fin 48) (l : List Word) : (s.holdOk i l).freeCtr = s.freeCtr := rfl
@[simp] theorem State.holdOk_pending (s : State) (i : Fin 48) (l : List Word) : (s.holdOk i l).pending = s.pending := rfl

@[simp] theorem State.holdFail_hif (s : State) (i : Fin 48) (f : Fail) : (s.holdFail i f).hif = s.hif := rfl
@[simp] theorem State.holdFail_sys (s : State) (i : Fin 48) (f : Fail) : (s.holdFail i f).sys = s.sys := rfl
@[simp] theorem State.holdFail_time (s : State) (i : Fin 48) (f : Fail) : (s.holdFail i f).time = s.time := rfl
@[simp] theorem State.holdFail_kettle (s : State) (i : Fin 48) (f : Fail) : (s.holdFail i f).kettle = s.kettle := rfl
@[simp] theorem State.holdFail_root (s : State) (i : Fin 48) (f : Fail) : (s.holdFail i f).root = s.root := rfl
@[simp] theorem State.holdFail_meas (s : State) (i : Fin 48) (f : Fail) : (s.holdFail i f).meas = s.meas := rfl
@[simp] theorem State.holdFail_ref (s : State) (i : Fin 48) (f : Fail) : (s.holdFail i f).ref = s.ref := rfl
@[simp] theorem State.holdFail_loop (s : State) (i : Fin 48) (f : Fail) : (s.holdFail i f).loop = s.loop := rfl
@[simp] theorem State.holdFail_out (s : State) (i : Fin 48) (f : Fail) : (s.holdFail i f).out = s.out := rfl
@[simp] theorem State.holdFail_ptp (s : State) (i : Fin 48) (f : Fail) : (s.holdFail i f).ptp = s.ptp := rfl
@[simp] theorem State.holdFail_gnss (s : State) (i : Fin 48) (f : Fail) : (s.holdFail i f).gnss = s.gnss := rfl
@[simp] theorem State.holdFail_pair (s : State) (i : Fin 48) (f : Fail) : (s.holdFail i f).pair = s.pair := rfl
@[simp] theorem State.holdFail_flt (s : State) (i : Fin 48) (f : Fail) : (s.holdFail i f).flt = s.flt := rfl
@[simp] theorem State.holdFail_nvs (s : State) (i : Fin 48) (f : Fail) : (s.holdFail i f).nvs = s.nvs := rfl
@[simp] theorem State.holdFail_arc (s : State) (i : Fin 48) (f : Fail) : (s.holdFail i f).arc = s.arc := rfl
@[simp] theorem State.holdFail_age (s : State) (i : Fin 48) (f : Fail) : (s.holdFail i f).age = s.age := rfl
@[simp] theorem State.holdFail_store (s : State) (i : Fin 48) (f : Fail) : (s.holdFail i f).store = s.store := rfl
@[simp] theorem State.holdFail_ctrs (s : State) (i : Fin 48) (f : Fail) : (s.holdFail i f).ctrs = s.ctrs := rfl
@[simp] theorem State.holdFail_freeCtr (s : State) (i : Fin 48) (f : Fail) : (s.holdFail i f).freeCtr = s.freeCtr := rfl
@[simp] theorem State.holdFail_pending (s : State) (i : Fin 48) (f : Fail) : (s.holdFail i f).pending = s.pending := rfl

@[simp] theorem State.defer_hif (s : State) (i : Fin 48) : (s.defer i).hif = s.hif := rfl
@[simp] theorem State.defer_sys (s : State) (i : Fin 48) : (s.defer i).sys = s.sys := rfl
@[simp] theorem State.defer_time (s : State) (i : Fin 48) : (s.defer i).time = s.time := rfl
@[simp] theorem State.defer_kettle (s : State) (i : Fin 48) : (s.defer i).kettle = s.kettle := rfl
@[simp] theorem State.defer_root (s : State) (i : Fin 48) : (s.defer i).root = s.root := rfl
@[simp] theorem State.defer_meas (s : State) (i : Fin 48) : (s.defer i).meas = s.meas := rfl
@[simp] theorem State.defer_ref (s : State) (i : Fin 48) : (s.defer i).ref = s.ref := rfl
@[simp] theorem State.defer_loop (s : State) (i : Fin 48) : (s.defer i).loop = s.loop := rfl
@[simp] theorem State.defer_out (s : State) (i : Fin 48) : (s.defer i).out = s.out := rfl
@[simp] theorem State.defer_ptp (s : State) (i : Fin 48) : (s.defer i).ptp = s.ptp := rfl
@[simp] theorem State.defer_gnss (s : State) (i : Fin 48) : (s.defer i).gnss = s.gnss := rfl
@[simp] theorem State.defer_pair (s : State) (i : Fin 48) : (s.defer i).pair = s.pair := rfl
@[simp] theorem State.defer_flt (s : State) (i : Fin 48) : (s.defer i).flt = s.flt := rfl
@[simp] theorem State.defer_nvs (s : State) (i : Fin 48) : (s.defer i).nvs = s.nvs := rfl
@[simp] theorem State.defer_arc (s : State) (i : Fin 48) : (s.defer i).arc = s.arc := rfl
@[simp] theorem State.defer_age (s : State) (i : Fin 48) : (s.defer i).age = s.age := rfl
@[simp] theorem State.defer_store (s : State) (i : Fin 48) : (s.defer i).store = s.store := rfl
@[simp] theorem State.defer_ctrs (s : State) (i : Fin 48) : (s.defer i).ctrs = s.ctrs := rfl
@[simp] theorem State.defer_freeCtr (s : State) (i : Fin 48) : (s.defer i).freeCtr = s.freeCtr := rfl
@[simp] theorem State.defer_pending (s : State) (i : Fin 48) : (s.defer i).pending = s.pending := rfl

@[simp] theorem State.count_hif (s : State) (i n : Nat) : (s.count i n).hif = s.hif := rfl
@[simp] theorem State.count_mb (s : State) (i n : Nat) : (s.count i n).mb = s.mb := rfl
@[simp] theorem State.count_sys (s : State) (i n : Nat) : (s.count i n).sys = s.sys := rfl
@[simp] theorem State.count_time (s : State) (i n : Nat) : (s.count i n).time = s.time := rfl
@[simp] theorem State.count_kettle (s : State) (i n : Nat) : (s.count i n).kettle = s.kettle := rfl
@[simp] theorem State.count_root (s : State) (i n : Nat) : (s.count i n).root = s.root := rfl
@[simp] theorem State.count_meas (s : State) (i n : Nat) : (s.count i n).meas = s.meas := rfl
@[simp] theorem State.count_ref (s : State) (i n : Nat) : (s.count i n).ref = s.ref := rfl
@[simp] theorem State.count_loop (s : State) (i n : Nat) : (s.count i n).loop = s.loop := rfl
@[simp] theorem State.count_out (s : State) (i n : Nat) : (s.count i n).out = s.out := rfl
@[simp] theorem State.count_ptp (s : State) (i n : Nat) : (s.count i n).ptp = s.ptp := rfl
@[simp] theorem State.count_gnss (s : State) (i n : Nat) : (s.count i n).gnss = s.gnss := rfl
@[simp] theorem State.count_pair (s : State) (i n : Nat) : (s.count i n).pair = s.pair := rfl
@[simp] theorem State.count_flt (s : State) (i n : Nat) : (s.count i n).flt = s.flt := rfl
@[simp] theorem State.count_nvs (s : State) (i n : Nat) : (s.count i n).nvs = s.nvs := rfl
@[simp] theorem State.count_arc (s : State) (i n : Nat) : (s.count i n).arc = s.arc := rfl
@[simp] theorem State.count_age (s : State) (i n : Nat) : (s.count i n).age = s.age := rfl
@[simp] theorem State.count_store (s : State) (i n : Nat) : (s.count i n).store = s.store := rfl
@[simp] theorem State.count_freeCtr (s : State) (i n : Nat) : (s.count i n).freeCtr = s.freeCtr := rfl
@[simp] theorem State.count_pending (s : State) (i n : Nat) : (s.count i n).pending = s.pending := rfl

@[simp] theorem State.rollDone_hif (s : State) (k : Fin 13) : (s.rollDone k).hif = s.hif := rfl
@[simp] theorem State.rollDone_mb (s : State) (k : Fin 13) : (s.rollDone k).mb = s.mb := rfl
@[simp] theorem State.rollDone_sys (s : State) (k : Fin 13) : (s.rollDone k).sys = s.sys := rfl
@[simp] theorem State.rollDone_time (s : State) (k : Fin 13) : (s.rollDone k).time = s.time := rfl
@[simp] theorem State.rollDone_kettle (s : State) (k : Fin 13) : (s.rollDone k).kettle = s.kettle := rfl
@[simp] theorem State.rollDone_root (s : State) (k : Fin 13) : (s.rollDone k).root = s.root := rfl
@[simp] theorem State.rollDone_meas (s : State) (k : Fin 13) : (s.rollDone k).meas = s.meas := rfl
@[simp] theorem State.rollDone_ref (s : State) (k : Fin 13) : (s.rollDone k).ref = s.ref := rfl
@[simp] theorem State.rollDone_loop (s : State) (k : Fin 13) : (s.rollDone k).loop = s.loop := rfl
@[simp] theorem State.rollDone_out (s : State) (k : Fin 13) : (s.rollDone k).out = s.out := rfl
@[simp] theorem State.rollDone_ptp (s : State) (k : Fin 13) : (s.rollDone k).ptp = s.ptp := rfl
@[simp] theorem State.rollDone_gnss (s : State) (k : Fin 13) : (s.rollDone k).gnss = s.gnss := rfl
@[simp] theorem State.rollDone_pair (s : State) (k : Fin 13) : (s.rollDone k).pair = s.pair := rfl
@[simp] theorem State.rollDone_flt (s : State) (k : Fin 13) : (s.rollDone k).flt = s.flt := rfl
@[simp] theorem State.rollDone_nvs (s : State) (k : Fin 13) : (s.rollDone k).nvs = s.nvs := rfl
@[simp] theorem State.rollDone_arc (s : State) (k : Fin 13) : (s.rollDone k).arc = s.arc := rfl
@[simp] theorem State.rollDone_store (s : State) (k : Fin 13) : (s.rollDone k).store = s.store := rfl
@[simp] theorem State.rollDone_ctrs (s : State) (k : Fin 13) : (s.rollDone k).ctrs = s.ctrs := rfl
@[simp] theorem State.rollDone_freeCtr (s : State) (k : Fin 13) : (s.rollDone k).freeCtr = s.freeCtr := rfl
@[simp] theorem State.rollDone_pending (s : State) (k : Fin 13) : (s.rollDone k).pending = s.pending := rfl

@[simp] theorem State.log_hif (s : State) (g e u : Nat) (l : List Word) : (s.log g e u l).hif = s.hif := log_keep _ _ _ _ _ (fun x => x.hif) (fun _ _ => rfl) (fun _ _ => rfl)
@[simp] theorem State.log_mb (s : State) (g e u : Nat) (l : List Word) : (s.log g e u l).mb = s.mb := log_keep _ _ _ _ _ (fun x => x.mb) (fun _ _ => rfl) (fun _ _ => rfl)
@[simp] theorem State.log_sys (s : State) (g e u : Nat) (l : List Word) : (s.log g e u l).sys = s.sys := log_keep _ _ _ _ _ (fun x => x.sys) (fun _ _ => rfl) (fun _ _ => rfl)
@[simp] theorem State.log_time (s : State) (g e u : Nat) (l : List Word) : (s.log g e u l).time = s.time := log_keep _ _ _ _ _ (fun x => x.time) (fun _ _ => rfl) (fun _ _ => rfl)
@[simp] theorem State.log_kettle (s : State) (g e u : Nat) (l : List Word) : (s.log g e u l).kettle = s.kettle := log_keep _ _ _ _ _ (fun x => x.kettle) (fun _ _ => rfl) (fun _ _ => rfl)
@[simp] theorem State.log_root (s : State) (g e u : Nat) (l : List Word) : (s.log g e u l).root = s.root := log_keep _ _ _ _ _ (fun x => x.root) (fun _ _ => rfl) (fun _ _ => rfl)
@[simp] theorem State.log_meas (s : State) (g e u : Nat) (l : List Word) : (s.log g e u l).meas = s.meas := log_keep _ _ _ _ _ (fun x => x.meas) (fun _ _ => rfl) (fun _ _ => rfl)
@[simp] theorem State.log_ref (s : State) (g e u : Nat) (l : List Word) : (s.log g e u l).ref = s.ref := log_keep _ _ _ _ _ (fun x => x.ref) (fun _ _ => rfl) (fun _ _ => rfl)
@[simp] theorem State.log_loop (s : State) (g e u : Nat) (l : List Word) : (s.log g e u l).loop = s.loop := log_keep _ _ _ _ _ (fun x => x.loop) (fun _ _ => rfl) (fun _ _ => rfl)
@[simp] theorem State.log_out (s : State) (g e u : Nat) (l : List Word) : (s.log g e u l).out = s.out := log_keep _ _ _ _ _ (fun x => x.out) (fun _ _ => rfl) (fun _ _ => rfl)
@[simp] theorem State.log_ptp (s : State) (g e u : Nat) (l : List Word) : (s.log g e u l).ptp = s.ptp := log_keep _ _ _ _ _ (fun x => x.ptp) (fun _ _ => rfl) (fun _ _ => rfl)
@[simp] theorem State.log_gnss (s : State) (g e u : Nat) (l : List Word) : (s.log g e u l).gnss = s.gnss := log_keep _ _ _ _ _ (fun x => x.gnss) (fun _ _ => rfl) (fun _ _ => rfl)
@[simp] theorem State.log_pair (s : State) (g e u : Nat) (l : List Word) : (s.log g e u l).pair = s.pair := log_keep _ _ _ _ _ (fun x => x.pair) (fun _ _ => rfl) (fun _ _ => rfl)
@[simp] theorem State.log_flt (s : State) (g e u : Nat) (l : List Word) : (s.log g e u l).flt = s.flt := log_keep _ _ _ _ _ (fun x => x.flt) (fun _ _ => rfl) (fun _ _ => rfl)
@[simp] theorem State.log_nvs (s : State) (g e u : Nat) (l : List Word) : (s.log g e u l).nvs = s.nvs := log_keep _ _ _ _ _ (fun x => x.nvs) (fun _ _ => rfl) (fun _ _ => rfl)
@[simp] theorem State.log_age (s : State) (g e u : Nat) (l : List Word) : (s.log g e u l).age = s.age := log_keep _ _ _ _ _ (fun x => x.age) (fun _ _ => rfl) (fun _ _ => rfl)
@[simp] theorem State.log_store (s : State) (g e u : Nat) (l : List Word) : (s.log g e u l).store = s.store := log_keep _ _ _ _ _ (fun x => x.store) (fun _ _ => rfl) (fun _ _ => rfl)
@[simp] theorem State.log_freeCtr (s : State) (g e u : Nat) (l : List Word) : (s.log g e u l).freeCtr = s.freeCtr := log_keep _ _ _ _ _ (fun x => x.freeCtr) (fun _ _ => rfl) (fun _ _ => rfl)
@[simp] theorem State.log_pending (s : State) (g e u : Nat) (l : List Word) : (s.log g e u l).pending = s.pending := log_keep _ _ _ _ _ (fun x => x.pending) (fun _ _ => rfl) (fun _ _ => rfl)

@[simp] theorem State.latch_mb (s : State) : s.latch.mb = s.mb := rfl
@[simp] theorem State.latch_sys (s : State) : s.latch.sys = s.sys := rfl
@[simp] theorem State.latch_time (s : State) : s.latch.time = s.time := rfl
@[simp] theorem State.latch_kettle (s : State) : s.latch.kettle = s.kettle := rfl
@[simp] theorem State.latch_root (s : State) : s.latch.root = s.root := rfl
@[simp] theorem State.latch_meas (s : State) : s.latch.meas = s.meas := rfl
@[simp] theorem State.latch_ref (s : State) : s.latch.ref = s.ref := rfl
@[simp] theorem State.latch_loop (s : State) : s.latch.loop = s.loop := rfl
@[simp] theorem State.latch_out (s : State) : s.latch.out = s.out := rfl
@[simp] theorem State.latch_ptp (s : State) : s.latch.ptp = s.ptp := rfl
@[simp] theorem State.latch_gnss (s : State) : s.latch.gnss = s.gnss := rfl
@[simp] theorem State.latch_pair (s : State) : s.latch.pair = s.pair := rfl
@[simp] theorem State.latch_flt (s : State) : s.latch.flt = s.flt := rfl
@[simp] theorem State.latch_nvs (s : State) : s.latch.nvs = s.nvs := rfl
@[simp] theorem State.latch_arc (s : State) : s.latch.arc = s.arc := rfl
@[simp] theorem State.latch_age (s : State) : s.latch.age = s.age := rfl
@[simp] theorem State.latch_store (s : State) : s.latch.store = s.store := rfl
@[simp] theorem State.latch_ctrs (s : State) : s.latch.ctrs = s.ctrs := rfl
@[simp] theorem State.latch_freeCtr (s : State) : s.latch.freeCtr = s.freeCtr := rfl
@[simp] theorem State.latch_pending (s : State) : s.latch.pending = s.pending := rfl

@[simp] theorem State.trace_hif (s : State) : s.trace.hif = s.hif := by
    unfold State.trace
    dsimp only
    split
    · rfl
    · split
      · split
        · rfl
        · split <;> rfl
      · rfl
@[simp] theorem State.trace_mb (s : State) : s.trace.mb = s.mb := by
    unfold State.trace
    dsimp only
    split
    · rfl
    · split
      · split
        · rfl
        · split <;> rfl
      · rfl
@[simp] theorem State.trace_sys (s : State) : s.trace.sys = s.sys := by
    unfold State.trace
    dsimp only
    split
    · rfl
    · split
      · split
        · rfl
        · split <;> rfl
      · rfl
@[simp] theorem State.trace_time (s : State) : s.trace.time = s.time := by
    unfold State.trace
    dsimp only
    split
    · rfl
    · split
      · split
        · rfl
        · split <;> rfl
      · rfl
@[simp] theorem State.trace_kettle (s : State) : s.trace.kettle = s.kettle := by
    unfold State.trace
    dsimp only
    split
    · rfl
    · split
      · split
        · rfl
        · split <;> rfl
      · rfl
@[simp] theorem State.trace_root (s : State) : s.trace.root = s.root := by
    unfold State.trace
    dsimp only
    split
    · rfl
    · split
      · split
        · rfl
        · split <;> rfl
      · rfl
@[simp] theorem State.trace_meas (s : State) : s.trace.meas = s.meas := by
    unfold State.trace
    dsimp only
    split
    · rfl
    · split
      · split
        · rfl
        · split <;> rfl
      · rfl
@[simp] theorem State.trace_ref (s : State) : s.trace.ref = s.ref := by
    unfold State.trace
    dsimp only
    split
    · rfl
    · split
      · split
        · rfl
        · split <;> rfl
      · rfl
@[simp] theorem State.trace_out (s : State) : s.trace.out = s.out := by
    unfold State.trace
    dsimp only
    split
    · rfl
    · split
      · split
        · rfl
        · split <;> rfl
      · rfl
@[simp] theorem State.trace_ptp (s : State) : s.trace.ptp = s.ptp := by
    unfold State.trace
    dsimp only
    split
    · rfl
    · split
      · split
        · rfl
        · split <;> rfl
      · rfl
@[simp] theorem State.trace_gnss (s : State) : s.trace.gnss = s.gnss := by
    unfold State.trace
    dsimp only
    split
    · rfl
    · split
      · split
        · rfl
        · split <;> rfl
      · rfl
@[simp] theorem State.trace_pair (s : State) : s.trace.pair = s.pair := by
    unfold State.trace
    dsimp only
    split
    · rfl
    · split
      · split
        · rfl
        · split <;> rfl
      · rfl
@[simp] theorem State.trace_flt (s : State) : s.trace.flt = s.flt := by
    unfold State.trace
    dsimp only
    split
    · rfl
    · split
      · split
        · rfl
        · split <;> rfl
      · rfl
@[simp] theorem State.trace_nvs (s : State) : s.trace.nvs = s.nvs := by
    unfold State.trace
    dsimp only
    split
    · rfl
    · split
      · split
        · rfl
        · split <;> rfl
      · rfl
@[simp] theorem State.trace_arc (s : State) : s.trace.arc = s.arc := by
    unfold State.trace
    dsimp only
    split
    · rfl
    · split
      · split
        · rfl
        · split <;> rfl
      · rfl
@[simp] theorem State.trace_age (s : State) : s.trace.age = s.age := by
    unfold State.trace
    dsimp only
    split
    · rfl
    · split
      · split
        · rfl
        · split <;> rfl
      · rfl
@[simp] theorem State.trace_store (s : State) : s.trace.store = s.store := by
    unfold State.trace
    dsimp only
    split
    · rfl
    · split
      · split
        · rfl
        · split <;> rfl
      · rfl
@[simp] theorem State.trace_ctrs (s : State) : s.trace.ctrs = s.ctrs := by
    unfold State.trace
    dsimp only
    split
    · rfl
    · split
      · split
        · rfl
        · split <;> rfl
      · rfl
@[simp] theorem State.trace_freeCtr (s : State) : s.trace.freeCtr = s.freeCtr := by
    unfold State.trace
    dsimp only
    split
    · rfl
    · split
      · split
        · rfl
        · split <;> rfl
      · rfl
@[simp] theorem State.trace_pending (s : State) : s.trace.pending = s.pending := by
    unfold State.trace
    dsimp only
    split
    · rfl
    · split
      · split
        · rfl
        · split <;> rfl
      · rfl

@[simp] theorem State.countPended_hif (l : LoopU) (s : State) : (State.countPended l s).hif = s.hif := by unfold State.countPended; exact forFin_keep _ _ _ (fun x => x.hif) (fun i s => by split <;> rfl)
@[simp] theorem State.countPended_mb (l : LoopU) (s : State) : (State.countPended l s).mb = s.mb := by unfold State.countPended; exact forFin_keep _ _ _ (fun x => x.mb) (fun i s => by split <;> rfl)
@[simp] theorem State.countPended_sys (l : LoopU) (s : State) : (State.countPended l s).sys = s.sys := by unfold State.countPended; exact forFin_keep _ _ _ (fun x => x.sys) (fun i s => by split <;> rfl)
@[simp] theorem State.countPended_time (l : LoopU) (s : State) : (State.countPended l s).time = s.time := by unfold State.countPended; exact forFin_keep _ _ _ (fun x => x.time) (fun i s => by split <;> rfl)
@[simp] theorem State.countPended_kettle (l : LoopU) (s : State) : (State.countPended l s).kettle = s.kettle := by unfold State.countPended; exact forFin_keep _ _ _ (fun x => x.kettle) (fun i s => by split <;> rfl)
@[simp] theorem State.countPended_root (l : LoopU) (s : State) : (State.countPended l s).root = s.root := by unfold State.countPended; exact forFin_keep _ _ _ (fun x => x.root) (fun i s => by split <;> rfl)
@[simp] theorem State.countPended_meas (l : LoopU) (s : State) : (State.countPended l s).meas = s.meas := by unfold State.countPended; exact forFin_keep _ _ _ (fun x => x.meas) (fun i s => by split <;> rfl)
@[simp] theorem State.countPended_ref (l : LoopU) (s : State) : (State.countPended l s).ref = s.ref := by unfold State.countPended; exact forFin_keep _ _ _ (fun x => x.ref) (fun i s => by split <;> rfl)
@[simp] theorem State.countPended_loop (l : LoopU) (s : State) : (State.countPended l s).loop = s.loop := by unfold State.countPended; exact forFin_keep _ _ _ (fun x => x.loop) (fun i s => by split <;> rfl)
@[simp] theorem State.countPended_out (l : LoopU) (s : State) : (State.countPended l s).out = s.out := by unfold State.countPended; exact forFin_keep _ _ _ (fun x => x.out) (fun i s => by split <;> rfl)
@[simp] theorem State.countPended_ptp (l : LoopU) (s : State) : (State.countPended l s).ptp = s.ptp := by unfold State.countPended; exact forFin_keep _ _ _ (fun x => x.ptp) (fun i s => by split <;> rfl)
@[simp] theorem State.countPended_gnss (l : LoopU) (s : State) : (State.countPended l s).gnss = s.gnss := by unfold State.countPended; exact forFin_keep _ _ _ (fun x => x.gnss) (fun i s => by split <;> rfl)
@[simp] theorem State.countPended_pair (l : LoopU) (s : State) : (State.countPended l s).pair = s.pair := by unfold State.countPended; exact forFin_keep _ _ _ (fun x => x.pair) (fun i s => by split <;> rfl)
@[simp] theorem State.countPended_flt (l : LoopU) (s : State) : (State.countPended l s).flt = s.flt := by unfold State.countPended; exact forFin_keep _ _ _ (fun x => x.flt) (fun i s => by split <;> rfl)
@[simp] theorem State.countPended_nvs (l : LoopU) (s : State) : (State.countPended l s).nvs = s.nvs := by unfold State.countPended; exact forFin_keep _ _ _ (fun x => x.nvs) (fun i s => by split <;> rfl)
@[simp] theorem State.countPended_arc (l : LoopU) (s : State) : (State.countPended l s).arc = s.arc := by unfold State.countPended; exact forFin_keep _ _ _ (fun x => x.arc) (fun i s => by split <;> rfl)
@[simp] theorem State.countPended_age (l : LoopU) (s : State) : (State.countPended l s).age = s.age := by unfold State.countPended; exact forFin_keep _ _ _ (fun x => x.age) (fun i s => by split <;> rfl)
@[simp] theorem State.countPended_store (l : LoopU) (s : State) : (State.countPended l s).store = s.store := by unfold State.countPended; exact forFin_keep _ _ _ (fun x => x.store) (fun i s => by split <;> rfl)
@[simp] theorem State.countPended_freeCtr (l : LoopU) (s : State) : (State.countPended l s).freeCtr = s.freeCtr := by unfold State.countPended; exact forFin_keep _ _ _ (fun x => x.freeCtr) (fun i s => by split <;> rfl)
@[simp] theorem State.countPended_pending (l : LoopU) (s : State) : (State.countPended l s).pending = s.pending := by unfold State.countPended; exact forFin_keep _ _ _ (fun x => x.pending) (fun i s => by split <;> rfl)

@[simp] theorem State.toState_mb (s : State) (m : ModState) : (s.toState m).mb = s.mb := by
    unfold State.toState
    dsimp only
    split
    · rfl
    · (repeat' split) <;> simp
@[simp] theorem State.toState_time (s : State) (m : ModState) : (s.toState m).time = s.time := by
    unfold State.toState
    dsimp only
    split
    · rfl
    · (repeat' split) <;> simp
@[simp] theorem State.toState_kettle (s : State) (m : ModState) : (s.toState m).kettle = s.kettle := by
    unfold State.toState
    dsimp only
    split
    · rfl
    · (repeat' split) <;> simp
@[simp] theorem State.toState_root (s : State) (m : ModState) : (s.toState m).root = s.root := by
    unfold State.toState
    dsimp only
    split
    · rfl
    · (repeat' split) <;> simp
@[simp] theorem State.toState_meas (s : State) (m : ModState) : (s.toState m).meas = s.meas := by
    unfold State.toState
    dsimp only
    split
    · rfl
    · (repeat' split) <;> simp
@[simp] theorem State.toState_ref (s : State) (m : ModState) : (s.toState m).ref = s.ref := by
    unfold State.toState
    dsimp only
    split
    · rfl
    · (repeat' split) <;> simp
@[simp] theorem State.toState_ptp (s : State) (m : ModState) : (s.toState m).ptp = s.ptp := by
    unfold State.toState
    dsimp only
    split
    · rfl
    · (repeat' split) <;> simp
@[simp] theorem State.toState_gnss (s : State) (m : ModState) : (s.toState m).gnss = s.gnss := by
    unfold State.toState
    dsimp only
    split
    · rfl
    · (repeat' split) <;> simp
@[simp] theorem State.toState_pair (s : State) (m : ModState) : (s.toState m).pair = s.pair := by
    unfold State.toState
    dsimp only
    split
    · rfl
    · (repeat' split) <;> simp
@[simp] theorem State.toState_flt (s : State) (m : ModState) : (s.toState m).flt = s.flt := by
    unfold State.toState
    dsimp only
    split
    · rfl
    · (repeat' split) <;> simp
@[simp] theorem State.toState_nvs (s : State) (m : ModState) : (s.toState m).nvs = s.nvs := by
    unfold State.toState
    dsimp only
    split
    · rfl
    · (repeat' split) <;> simp
@[simp] theorem State.toState_age (s : State) (m : ModState) : (s.toState m).age = s.age := by
    unfold State.toState
    dsimp only
    split
    · rfl
    · (repeat' split) <;> simp
@[simp] theorem State.toState_store (s : State) (m : ModState) : (s.toState m).store = s.store := by
    unfold State.toState
    dsimp only
    split
    · rfl
    · (repeat' split) <;> simp
@[simp] theorem State.toState_freeCtr (s : State) (m : ModState) : (s.toState m).freeCtr = s.freeCtr := by
    unfold State.toState
    dsimp only
    split
    · rfl
    · (repeat' split) <;> simp
@[simp] theorem State.toState_pending (s : State) (m : ModState) : (s.toState m).pending = s.pending := by
    unfold State.toState
    dsimp only
    split
    · rfl
    · (repeat' split) <;> simp

@[simp] theorem State.settle1_mb (s : State) : s.settle1.mb = s.mb := by simp [State.settle1]
@[simp] theorem State.settle1_time (s : State) : s.settle1.time = s.time := by simp [State.settle1]
@[simp] theorem State.settle1_kettle (s : State) : s.settle1.kettle = s.kettle := by simp [State.settle1]
@[simp] theorem State.settle1_root (s : State) : s.settle1.root = s.root := by simp [State.settle1]
@[simp] theorem State.settle1_meas (s : State) : s.settle1.meas = s.meas := by simp [State.settle1]
@[simp] theorem State.settle1_ref (s : State) : s.settle1.ref = s.ref := by simp [State.settle1]
@[simp] theorem State.settle1_ptp (s : State) : s.settle1.ptp = s.ptp := by simp [State.settle1]
@[simp] theorem State.settle1_gnss (s : State) : s.settle1.gnss = s.gnss := by simp [State.settle1]
@[simp] theorem State.settle1_pair (s : State) : s.settle1.pair = s.pair := by simp [State.settle1]
@[simp] theorem State.settle1_flt (s : State) : s.settle1.flt = s.flt := by simp [State.settle1]
@[simp] theorem State.settle1_nvs (s : State) : s.settle1.nvs = s.nvs := by simp [State.settle1]
@[simp] theorem State.settle1_age (s : State) : s.settle1.age = s.age := by simp [State.settle1]
@[simp] theorem State.settle1_store (s : State) : s.settle1.store = s.store := by simp [State.settle1]
@[simp] theorem State.settle1_freeCtr (s : State) : s.settle1.freeCtr = s.freeCtr := by simp [State.settle1]
@[simp] theorem State.settle1_pending (s : State) : s.settle1.pending = s.pending := by simp [State.settle1]

@[simp] theorem State.settle_mb (s : State) : s.settle.mb = s.mb := by simp [State.settle]
@[simp] theorem State.settle_time (s : State) : s.settle.time = s.time := by simp [State.settle]
@[simp] theorem State.settle_kettle (s : State) : s.settle.kettle = s.kettle := by simp [State.settle]
@[simp] theorem State.settle_root (s : State) : s.settle.root = s.root := by simp [State.settle]
@[simp] theorem State.settle_meas (s : State) : s.settle.meas = s.meas := by simp [State.settle]
@[simp] theorem State.settle_ref (s : State) : s.settle.ref = s.ref := by simp [State.settle]
@[simp] theorem State.settle_ptp (s : State) : s.settle.ptp = s.ptp := by simp [State.settle]
@[simp] theorem State.settle_gnss (s : State) : s.settle.gnss = s.gnss := by simp [State.settle]
@[simp] theorem State.settle_pair (s : State) : s.settle.pair = s.pair := by simp [State.settle]
@[simp] theorem State.settle_flt (s : State) : s.settle.flt = s.flt := by simp [State.settle]
@[simp] theorem State.settle_nvs (s : State) : s.settle.nvs = s.nvs := by simp [State.settle]
@[simp] theorem State.settle_age (s : State) : s.settle.age = s.age := by simp [State.settle]
@[simp] theorem State.settle_store (s : State) : s.settle.store = s.store := by simp [State.settle]
@[simp] theorem State.settle_freeCtr (s : State) : s.settle.freeCtr = s.freeCtr := by simp [State.settle]
@[simp] theorem State.settle_pending (s : State) : s.settle.pending = s.pending := by simp [State.settle]

@[simp] theorem State.commit_mb (s : State) : s.commit.mb = s.mb := by simp [State.commit]
@[simp] theorem State.commit_time (s : State) : s.commit.time = s.time := by simp [State.commit]
@[simp] theorem State.commit_kettle (s : State) : s.commit.kettle = s.kettle := by simp [State.commit]
@[simp] theorem State.commit_root (s : State) : s.commit.root = s.root := by simp [State.commit]
@[simp] theorem State.commit_meas (s : State) : s.commit.meas = s.meas := by simp [State.commit]
@[simp] theorem State.commit_ref (s : State) : s.commit.ref = s.ref := by simp [State.commit]
@[simp] theorem State.commit_ptp (s : State) : s.commit.ptp = s.ptp := by simp [State.commit]
@[simp] theorem State.commit_gnss (s : State) : s.commit.gnss = s.gnss := by simp [State.commit]
@[simp] theorem State.commit_pair (s : State) : s.commit.pair = s.pair := by simp [State.commit]
@[simp] theorem State.commit_flt (s : State) : s.commit.flt = s.flt := by simp [State.commit]
@[simp] theorem State.commit_nvs (s : State) : s.commit.nvs = s.nvs := by simp [State.commit]
@[simp] theorem State.commit_age (s : State) : s.commit.age = s.age := by simp [State.commit]
@[simp] theorem State.commit_store (s : State) : s.commit.store = s.store := by simp [State.commit]
@[simp] theorem State.commit_freeCtr (s : State) : s.commit.freeCtr = s.freeCtr := by simp [State.commit]
@[simp] theorem State.commit_pending (s : State) : s.commit.pending = s.pending := by simp [State.commit]

@[simp] theorem State.steered_hif (dv : Int) (s : State) : (State.steered dv s).hif = s.hif := by unfold State.steered; split <;> rfl
@[simp] theorem State.steered_mb (dv : Int) (s : State) : (State.steered dv s).mb = s.mb := by unfold State.steered; split <;> rfl
@[simp] theorem State.steered_sys (dv : Int) (s : State) : (State.steered dv s).sys = s.sys := by unfold State.steered; split <;> rfl
@[simp] theorem State.steered_time (dv : Int) (s : State) : (State.steered dv s).time = s.time := by unfold State.steered; split <;> rfl
@[simp] theorem State.steered_kettle (dv : Int) (s : State) : (State.steered dv s).kettle = s.kettle := by unfold State.steered; split <;> rfl
@[simp] theorem State.steered_root (dv : Int) (s : State) : (State.steered dv s).root = s.root := by unfold State.steered; split <;> rfl
@[simp] theorem State.steered_meas (dv : Int) (s : State) : (State.steered dv s).meas = s.meas := by unfold State.steered; split <;> rfl
@[simp] theorem State.steered_loop (dv : Int) (s : State) : (State.steered dv s).loop = s.loop := by unfold State.steered; split <;> rfl
@[simp] theorem State.steered_out (dv : Int) (s : State) : (State.steered dv s).out = s.out := by unfold State.steered; split <;> rfl
@[simp] theorem State.steered_ptp (dv : Int) (s : State) : (State.steered dv s).ptp = s.ptp := by unfold State.steered; split <;> rfl
@[simp] theorem State.steered_gnss (dv : Int) (s : State) : (State.steered dv s).gnss = s.gnss := by unfold State.steered; split <;> rfl
@[simp] theorem State.steered_pair (dv : Int) (s : State) : (State.steered dv s).pair = s.pair := by unfold State.steered; split <;> rfl
@[simp] theorem State.steered_flt (dv : Int) (s : State) : (State.steered dv s).flt = s.flt := by unfold State.steered; split <;> rfl
@[simp] theorem State.steered_nvs (dv : Int) (s : State) : (State.steered dv s).nvs = s.nvs := by unfold State.steered; split <;> rfl
@[simp] theorem State.steered_arc (dv : Int) (s : State) : (State.steered dv s).arc = s.arc := by unfold State.steered; split <;> rfl
@[simp] theorem State.steered_age (dv : Int) (s : State) : (State.steered dv s).age = s.age := by unfold State.steered; split <;> rfl
@[simp] theorem State.steered_store (dv : Int) (s : State) : (State.steered dv s).store = s.store := by unfold State.steered; split <;> rfl
@[simp] theorem State.steered_ctrs (dv : Int) (s : State) : (State.steered dv s).ctrs = s.ctrs := by unfold State.steered; split <;> rfl
@[simp] theorem State.steered_freeCtr (dv : Int) (s : State) : (State.steered dv s).freeCtr = s.freeCtr := by unfold State.steered; split <;> rfl
@[simp] theorem State.steered_pending (dv : Int) (s : State) : (State.steered dv s).pending = s.pending := by unfold State.steered; split <;> rfl

@[simp] theorem State.advance_hif (t : Nat) (s : State) : (s.advance t).hif = s.hif := by
    unfold State.advance
    dsimp only
    split
    · rfl
    · simp
@[simp] theorem State.advance_mb (t : Nat) (s : State) : (s.advance t).mb = s.mb := by
    unfold State.advance
    dsimp only
    split
    · rfl
    · simp
@[simp] theorem State.advance_sys (t : Nat) (s : State) : (s.advance t).sys = s.sys := by
    unfold State.advance
    dsimp only
    split
    · rfl
    · simp
@[simp] theorem State.advance_kettle (t : Nat) (s : State) : (s.advance t).kettle = s.kettle := by
    unfold State.advance
    dsimp only
    split
    · rfl
    · simp
@[simp] theorem State.advance_root (t : Nat) (s : State) : (s.advance t).root = s.root := by
    unfold State.advance
    dsimp only
    split
    · rfl
    · simp
@[simp] theorem State.advance_meas (t : Nat) (s : State) : (s.advance t).meas = s.meas := by
    unfold State.advance
    dsimp only
    split
    · rfl
    · simp
@[simp] theorem State.advance_out (t : Nat) (s : State) : (s.advance t).out = s.out := by
    unfold State.advance
    dsimp only
    split
    · rfl
    · simp
@[simp] theorem State.advance_ptp (t : Nat) (s : State) : (s.advance t).ptp = s.ptp := by
    unfold State.advance
    dsimp only
    split
    · rfl
    · simp
@[simp] theorem State.advance_gnss (t : Nat) (s : State) : (s.advance t).gnss = s.gnss := by
    unfold State.advance
    dsimp only
    split
    · rfl
    · simp
@[simp] theorem State.advance_pair (t : Nat) (s : State) : (s.advance t).pair = s.pair := by
    unfold State.advance
    dsimp only
    split
    · rfl
    · simp
@[simp] theorem State.advance_flt (t : Nat) (s : State) : (s.advance t).flt = s.flt := by
    unfold State.advance
    dsimp only
    split
    · rfl
    · simp
@[simp] theorem State.advance_nvs (t : Nat) (s : State) : (s.advance t).nvs = s.nvs := by
    unfold State.advance
    dsimp only
    split
    · rfl
    · simp
@[simp] theorem State.advance_arc (t : Nat) (s : State) : (s.advance t).arc = s.arc := by
    unfold State.advance
    dsimp only
    split
    · rfl
    · simp
@[simp] theorem State.advance_age (t : Nat) (s : State) : (s.advance t).age = s.age := by
    unfold State.advance
    dsimp only
    split
    · rfl
    · simp
@[simp] theorem State.advance_store (t : Nat) (s : State) : (s.advance t).store = s.store := by
    unfold State.advance
    dsimp only
    split
    · rfl
    · simp
@[simp] theorem State.advance_ctrs (t : Nat) (s : State) : (s.advance t).ctrs = s.ctrs := by
    unfold State.advance
    dsimp only
    split
    · rfl
    · simp
@[simp] theorem State.advance_freeCtr (t : Nat) (s : State) : (s.advance t).freeCtr = s.freeCtr := by
    unfold State.advance
    dsimp only
    split
    · rfl
    · simp
@[simp] theorem State.advance_pending (t : Nat) (s : State) : (s.advance t).pending = s.pending := by
    unfold State.advance
    dsimp only
    split
    · rfl
    · simp

end Sys2Proof.Machine
end

