-- ==== Sys2Proof/Laws/Keep.lean ====
section
/-!
SUPPORT. What the end of a step and the passage of time leave alone inside the parts of State they do touch: every
field of the host interface but CHIME_STATUS, every field of the system part but the module state, and of a DPLL
every field but those that steering, slewing and the running sums move.
-/

namespace Sys2Proof.Machine

theorem vget_vmod_same {α : Type} {n : Nat} (v : Vector α n) (i : Fin n) (f : α → α) : vget (vmod v i f) i = f (vget v i) := by
  simp [vget, vmod]

theorem vget_vmod_ne {α : Type} {n : Nat} (v : Vector α n) (i j : Fin n) (f : α → α) (h : i ≠ j) : vget (vmod v i f) j = vget v j := by
  have : i.val ≠ j.val := fun e => h (Fin.ext e)
  simp [vget, vmod, this]

theorem vget_vmap {α β : Type} {n : Nat} (v : Vector α n) (f : α → β) (i : Fin n) : vget (vmap v f) i = f (vget v i) := by
  simp [vget, vmap]

theorem vget_vmapIdx {α β : Type} {n : Nat} (v : Vector α n) (f : Nat → α → β) (i : Fin n) :
    vget (vmapIdx v f) i = f i.val (vget v i) := by
  simp [vget, vmapIdx]

/-- An update under a condition keeps what the update keeps. -/
theorem ite_keep {α : Type} (p : State → α) (c : Prop) [Decidable c] (a s : State) (h : p a = p s) : p (if c then a else s) = p s := by
  split
  · exact h
  · rfl

/-- What a change of module state keeps, from what each of its updates keeps. -/
theorem toState_keep {α : Type} (p : State → α)
    (hs : ∀ s m n, p (s.onSys fun y => { y with mstate := m, since := n }) = p s)
    (ho : ∀ s b, p (s.onOut fun o => { o with slewFrom := b }) = p s) (hp : ∀ s, p (s.onOut Out.stopSlews) = p s)
    (hl : ∀ s m n, p (s.onLoop fun l => { l with dplls := vmap l.dplls (Dpll.onState m n) }) = p s)
    (hc : ∀ s i, p (s.count i) = p s) (ha : ∀ s f, p (s.onArc f) = p s) (hb : ∀ s b, p (s.chime b) = p s)
    (s : State) (m : ModState) : p (s.toState m) = p s := by
  unfold State.toState
  dsimp only
  split
  · rfl
  · rw [hb, log_keep _ _ _ _ _ p hc ha]
    unfold State.countPended
    rw [forFin_keep _ _ _ p (fun i s => ite_keep p _ _ s (hc s _)), hl]
    split <;> split <;> simp only [hp, ho, hs]

/-- What the end of a step keeps, from what each of its updates keeps. -/
theorem commit_keep {α : Type} (p : State → α)
    (hs : ∀ s m n, p (s.onSys fun y => { y with mstate := m, since := n }) = p s)
    (ho : ∀ s b, p (s.onOut fun o => { o with slewFrom := b }) = p s) (hp : ∀ s, p (s.onOut Out.stopSlews) = p s)
    (hl : ∀ s m n, p (s.onLoop fun l => { l with dplls := vmap l.dplls (Dpll.onState m n) }) = p s)
    (ht : ∀ s (f g : LoopU → Bool), p (s.onLoop fun l => { l with traceHeld := f l, fTraceHeld := g l }) = p s)
    (hc : ∀ s i, p (s.count i) = p s) (ha : ∀ s f, p (s.onArc f) = p s) (hb : ∀ s b, p (s.chime b) = p s)
    (hk : ∀ s : State, p s.latch = p s) (s : State) : p s.commit = p s := by
  have h1 : ∀ s : State, p s.settle1 = p s := by
    intro s
    exact toState_keep p hs ho hp hl hc ha hb _ _
  have h2 : ∀ s : State, p s.trace = p s := by
    intro s
    unfold State.trace
    dsimp only
    split
    · exact ht _ (fun _ => false) (·.fTraceHeld)
    · split
      · split
        · exact ht _ (fun _ => false) (fun _ => _)
        · split
          · exact ht _ (fun _ => true) (fun _ => _)
          · exact ht _ (·.traceHeld) (fun _ => _)
      · rfl
  simp only [State.commit, State.settle, hk, h2, h1]

@[simp] theorem State.commit_hif_err (s : State) : s.commit.hif.err = s.hif.err :=
  commit_keep (fun x => x.hif.err) (fun _ _ _ => rfl) (fun _ _ => rfl) (fun _ => rfl) (fun _ _ _ => rfl) (fun _ _ _ => rfl) (fun _ _ => rfl) (fun _ _ => rfl) (fun _ _ => rfl) (fun _ => rfl) s
@[simp] theorem State.commit_hif_scratch (s : State) : s.commit.hif.scratch = s.hif.scratch :=
  commit_keep (fun x => x.hif.scratch) (fun _ _ _ => rfl) (fun _ _ => rfl) (fun _ => rfl) (fun _ _ _ => rfl) (fun _ _ _ => rfl) (fun _ _ => rfl) (fun _ _ => rfl) (fun _ _ => rfl) (fun _ => rfl) s
@[simp] theorem State.commit_hif_inRecall (s : State) : s.commit.hif.inRecall = s.hif.inRecall :=
  commit_keep (fun x => x.hif.inRecall) (fun _ _ _ => rfl) (fun _ _ => rfl) (fun _ => rfl) (fun _ _ _ => rfl) (fun _ _ _ => rfl) (fun _ _ => rfl) (fun _ _ => rfl) (fun _ _ => rfl) (fun _ => rfl) s
@[simp] theorem State.commit_hif_fwReady (s : State) : s.commit.hif.fwReady = s.hif.fwReady :=
  commit_keep (fun x => x.hif.fwReady) (fun _ _ _ => rfl) (fun _ _ => rfl) (fun _ => rfl) (fun _ _ _ => rfl) (fun _ _ _ => rfl) (fun _ _ => rfl) (fun _ _ => rfl) (fun _ _ => rfl) (fun _ => rfl) s
@[simp] theorem State.commit_hif_armGroups (s : State) : s.commit.hif.armGroups = s.hif.armGroups :=
  commit_keep (fun x => x.hif.armGroups) (fun _ _ _ => rfl) (fun _ _ => rfl) (fun _ => rfl) (fun _ _ _ => rfl) (fun _ _ _ => rfl) (fun _ _ => rfl) (fun _ _ => rfl) (fun _ _ => rfl) (fun _ => rfl) s
@[simp] theorem State.commit_hif_armSecond (s : State) : s.commit.hif.armSecond = s.hif.armSecond :=
  commit_keep (fun x => x.hif.armSecond) (fun _ _ _ => rfl) (fun _ _ => rfl) (fun _ => rfl) (fun _ _ _ => rfl) (fun _ _ _ => rfl) (fun _ _ => rfl) (fun _ _ => rfl) (fun _ _ => rfl) (fun _ => rfl) s
@[simp] theorem State.commit_hif_pend (s : State) : s.commit.hif.pend = s.hif.pend :=
  commit_keep (fun x => x.hif.pend) (fun _ _ _ => rfl) (fun _ _ => rfl) (fun _ => rfl) (fun _ _ _ => rfl) (fun _ _ _ => rfl) (fun _ _ => rfl) (fun _ _ => rfl) (fun _ _ => rfl) (fun _ => rfl) s
@[simp] theorem State.commit_hif_queued (s : State) : s.commit.hif.queued = s.hif.queued :=
  commit_keep (fun x => x.hif.queued) (fun _ _ _ => rfl) (fun _ _ => rfl) (fun _ => rfl) (fun _ _ _ => rfl) (fun _ _ _ => rfl) (fun _ _ => rfl) (fun _ _ => rfl) (fun _ _ => rfl) (fun _ => rfl) s
@[simp] theorem State.commit_hif_applyCount (s : State) : s.commit.hif.applyCount = s.hif.applyCount :=
  commit_keep (fun x => x.hif.applyCount) (fun _ _ _ => rfl) (fun _ _ => rfl) (fun _ => rfl) (fun _ _ _ => rfl) (fun _ _ _ => rfl) (fun _ _ => rfl) (fun _ _ => rfl) (fun _ _ => rfl) (fun _ => rfl) s
@[simp] theorem State.commit_hif_overflow (s : State) : s.commit.hif.overflow = s.hif.overflow :=
  commit_keep (fun x => x.hif.overflow) (fun _ _ _ => rfl) (fun _ _ => rfl) (fun _ => rfl) (fun _ _ _ => rfl) (fun _ _ _ => rfl) (fun _ _ => rfl) (fun _ _ => rfl) (fun _ _ => rfl) (fun _ => rfl) s
@[simp] theorem State.commit_hif_applied (s : State) : s.commit.hif.applied = s.hif.applied :=
  commit_keep (fun x => x.hif.applied) (fun _ _ _ => rfl) (fun _ _ => rfl) (fun _ => rfl) (fun _ _ _ => rfl) (fun _ _ _ => rfl) (fun _ _ => rfl) (fun _ _ => rfl) (fun _ _ => rfl) (fun _ => rfl) s
@[simp] theorem State.commit_hif_lastApplied (s : State) : s.commit.hif.lastApplied = s.hif.lastApplied :=
  commit_keep (fun x => x.hif.lastApplied) (fun _ _ _ => rfl) (fun _ _ => rfl) (fun _ => rfl) (fun _ _ _ => rfl) (fun _ _ _ => rfl) (fun _ _ => rfl) (fun _ _ => rfl) (fun _ _ => rfl) (fun _ => rfl) s
@[simp] theorem State.commit_hif_ports (s : State) : s.commit.hif.ports = s.hif.ports :=
  commit_keep (fun x => x.hif.ports) (fun _ _ _ => rfl) (fun _ _ => rfl) (fun _ => rfl) (fun _ _ _ => rfl) (fun _ _ _ => rfl) (fun _ _ => rfl) (fun _ _ => rfl) (fun _ _ => rfl) (fun _ => rfl) s
@[simp] theorem State.commit_hif_ind (s : State) : s.commit.hif.ind = s.hif.ind :=
  commit_keep (fun x => x.hif.ind) (fun _ _ _ => rfl) (fun _ _ => rfl) (fun _ => rfl) (fun _ _ _ => rfl) (fun _ _ _ => rfl) (fun _ _ => rfl) (fun _ _ => rfl) (fun _ _ => rfl) (fun _ => rfl) s
@[simp] theorem State.commit_hif_chimeEnable (s : State) : s.commit.hif.chimeEnable = s.hif.chimeEnable :=
  commit_keep (fun x => x.hif.chimeEnable) (fun _ _ _ => rfl) (fun _ _ => rfl) (fun _ => rfl) (fun _ _ _ => rfl) (fun _ _ _ => rfl) (fun _ _ => rfl) (fun _ _ => rfl) (fun _ _ => rfl) (fun _ => rfl) s
@[simp] theorem State.commit_hif_loadEn (s : State) : s.commit.hif.loadEn = s.hif.loadEn :=
  commit_keep (fun x => x.hif.loadEn) (fun _ _ _ => rfl) (fun _ _ => rfl) (fun _ => rfl) (fun _ _ _ => rfl) (fun _ _ _ => rfl) (fun _ _ => rfl) (fun _ _ => rfl) (fun _ _ => rfl) (fun _ => rfl) s
@[simp] theorem State.commit_hif_injEnable (s : State) : s.commit.hif.injEnable = s.hif.injEnable :=
  commit_keep (fun x => x.hif.injEnable) (fun _ _ _ => rfl) (fun _ _ => rfl) (fun _ => rfl) (fun _ _ _ => rfl) (fun _ _ _ => rfl) (fun _ _ => rfl) (fun _ _ => rfl) (fun _ _ => rfl) (fun _ => rfl) s
@[simp] theorem State.commit_hif_rawWrEn (s : State) : s.commit.hif.rawWrEn = s.hif.rawWrEn :=
  commit_keep (fun x => x.hif.rawWrEn) (fun _ _ _ => rfl) (fun _ _ => rfl) (fun _ => rfl) (fun _ _ _ => rfl) (fun _ _ _ => rfl) (fun _ _ => rfl) (fun _ _ => rfl) (fun _ _ => rfl) (fun _ => rfl) s
@[simp] theorem State.commit_hif_lastSet (s : State) : s.commit.hif.lastSet = s.hif.lastSet :=
  commit_keep (fun x => x.hif.lastSet) (fun _ _ _ => rfl) (fun _ _ => rfl) (fun _ => rfl) (fun _ _ _ => rfl) (fun _ _ _ => rfl) (fun _ _ => rfl) (fun _ _ => rfl) (fun _ _ => rfl) (fun _ => rfl) s
@[simp] theorem State.commit_hif_lastClr (s : State) : s.commit.hif.lastClr = s.hif.lastClr :=
  commit_keep (fun x => x.hif.lastClr) (fun _ _ _ => rfl) (fun _ _ => rfl) (fun _ => rfl) (fun _ _ _ => rfl) (fun _ _ _ => rfl) (fun _ _ => rfl) (fun _ _ => rfl) (fun _ _ => rfl) (fun _ => rfl) s

@[simp] theorem State.commit_sys_upFrom (s : State) : s.commit.sys.upFrom = s.sys.upFrom :=
  commit_keep (fun x => x.sys.upFrom) (fun _ _ _ => rfl) (fun _ _ => rfl) (fun _ => rfl) (fun _ _ _ => rfl) (fun _ _ _ => rfl) (fun _ _ => rfl) (fun _ _ => rfl) (fun _ _ => rfl) (fun _ => rfl) s
@[simp] theorem State.commit_sys_resetCause (s : State) : s.commit.sys.resetCause = s.sys.resetCause :=
  commit_keep (fun x => x.sys.resetCause) (fun _ _ _ => rfl) (fun _ _ => rfl) (fun _ => rfl) (fun _ _ _ => rfl) (fun _ _ _ => rfl) (fun _ _ => rfl) (fun _ _ => rfl) (fun _ _ => rfl) (fun _ => rfl) s
@[simp] theorem State.commit_sys_powered (s : State) : s.commit.sys.powered = s.sys.powered :=
  commit_keep (fun x => x.sys.powered) (fun _ _ _ => rfl) (fun _ _ => rfl) (fun _ => rfl) (fun _ _ _ => rfl) (fun _ _ _ => rfl) (fun _ _ => rfl) (fun _ _ => rfl) (fun _ _ => rfl) (fun _ => rfl) s
@[simp] theorem State.commit_sys_inReset (s : State) : s.commit.sys.inReset = s.sys.inReset :=
  commit_keep (fun x => x.sys.inReset) (fun _ _ _ => rfl) (fun _ _ => rfl) (fun _ => rfl) (fun _ _ _ => rfl) (fun _ _ _ => rfl) (fun _ _ => rfl) (fun _ _ => rfl) (fun _ _ => rfl) (fun _ => rfl) s
@[simp] theorem State.commit_sys_i2cAddr (s : State) : s.commit.sys.i2cAddr = s.sys.i2cAddr :=
  commit_keep (fun x => x.sys.i2cAddr) (fun _ _ _ => rfl) (fun _ _ => rfl) (fun _ => rfl) (fun _ _ _ => rfl) (fun _ _ _ => rfl) (fun _ _ => rfl) (fun _ _ => rfl) (fun _ _ => rfl) (fun _ => rfl) s
@[simp] theorem State.commit_sys_slotB (s : State) : s.commit.sys.slotB = s.sys.slotB :=
  commit_keep (fun x => x.sys.slotB) (fun _ _ _ => rfl) (fun _ _ => rfl) (fun _ => rfl) (fun _ _ _ => rfl) (fun _ _ _ => rfl) (fun _ _ => rfl) (fun _ _ => rfl) (fun _ _ => rfl) (fun _ => rfl) s
@[simp] theorem State.commit_sys_wp (s : State) : s.commit.sys.wp = s.sys.wp :=
  commit_keep (fun x => x.sys.wp) (fun _ _ _ => rfl) (fun _ _ => rfl) (fun _ => rfl) (fun _ _ _ => rfl) (fun _ _ _ => rfl) (fun _ _ => rfl) (fun _ _ => rfl) (fun _ _ => rfl) (fun _ => rfl) s
@[simp] theorem State.commit_sys_test (s : State) : s.commit.sys.test = s.sys.test :=
  commit_keep (fun x => x.sys.test) (fun _ _ _ => rfl) (fun _ _ => rfl) (fun _ => rfl) (fun _ _ _ => rfl) (fun _ _ _ => rfl) (fun _ _ => rfl) (fun _ _ => rfl) (fun _ _ => rfl) (fun _ => rfl) s
@[simp] theorem State.commit_sys_slots (s : State) : s.commit.sys.slots = s.sys.slots :=
  commit_keep (fun x => x.sys.slots) (fun _ _ _ => rfl) (fun _ _ => rfl) (fun _ => rfl) (fun _ _ _ => rfl) (fun _ _ _ => rfl) (fun _ _ => rfl) (fun _ _ => rfl) (fun _ _ => rfl) (fun _ => rfl) s
@[simp] theorem State.commit_sys_nextB (s : State) : s.commit.sys.nextB = s.sys.nextB :=
  commit_keep (fun x => x.sys.nextB) (fun _ _ _ => rfl) (fun _ _ => rfl) (fun _ => rfl) (fun _ _ _ => rfl) (fun _ _ _ => rfl) (fun _ _ => rfl) (fun _ _ => rfl) (fun _ _ => rfl) (fun _ => rfl) s
@[simp] theorem State.commit_sys_fallback (s : State) : s.commit.sys.fallback = s.sys.fallback :=
  commit_keep (fun x => x.sys.fallback) (fun _ _ _ => rfl) (fun _ _ => rfl) (fun _ => rfl) (fun _ _ _ => rfl) (fun _ _ _ => rfl) (fun _ _ => rfl) (fun _ _ => rfl) (fun _ _ => rfl) (fun _ => rfl) s
@[simp] theorem State.commit_sys_activeB (s : State) : s.commit.sys.activeB = s.sys.activeB :=
  commit_keep (fun x => x.sys.activeB) (fun _ _ _ => rfl) (fun _ _ => rfl) (fun _ => rfl) (fun _ _ _ => rfl) (fun _ _ _ => rfl) (fun _ _ => rfl) (fun _ _ => rfl) (fun _ _ => rfl) (fun _ => rfl) s
@[simp] theorem State.commit_sys_loader (s : State) : s.commit.sys.loader = s.sys.loader :=
  commit_keep (fun x => x.sys.loader) (fun _ _ _ => rfl) (fun _ _ => rfl) (fun _ => rfl) (fun _ _ _ => rfl) (fun _ _ _ => rfl) (fun _ _ => rfl) (fun _ _ => rfl) (fun _ _ => rfl) (fun _ => rfl) s
@[simp] theorem State.commit_sys_fwMajor (s : State) : s.commit.sys.fwMajor = s.sys.fwMajor :=
  commit_keep (fun x => x.sys.fwMajor) (fun _ _ _ => rfl) (fun _ _ => rfl) (fun _ => rfl) (fun _ _ _ => rfl) (fun _ _ _ => rfl) (fun _ _ => rfl) (fun _ _ => rfl) (fun _ _ => rfl) (fun _ => rfl) s
@[simp] theorem State.commit_sys_fwMinor (s : State) : s.commit.sys.fwMinor = s.sys.fwMinor :=
  commit_keep (fun x => x.sys.fwMinor) (fun _ _ _ => rfl) (fun _ _ => rfl) (fun _ => rfl) (fun _ _ _ => rfl) (fun _ _ _ => rfl) (fun _ _ => rfl) (fun _ _ => rfl) (fun _ _ => rfl) (fun _ => rfl) s
@[simp] theorem State.commit_sys_fwBuild (s : State) : s.commit.sys.fwBuild = s.sys.fwBuild :=
  commit_keep (fun x => x.sys.fwBuild) (fun _ _ _ => rfl) (fun _ _ => rfl) (fun _ => rfl) (fun _ _ _ => rfl) (fun _ _ _ => rfl) (fun _ _ => rfl) (fun _ _ => rfl) (fun _ _ => rfl) (fun _ => rfl) s
@[simp] theorem State.commit_sys_staging (s : State) : s.commit.sys.staging = s.sys.staging :=
  commit_keep (fun x => x.sys.staging) (fun _ _ _ => rfl) (fun _ _ => rfl) (fun _ => rfl) (fun _ _ _ => rfl) (fun _ _ _ => rfl) (fun _ _ => rfl) (fun _ _ => rfl) (fun _ _ => rfl) (fun _ => rfl) s
@[simp] theorem State.commit_sys_staged (s : State) : s.commit.sys.staged = s.sys.staged :=
  commit_keep (fun x => x.sys.staged) (fun _ _ _ => rfl) (fun _ _ => rfl) (fun _ => rfl) (fun _ _ _ => rfl) (fun _ _ _ => rfl) (fun _ _ => rfl) (fun _ _ => rfl) (fun _ _ => rfl) (fun _ => rfl) s
@[simp] theorem State.commit_sys_commitTag (s : State) : s.commit.sys.commitTag = s.sys.commitTag :=
  commit_keep (fun x => x.sys.commitTag) (fun _ _ _ => rfl) (fun _ _ => rfl) (fun _ => rfl) (fun _ _ _ => rfl) (fun _ _ _ => rfl) (fun _ _ => rfl) (fun _ _ => rfl) (fun _ _ => rfl) (fun _ => rfl) s
@[simp] theorem State.commit_sys_commitWriting (s : State) : s.commit.sys.commitWriting = s.sys.commitWriting :=
  commit_keep (fun x => x.sys.commitWriting) (fun _ _ _ => rfl) (fun _ _ => rfl) (fun _ => rfl) (fun _ _ _ => rfl) (fun _ _ _ => rfl) (fun _ _ => rfl) (fun _ _ => rfl) (fun _ _ => rfl) (fun _ => rfl) s
@[simp] theorem State.commit_sys_resetDue (s : State) : s.commit.sys.resetDue = s.sys.resetDue :=
  commit_keep (fun x => x.sys.resetDue) (fun _ _ _ => rfl) (fun _ _ => rfl) (fun _ => rfl) (fun _ _ _ => rfl) (fun _ _ _ => rfl) (fun _ _ => rfl) (fun _ _ => rfl) (fun _ _ => rfl) (fun _ => rfl) s
@[simp] theorem State.commit_sys_resetBlocks (s : State) : s.commit.sys.resetBlocks = s.sys.resetBlocks :=
  commit_keep (fun x => x.sys.resetBlocks) (fun _ _ _ => rfl) (fun _ _ => rfl) (fun _ => rfl) (fun _ _ _ => rfl) (fun _ _ _ => rfl) (fun _ _ => rfl) (fun _ _ => rfl) (fun _ _ => rfl) (fun _ => rfl) s
@[simp] theorem State.commit_sys_restartFrom (s : State) : s.commit.sys.restartFrom = s.sys.restartFrom :=
  commit_keep (fun x => x.sys.restartFrom) (fun _ _ _ => rfl) (fun _ _ => rfl) (fun _ => rfl) (fun _ _ _ => rfl) (fun _ _ _ => rfl) (fun _ _ => rfl) (fun _ _ => rfl) (fun _ _ => rfl) (fun _ => rfl) s
@[simp] theorem State.commit_sys_booted (s : State) : s.commit.sys.booted = s.sys.booted :=
  commit_keep (fun x => x.sys.booted) (fun _ _ _ => rfl) (fun _ _ => rfl) (fun _ => rfl) (fun _ _ _ => rfl) (fun _ _ _ => rfl) (fun _ _ => rfl) (fun _ _ => rfl) (fun _ _ => rfl) (fun _ => rfl) s
@[simp] theorem State.commit_sys_profileJump (s : State) : s.commit.sys.profileJump = s.sys.profileJump :=
  commit_keep (fun x => x.sys.profileJump) (fun _ _ _ => rfl) (fun _ _ => rfl) (fun _ => rfl) (fun _ _ _ => rfl) (fun _ _ _ => rfl) (fun _ _ => rfl) (fun _ _ => rfl) (fun _ _ => rfl) (fun _ => rfl) s

@[simp] theorem State.commit_out_doms (s : State) : s.commit.out.doms = s.out.doms :=
  commit_keep (fun x => x.out.doms) (fun _ _ _ => rfl) (fun _ _ => rfl) (fun _ => rfl) (fun _ _ _ => rfl) (fun _ _ _ => rfl) (fun _ _ => rfl) (fun _ _ => rfl) (fun _ _ => rfl) (fun _ => rfl) s
@[simp] theorem State.commit_out_ck (s : State) : s.commit.out.ck = s.out.ck :=
  commit_keep (fun x => x.out.ck) (fun _ _ _ => rfl) (fun _ _ => rfl) (fun _ => rfl) (fun _ _ _ => rfl) (fun _ _ _ => rfl) (fun _ _ => rfl) (fun _ _ => rfl) (fun _ _ => rfl) (fun _ => rfl) s
@[simp] theorem State.commit_out_released (s : State) : s.commit.out.released = s.out.released :=
  commit_keep (fun x => x.out.released) (fun _ _ _ => rfl) (fun _ _ => rfl) (fun _ => rfl) (fun _ _ _ => rfl) (fun _ _ _ => rfl) (fun _ _ => rfl) (fun _ _ => rfl) (fun _ _ => rfl) (fun _ => rfl) s

/-- A change of module state keeps every field of a DPLL but the flags of a pending step, a slew and steering. -/
theorem Dpll.onState_keep {α : Type} (p : Dpll → α)
    (h1 : ∀ d : Dpll, p { d with stepPending := false, slewing := true, steerRem := 0 } = p d)
    (h2 : ∀ d : Dpll, p { d with slewing := false, stepPending := true } = p d)
    (h3 : ∀ d : Dpll, p { d with slewing := false, steering := decide (d.buildOut ≠ 0), steerRem := 0 } = p d)
    (m n : ModState) (d : Dpll) : p (Dpll.onState m n d) = p d := by
  unfold Dpll.onState
  split
  · split
    · exact h1 d
    · rfl
  · split
    · split
      · exact h2 d
      · exact h3 d
    · rfl

@[simp] theorem State.commit_dpll_use (s : State) (d : Fin 8) : (s.commit.dpll d).use = (s.dpll d).use :=
  commit_keep (fun x => (x.dpll d).use) (fun _ _ _ => rfl) (fun _ _ => rfl) (fun _ => rfl)
    (fun s m n => by simp only [State.dpll, State.onLoop_loop, vget_vmap]; exact Dpll.onState_keep (·.use) (fun _ => rfl) (fun _ => rfl) (fun _ => rfl) m n _)
    (fun _ _ _ => rfl) (fun _ _ => rfl) (fun _ _ => rfl) (fun _ _ => rfl) (fun _ => rfl) s
@[simp] theorem State.commit_dpll_forcedMode (s : State) (d : Fin 8) : (s.commit.dpll d).forcedMode = (s.dpll d).forcedMode :=
  commit_keep (fun x => (x.dpll d).forcedMode) (fun _ _ _ => rfl) (fun _ _ => rfl) (fun _ => rfl)
    (fun s m n => by simp only [State.dpll, State.onLoop_loop, vget_vmap]; exact Dpll.onState_keep (·.forcedMode) (fun _ => rfl) (fun _ => rfl) (fun _ => rfl) m n _)
    (fun _ _ _ => rfl) (fun _ _ => rfl) (fun _ _ => rfl) (fun _ _ => rfl) (fun _ => rfl) s
@[simp] theorem State.commit_dpll_revert (s : State) (d : Fin 8) : (s.commit.dpll d).revert = (s.dpll d).revert :=
  commit_keep (fun x => (x.dpll d).revert) (fun _ _ _ => rfl) (fun _ _ => rfl) (fun _ => rfl)
    (fun s m n => by simp only [State.dpll, State.onLoop_loop, vget_vmap]; exact Dpll.onState_keep (·.revert) (fun _ => rfl) (fun _ => rfl) (fun _ => rfl) m n _)
    (fun _ _ _ => rfl) (fun _ _ => rfl) (fun _ _ => rfl) (fun _ _ => rfl) (fun _ => rfl) s
@[simp] theorem State.commit_dpll_timeAsFreq (s : State) (d : Fin 8) : (s.commit.dpll d).timeAsFreq = (s.dpll d).timeAsFreq :=
  commit_keep (fun x => (x.dpll d).timeAsFreq) (fun _ _ _ => rfl) (fun _ _ => rfl) (fun _ => rfl)
    (fun s m n => by simp only [State.dpll, State.onLoop_loop, vget_vmap]; exact Dpll.onState_keep (·.timeAsFreq) (fun _ => rfl) (fun _ => rfl) (fun _ => rfl) m n _)
    (fun _ _ _ => rfl) (fun _ _ => rfl) (fun _ _ => rfl) (fun _ _ => rfl) (fun _ => rfl) s
@[simp] theorem State.commit_dpll_manual (s : State) (d : Fin 8) : (s.commit.dpll d).manual = (s.dpll d).manual :=
  commit_keep (fun x => (x.dpll d).manual) (fun _ _ _ => rfl) (fun _ _ => rfl) (fun _ => rfl)
    (fun s m n => by simp only [State.dpll, State.onLoop_loop, vget_vmap]; exact Dpll.onState_keep (·.manual) (fun _ => rfl) (fun _ => rfl) (fun _ => rfl) m n _)
    (fun _ _ _ => rfl) (fun _ _ => rfl) (fun _ _ => rfl) (fun _ _ => rfl) (fun _ => rfl) s
@[simp] theorem State.commit_dpll_slopeLimit (s : State) (d : Fin 8) : (s.commit.dpll d).slopeLimit = (s.dpll d).slopeLimit :=
  commit_keep (fun x => (x.dpll d).slopeLimit) (fun _ _ _ => rfl) (fun _ _ => rfl) (fun _ => rfl)
    (fun s m n => by simp only [State.dpll, State.onLoop_loop, vget_vmap]; exact Dpll.onState_keep (·.slopeLimit) (fun _ => rfl) (fun _ => rfl) (fun _ => rfl) m n _)
    (fun _ _ _ => rfl) (fun _ _ => rfl) (fun _ _ => rfl) (fun _ _ => rfl) (fun _ => rfl) s
@[simp] theorem State.commit_dpll_settleThr (s : State) (d : Fin 8) : (s.commit.dpll d).settleThr = (s.dpll d).settleThr :=
  commit_keep (fun x => (x.dpll d).settleThr) (fun _ _ _ => rfl) (fun _ _ => rfl) (fun _ => rfl)
    (fun s m n => by simp only [State.dpll, State.onLoop_loop, vget_vmap]; exact Dpll.onState_keep (·.settleThr) (fun _ => rfl) (fun _ => rfl) (fun _ => rfl) m n _)
    (fun _ _ _ => rfl) (fun _ _ => rfl) (fun _ _ => rfl) (fun _ _ => rfl) (fun _ => rfl) s
@[simp] theorem State.commit_dpll_hitLimit (s : State) (d : Fin 8) : (s.commit.dpll d).hitLimit = (s.dpll d).hitLimit :=
  commit_keep (fun x => (x.dpll d).hitLimit) (fun _ _ _ => rfl) (fun _ _ => rfl) (fun _ => rfl)
    (fun s m n => by simp only [State.dpll, State.onLoop_loop, vget_vmap]; exact Dpll.onState_keep (·.hitLimit) (fun _ => rfl) (fun _ => rfl) (fun _ => rfl) m n _)
    (fun _ _ _ => rfl) (fun _ _ => rfl) (fun _ _ => rfl) (fun _ _ => rfl) (fun _ => rfl) s
@[simp] theorem State.commit_dpll_cur (s : State) (d : Fin 8) : (s.commit.dpll d).cur = (s.dpll d).cur :=
  commit_keep (fun x => (x.dpll d).cur) (fun _ _ _ => rfl) (fun _ _ => rfl) (fun _ => rfl)
    (fun s m n => by simp only [State.dpll, State.onLoop_loop, vget_vmap]; exact Dpll.onState_keep (·.cur) (fun _ => rfl) (fun _ => rfl) (fun _ => rfl) m n _)
    (fun _ _ _ => rfl) (fun _ _ => rfl) (fun _ _ => rfl) (fun _ _ => rfl) (fun _ => rfl) s
@[simp] theorem State.commit_dpll_target (s : State) (d : Fin 8) : (s.commit.dpll d).target = (s.dpll d).target :=
  commit_keep (fun x => (x.dpll d).target) (fun _ _ _ => rfl) (fun _ _ => rfl) (fun _ => rfl)
    (fun s m n => by simp only [State.dpll, State.onLoop_loop, vget_vmap]; exact Dpll.onState_keep (·.target) (fun _ => rfl) (fun _ => rfl) (fun _ => rfl) m n _)
    (fun _ _ _ => rfl) (fun _ _ => rfl) (fun _ _ => rfl) (fun _ _ => rfl) (fun _ => rfl) s
@[simp] theorem State.commit_dpll_next (s : State) (d : Fin 8) : (s.commit.dpll d).next = (s.dpll d).next :=
  commit_keep (fun x => (x.dpll d).next) (fun _ _ _ => rfl) (fun _ _ => rfl) (fun _ => rfl)
    (fun s m n => by simp only [State.dpll, State.onLoop_loop, vget_vmap]; exact Dpll.onState_keep (·.next) (fun _ => rfl) (fun _ => rfl) (fun _ => rfl) m n _)
    (fun _ _ _ => rfl) (fun _ _ => rfl) (fun _ _ => rfl) (fun _ _ => rfl) (fun _ => rfl) s
@[simp] theorem State.commit_dpll_sw (s : State) (d : Fin 8) : (s.commit.dpll d).sw = (s.dpll d).sw :=
  commit_keep (fun x => (x.dpll d).sw) (fun _ _ _ => rfl) (fun _ _ => rfl) (fun _ => rfl)
    (fun s m n => by simp only [State.dpll, State.onLoop_loop, vget_vmap]; exact Dpll.onState_keep (·.sw) (fun _ => rfl) (fun _ => rfl) (fun _ => rfl) m n _)
    (fun _ _ _ => rfl) (fun _ _ => rfl) (fun _ _ => rfl) (fun _ _ => rfl) (fun _ => rfl) s
@[simp] theorem State.commit_dpll_swFrom (s : State) (d : Fin 8) : (s.commit.dpll d).swFrom = (s.dpll d).swFrom :=
  commit_keep (fun x => (x.dpll d).swFrom) (fun _ _ _ => rfl) (fun _ _ => rfl) (fun _ => rfl)
    (fun s m n => by simp only [State.dpll, State.onLoop_loop, vget_vmap]; exact Dpll.onState_keep (·.swFrom) (fun _ => rfl) (fun _ => rfl) (fun _ => rfl) m n _)
    (fun _ _ _ => rfl) (fun _ _ => rfl) (fun _ _ => rfl) (fun _ _ => rfl) (fun _ => rfl) s
@[simp] theorem State.commit_dpll_phFrom (s : State) (d : Fin 8) : (s.commit.dpll d).phFrom = (s.dpll d).phFrom :=
  commit_keep (fun x => (x.dpll d).phFrom) (fun _ _ _ => rfl) (fun _ _ => rfl) (fun _ => rfl)
    (fun s m n => by simp only [State.dpll, State.onLoop_loop, vget_vmap]; exact Dpll.onState_keep (·.phFrom) (fun _ => rfl) (fun _ => rfl) (fun _ => rfl) m n _)
    (fun _ _ _ => rfl) (fun _ _ => rfl) (fun _ _ => rfl) (fun _ _ => rfl) (fun _ => rfl) s
@[simp] theorem State.commit_dpll_swOld (s : State) (d : Fin 8) : (s.commit.dpll d).swOld = (s.dpll d).swOld :=
  commit_keep (fun x => (x.dpll d).swOld) (fun _ _ _ => rfl) (fun _ _ => rfl) (fun _ => rfl)
    (fun s m n => by simp only [State.dpll, State.onLoop_loop, vget_vmap]; exact Dpll.onState_keep (·.swOld) (fun _ => rfl) (fun _ => rfl) (fun _ => rfl) m n _)
    (fun _ _ _ => rfl) (fun _ _ => rfl) (fun _ _ => rfl) (fun _ _ => rfl) (fun _ => rfl) s
@[simp] theorem State.commit_dpll_swO (s : State) (d : Fin 8) : (s.commit.dpll d).swO = (s.dpll d).swO :=
  commit_keep (fun x => (x.dpll d).swO) (fun _ _ _ => rfl) (fun _ _ => rfl) (fun _ => rfl)
    (fun s m n => by simp only [State.dpll, State.onLoop_loop, vget_vmap]; exact Dpll.onState_keep (·.swO) (fun _ => rfl) (fun _ => rfl) (fun _ => rfl) m n _)
    (fun _ _ _ => rfl) (fun _ _ => rfl) (fun _ _ => rfl) (fun _ _ => rfl) (fun _ => rfl) s
@[simp] theorem State.commit_dpll_swLost (s : State) (d : Fin 8) : (s.commit.dpll d).swLost = (s.dpll d).swLost :=
  commit_keep (fun x => (x.dpll d).swLost) (fun _ _ _ => rfl) (fun _ _ => rfl) (fun _ => rfl)
    (fun s m n => by simp only [State.dpll, State.onLoop_loop, vget_vmap]; exact Dpll.onState_keep (·.swLost) (fun _ => rfl) (fun _ => rfl) (fun _ => rfl) m n _)
    (fun _ _ _ => rfl) (fun _ _ => rfl) (fun _ _ => rfl) (fun _ _ => rfl) (fun _ => rfl) s
@[simp] theorem State.commit_dpll_swAct (s : State) (d : Fin 8) : (s.commit.dpll d).swAct = (s.dpll d).swAct :=
  commit_keep (fun x => (x.dpll d).swAct) (fun _ _ _ => rfl) (fun _ _ => rfl) (fun _ => rfl)
    (fun s m n => by simp only [State.dpll, State.onLoop_loop, vget_vmap]; exact Dpll.onState_keep (·.swAct) (fun _ => rfl) (fun _ => rfl) (fun _ => rfl) m n _)
    (fun _ _ _ => rfl) (fun _ _ => rfl) (fun _ _ => rfl) (fun _ _ => rfl) (fun _ => rfl) s
@[simp] theorem State.commit_dpll_taf (s : State) (d : Fin 8) : (s.commit.dpll d).taf = (s.dpll d).taf :=
  commit_keep (fun x => (x.dpll d).taf) (fun _ _ _ => rfl) (fun _ _ => rfl) (fun _ => rfl)
    (fun s m n => by simp only [State.dpll, State.onLoop_loop, vget_vmap]; exact Dpll.onState_keep (·.taf) (fun _ => rfl) (fun _ => rfl) (fun _ => rfl) m n _)
    (fun _ _ _ => rfl) (fun _ _ => rfl) (fun _ _ => rfl) (fun _ _ => rfl) (fun _ => rfl) s
@[simp] theorem State.commit_dpll_swTaf (s : State) (d : Fin 8) : (s.commit.dpll d).swTaf = (s.dpll d).swTaf :=
  commit_keep (fun x => (x.dpll d).swTaf) (fun _ _ _ => rfl) (fun _ _ => rfl) (fun _ => rfl)
    (fun s m n => by simp only [State.dpll, State.onLoop_loop, vget_vmap]; exact Dpll.onState_keep (·.swTaf) (fun _ => rfl) (fun _ => rfl) (fun _ => rfl) m n _)
    (fun _ _ _ => rfl) (fun _ _ => rfl) (fun _ _ => rfl) (fun _ _ => rfl) (fun _ => rfl) s
@[simp] theorem State.commit_dpll_swSamples (s : State) (d : Fin 8) : (s.commit.dpll d).swSamples = (s.dpll d).swSamples :=
  commit_keep (fun x => (x.dpll d).swSamples) (fun _ _ _ => rfl) (fun _ _ => rfl) (fun _ => rfl)
    (fun s m n => by simp only [State.dpll, State.onLoop_loop, vget_vmap]; exact Dpll.onState_keep (·.swSamples) (fun _ => rfl) (fun _ => rfl) (fun _ => rfl) m n _)
    (fun _ _ _ => rfl) (fun _ _ => rfl) (fun _ _ => rfl) (fun _ _ => rfl) (fun _ => rfl) s
@[simp] theorem State.commit_dpll_swUpdates (s : State) (d : Fin 8) : (s.commit.dpll d).swUpdates = (s.dpll d).swUpdates :=
  commit_keep (fun x => (x.dpll d).swUpdates) (fun _ _ _ => rfl) (fun _ _ => rfl) (fun _ => rfl)
    (fun s m n => by simp only [State.dpll, State.onLoop_loop, vget_vmap]; exact Dpll.onState_keep (·.swUpdates) (fun _ => rfl) (fun _ => rfl) (fun _ => rfl) m n _)
    (fun _ _ _ => rfl) (fun _ _ => rfl) (fun _ _ => rfl) (fun _ _ => rfl) (fun _ => rfl) s
@[simp] theorem State.commit_dpll_bridging (s : State) (d : Fin 8) : (s.commit.dpll d).bridging = (s.dpll d).bridging :=
  commit_keep (fun x => (x.dpll d).bridging) (fun _ _ _ => rfl) (fun _ _ => rfl) (fun _ => rfl)
    (fun s m n => by simp only [State.dpll, State.onLoop_loop, vget_vmap]; exact Dpll.onState_keep (·.bridging) (fun _ => rfl) (fun _ => rfl) (fun _ => rfl) m n _)
    (fun _ _ _ => rfl) (fun _ _ => rfl) (fun _ _ => rfl) (fun _ _ => rfl) (fun _ => rfl) s
@[simp] theorem State.commit_dpll_bridgeFrom (s : State) (d : Fin 8) : (s.commit.dpll d).bridgeFrom = (s.dpll d).bridgeFrom :=
  commit_keep (fun x => (x.dpll d).bridgeFrom) (fun _ _ _ => rfl) (fun _ _ => rfl) (fun _ => rfl)
    (fun s m n => by simp only [State.dpll, State.onLoop_loop, vget_vmap]; exact Dpll.onState_keep (·.bridgeFrom) (fun _ => rfl) (fun _ => rfl) (fun _ => rfl) m n _)
    (fun _ _ _ => rfl) (fun _ _ => rfl) (fun _ _ => rfl) (fun _ _ => rfl) (fun _ => rfl) s
@[simp] theorem State.commit_dpll_pendingEval (s : State) (d : Fin 8) : (s.commit.dpll d).pendingEval = (s.dpll d).pendingEval :=
  commit_keep (fun x => (x.dpll d).pendingEval) (fun _ _ _ => rfl) (fun _ _ => rfl) (fun _ => rfl)
    (fun s m n => by simp only [State.dpll, State.onLoop_loop, vget_vmap]; exact Dpll.onState_keep (·.pendingEval) (fun _ => rfl) (fun _ => rfl) (fun _ => rfl) m n _)
    (fun _ _ _ => rfl) (fun _ _ => rfl) (fun _ _ => rfl) (fun _ _ => rfl) (fun _ => rfl) s
@[simp] theorem State.commit_dpll_evalDue (s : State) (d : Fin 8) : (s.commit.dpll d).evalDue = (s.dpll d).evalDue :=
  commit_keep (fun x => (x.dpll d).evalDue) (fun _ _ _ => rfl) (fun _ _ => rfl) (fun _ => rfl)
    (fun s m n => by simp only [State.dpll, State.onLoop_loop, vget_vmap]; exact Dpll.onState_keep (·.evalDue) (fun _ => rfl) (fun _ => rfl) (fun _ => rfl) m n _)
    (fun _ _ _ => rfl) (fun _ _ => rfl) (fun _ _ => rfl) (fun _ _ => rfl) (fun _ => rfl) s
@[simp] theorem State.commit_dpll_buildOut (s : State) (d : Fin 8) : (s.commit.dpll d).buildOut = (s.dpll d).buildOut :=
  commit_keep (fun x => (x.dpll d).buildOut) (fun _ _ _ => rfl) (fun _ _ => rfl) (fun _ => rfl)
    (fun s m n => by simp only [State.dpll, State.onLoop_loop, vget_vmap]; exact Dpll.onState_keep (·.buildOut) (fun _ => rfl) (fun _ => rfl) (fun _ => rfl) m n _)
    (fun _ _ _ => rfl) (fun _ _ => rfl) (fun _ _ => rfl) (fun _ _ => rfl) (fun _ => rfl) s
@[simp] theorem State.commit_dpll_lastOutcome (s : State) (d : Fin 8) : (s.commit.dpll d).lastOutcome = (s.dpll d).lastOutcome :=
  commit_keep (fun x => (x.dpll d).lastOutcome) (fun _ _ _ => rfl) (fun _ _ => rfl) (fun _ => rfl)
    (fun s m n => by simp only [State.dpll, State.onLoop_loop, vget_vmap]; exact Dpll.onState_keep (·.lastOutcome) (fun _ => rfl) (fun _ => rfl) (fun _ => rfl) m n _)
    (fun _ _ _ => rfl) (fun _ _ => rfl) (fun _ _ => rfl) (fun _ _ => rfl) (fun _ => rfl) s
@[simp] theorem State.commit_dpll_enable (s : State) (d : Fin 8) : (s.commit.dpll d).enable = (s.dpll d).enable :=
  commit_keep (fun x => (x.dpll d).enable) (fun _ _ _ => rfl) (fun _ _ => rfl) (fun _ => rfl)
    (fun s m n => by simp only [State.dpll, State.onLoop_loop, vget_vmap]; exact Dpll.onState_keep (·.enable) (fun _ => rfl) (fun _ => rfl) (fun _ => rfl) m n _)
    (fun _ _ _ => rfl) (fun _ _ => rfl) (fun _ _ => rfl) (fun _ _ => rfl) (fun _ => rfl) s
@[simp] theorem State.commit_dpll_damping (s : State) (d : Fin 8) : (s.commit.dpll d).damping = (s.dpll d).damping :=
  commit_keep (fun x => (x.dpll d).damping) (fun _ _ _ => rfl) (fun _ _ => rfl) (fun _ => rfl)
    (fun s m n => by simp only [State.dpll, State.onLoop_loop, vget_vmap]; exact Dpll.onState_keep (·.damping) (fun _ => rfl) (fun _ => rfl) (fun _ => rfl) m n _)
    (fun _ _ _ => rfl) (fun _ _ => rfl) (fun _ _ => rfl) (fun _ _ => rfl) (fun _ => rfl) s
@[simp] theorem State.commit_dpll_bw (s : State) (d : Fin 8) : (s.commit.dpll d).bw = (s.dpll d).bw :=
  commit_keep (fun x => (x.dpll d).bw) (fun _ _ _ => rfl) (fun _ _ => rfl) (fun _ => rfl)
    (fun s m n => by simp only [State.dpll, State.onLoop_loop, vget_vmap]; exact Dpll.onState_keep (·.bw) (fun _ => rfl) (fun _ => rfl) (fun _ => rfl) m n _)
    (fun _ _ _ => rfl) (fun _ _ => rfl) (fun _ _ => rfl) (fun _ _ => rfl) (fun _ => rfl) s
@[simp] theorem State.commit_dpll_bwUse (s : State) (d : Fin 8) : (s.commit.dpll d).bwUse = (s.dpll d).bwUse :=
  commit_keep (fun x => (x.dpll d).bwUse) (fun _ _ _ => rfl) (fun _ _ => rfl) (fun _ => rfl)
    (fun s m n => by simp only [State.dpll, State.onLoop_loop, vget_vmap]; exact Dpll.onState_keep (·.bwUse) (fun _ => rfl) (fun _ => rfl) (fun _ => rfl) m n _)
    (fun _ _ _ => rfl) (fun _ _ => rfl) (fun _ _ => rfl) (fun _ _ => rfl) (fun _ => rfl) s
@[simp] theorem State.commit_dpll_clampUse (s : State) (d : Fin 8) : (s.commit.dpll d).clampUse = (s.dpll d).clampUse :=
  commit_keep (fun x => (x.dpll d).clampUse) (fun _ _ _ => rfl) (fun _ _ => rfl) (fun _ => rfl)
    (fun s m n => by simp only [State.dpll, State.onLoop_loop, vget_vmap]; exact Dpll.onState_keep (·.clampUse) (fun _ => rfl) (fun _ => rfl) (fun _ => rfl) m n _)
    (fun _ _ _ => rfl) (fun _ _ => rfl) (fun _ _ => rfl) (fun _ _ => rfl) (fun _ => rfl) s
@[simp] theorem State.commit_dpll_dampUse (s : State) (d : Fin 8) : (s.commit.dpll d).dampUse = (s.dpll d).dampUse :=
  commit_keep (fun x => (x.dpll d).dampUse) (fun _ _ _ => rfl) (fun _ _ => rfl) (fun _ => rfl)
    (fun s m n => by simp only [State.dpll, State.onLoop_loop, vget_vmap]; exact Dpll.onState_keep (·.dampUse) (fun _ => rfl) (fun _ => rfl) (fun _ => rfl) m n _)
    (fun _ _ _ => rfl) (fun _ _ => rfl) (fun _ _ => rfl) (fun _ _ => rfl) (fun _ => rfl) s
@[simp] theorem State.commit_dpll_stepUse (s : State) (d : Fin 8) : (s.commit.dpll d).stepUse = (s.dpll d).stepUse :=
  commit_keep (fun x => (x.dpll d).stepUse) (fun _ _ _ => rfl) (fun _ _ => rfl) (fun _ => rfl)
    (fun s m n => by simp only [State.dpll, State.onLoop_loop, vget_vmap]; exact Dpll.onState_keep (·.stepUse) (fun _ => rfl) (fun _ => rfl) (fun _ => rfl) m n _)
    (fun _ _ _ => rfl) (fun _ _ => rfl) (fun _ _ => rfl) (fun _ _ => rfl) (fun _ => rfl) s
@[simp] theorem State.commit_dpll_integ (s : State) (d : Fin 8) : (s.commit.dpll d).integ = (s.dpll d).integ :=
  commit_keep (fun x => (x.dpll d).integ) (fun _ _ _ => rfl) (fun _ _ => rfl) (fun _ => rfl)
    (fun s m n => by simp only [State.dpll, State.onLoop_loop, vget_vmap]; exact Dpll.onState_keep (·.integ) (fun _ => rfl) (fun _ => rfl) (fun _ => rfl) m n _)
    (fun _ _ _ => rfl) (fun _ _ => rfl) (fun _ _ => rfl) (fun _ _ => rfl) (fun _ => rfl) s
@[simp] theorem State.commit_dpll_lockThr (s : State) (d : Fin 8) : (s.commit.dpll d).lockThr = (s.dpll d).lockThr :=
  commit_keep (fun x => (x.dpll d).lockThr) (fun _ _ _ => rfl) (fun _ _ => rfl) (fun _ => rfl)
    (fun s m n => by simp only [State.dpll, State.onLoop_loop, vget_vmap]; exact Dpll.onState_keep (·.lockThr) (fun _ => rfl) (fun _ => rfl) (fun _ => rfl) m n _)
    (fun _ _ _ => rfl) (fun _ _ => rfl) (fun _ _ => rfl) (fun _ _ => rfl) (fun _ => rfl) s
@[simp] theorem State.commit_dpll_stepThr (s : State) (d : Fin 8) : (s.commit.dpll d).stepThr = (s.dpll d).stepThr :=
  commit_keep (fun x => (x.dpll d).stepThr) (fun _ _ _ => rfl) (fun _ _ => rfl) (fun _ => rfl)
    (fun s m n => by simp only [State.dpll, State.onLoop_loop, vget_vmap]; exact Dpll.onState_keep (·.stepThr) (fun _ => rfl) (fun _ => rfl) (fun _ => rfl) m n _)
    (fun _ _ _ => rfl) (fun _ _ => rfl) (fun _ _ => rfl) (fun _ _ => rfl) (fun _ => rfl) s
@[simp] theorem State.commit_dpll_swThr (s : State) (d : Fin 8) : (s.commit.dpll d).swThr = (s.dpll d).swThr :=
  commit_keep (fun x => (x.dpll d).swThr) (fun _ _ _ => rfl) (fun _ _ => rfl) (fun _ => rfl)
    (fun s m n => by simp only [State.dpll, State.onLoop_loop, vget_vmap]; exact Dpll.onState_keep (·.swThr) (fun _ => rfl) (fun _ => rfl) (fun _ => rfl) m n _)
    (fun _ _ _ => rfl) (fun _ _ => rfl) (fun _ _ => rfl) (fun _ _ => rfl) (fun _ => rfl) s
@[simp] theorem State.commit_dpll_pullLimit (s : State) (d : Fin 8) : (s.commit.dpll d).pullLimit = (s.dpll d).pullLimit :=
  commit_keep (fun x => (x.dpll d).pullLimit) (fun _ _ _ => rfl) (fun _ _ => rfl) (fun _ => rfl)
    (fun s m n => by simp only [State.dpll, State.onLoop_loop, vget_vmap]; exact Dpll.onState_keep (·.pullLimit) (fun _ => rfl) (fun _ => rfl) (fun _ => rfl) m n _)
    (fun _ _ _ => rfl) (fun _ _ => rfl) (fun _ _ => rfl) (fun _ _ => rfl) (fun _ => rfl) s
@[simp] theorem State.commit_dpll_recSlew (s : State) (d : Fin 8) : (s.commit.dpll d).recSlew = (s.dpll d).recSlew :=
  commit_keep (fun x => (x.dpll d).recSlew) (fun _ _ _ => rfl) (fun _ _ => rfl) (fun _ => rfl)
    (fun s m n => by simp only [State.dpll, State.onLoop_loop, vget_vmap]; exact Dpll.onState_keep (·.recSlew) (fun _ => rfl) (fun _ => rfl) (fun _ => rfl) m n _)
    (fun _ _ _ => rfl) (fun _ _ => rfl) (fun _ _ => rfl) (fun _ _ => rfl) (fun _ => rfl) s
@[simp] theorem State.commit_dpll_lockTime (s : State) (d : Fin 8) : (s.commit.dpll d).lockTime = (s.dpll d).lockTime :=
  commit_keep (fun x => (x.dpll d).lockTime) (fun _ _ _ => rfl) (fun _ _ => rfl) (fun _ => rfl)
    (fun s m n => by simp only [State.dpll, State.onLoop_loop, vget_vmap]; exact Dpll.onState_keep (·.lockTime) (fun _ => rfl) (fun _ => rfl) (fun _ => rfl) m n _)
    (fun _ _ _ => rfl) (fun _ _ => rfl) (fun _ _ => rfl) (fun _ _ => rfl) (fun _ => rfl) s
@[simp] theorem State.commit_dpll_steps (s : State) (d : Fin 8) : (s.commit.dpll d).steps = (s.dpll d).steps :=
  commit_keep (fun x => (x.dpll d).steps) (fun _ _ _ => rfl) (fun _ _ => rfl) (fun _ => rfl)
    (fun s m n => by simp only [State.dpll, State.onLoop_loop, vget_vmap]; exact Dpll.onState_keep (·.steps) (fun _ => rfl) (fun _ => rfl) (fun _ => rfl) m n _)
    (fun _ _ _ => rfl) (fun _ _ => rfl) (fun _ _ => rfl) (fun _ _ => rfl) (fun _ => rfl) s
@[simp] theorem State.commit_dpll_restartAfter (s : State) (d : Fin 8) : (s.commit.dpll d).restartAfter = (s.dpll d).restartAfter :=
  commit_keep (fun x => (x.dpll d).restartAfter) (fun _ _ _ => rfl) (fun _ _ => rfl) (fun _ => rfl)
    (fun s m n => by simp only [State.dpll, State.onLoop_loop, vget_vmap]; exact Dpll.onState_keep (·.restartAfter) (fun _ => rfl) (fun _ => rfl) (fun _ => rfl) m n _)
    (fun _ _ _ => rfl) (fun _ _ => rfl) (fun _ _ => rfl) (fun _ _ => rfl) (fun _ => rfl) s
@[simp] theorem State.commit_dpll_stepIdx (s : State) (d : Fin 8) : (s.commit.dpll d).stepIdx = (s.dpll d).stepIdx :=
  commit_keep (fun x => (x.dpll d).stepIdx) (fun _ _ _ => rfl) (fun _ _ => rfl) (fun _ => rfl)
    (fun s m n => by simp only [State.dpll, State.onLoop_loop, vget_vmap]; exact Dpll.onState_keep (·.stepIdx) (fun _ => rfl) (fun _ => rfl) (fun _ => rfl) m n _)
    (fun _ _ _ => rfl) (fun _ _ => rfl) (fun _ _ => rfl) (fun _ _ => rfl) (fun _ => rfl) s
@[simp] theorem State.commit_dpll_dwell (s : State) (d : Fin 8) : (s.commit.dpll d).dwell = (s.dpll d).dwell :=
  commit_keep (fun x => (x.dpll d).dwell) (fun _ _ _ => rfl) (fun _ _ => rfl) (fun _ => rfl)
    (fun s m n => by simp only [State.dpll, State.onLoop_loop, vget_vmap]; exact Dpll.onState_keep (·.dwell) (fun _ => rfl) (fun _ => rfl) (fun _ => rfl) m n _)
    (fun _ _ _ => rfl) (fun _ _ => rfl) (fun _ _ => rfl) (fun _ _ => rfl) (fun _ => rfl) s
@[simp] theorem State.commit_dpll_restartDue (s : State) (d : Fin 8) : (s.commit.dpll d).restartDue = (s.dpll d).restartDue :=
  commit_keep (fun x => (x.dpll d).restartDue) (fun _ _ _ => rfl) (fun _ _ => rfl) (fun _ => rfl)
    (fun s m n => by simp only [State.dpll, State.onLoop_loop, vget_vmap]; exact Dpll.onState_keep (·.restartDue) (fun _ => rfl) (fun _ => rfl) (fun _ => rfl) m n _)
    (fun _ _ _ => rfl) (fun _ _ => rfl) (fun _ _ => rfl) (fun _ _ => rfl) (fun _ => rfl) s
@[simp] theorem State.commit_dpll_window (s : State) (d : Fin 8) : (s.commit.dpll d).window = (s.dpll d).window :=
  commit_keep (fun x => (x.dpll d).window) (fun _ _ _ => rfl) (fun _ _ => rfl) (fun _ => rfl)
    (fun s m n => by simp only [State.dpll, State.onLoop_loop, vget_vmap]; exact Dpll.onState_keep (·.window) (fun _ => rfl) (fun _ => rfl) (fun _ => rfl) m n _)
    (fun _ _ _ => rfl) (fun _ _ => rfl) (fun _ _ => rfl) (fun _ _ => rfl) (fun _ => rfl) s
@[simp] theorem State.commit_dpll_guard (s : State) (d : Fin 8) : (s.commit.dpll d).guard = (s.dpll d).guard :=
  commit_keep (fun x => (x.dpll d).guard) (fun _ _ _ => rfl) (fun _ _ => rfl) (fun _ => rfl)
    (fun s m n => by simp only [State.dpll, State.onLoop_loop, vget_vmap]; exact Dpll.onState_keep (·.guard) (fun _ => rfl) (fun _ => rfl) (fun _ => rfl) m n _)
    (fun _ _ _ => rfl) (fun _ _ => rfl) (fun _ _ => rfl) (fun _ _ => rfl) (fun _ => rfl) s
@[simp] theorem State.commit_dpll_driftEn (s : State) (d : Fin 8) : (s.commit.dpll d).driftEn = (s.dpll d).driftEn :=
  commit_keep (fun x => (x.dpll d).driftEn) (fun _ _ _ => rfl) (fun _ _ => rfl) (fun _ => rfl)
    (fun s m n => by simp only [State.dpll, State.onLoop_loop, vget_vmap]; exact Dpll.onState_keep (·.driftEn) (fun _ => rfl) (fun _ => rfl) (fun _ => rfl) m n _)
    (fun _ _ _ => rfl) (fun _ _ => rfl) (fun _ _ => rfl) (fun _ _ => rfl) (fun _ => rfl) s
@[simp] theorem State.commit_dpll_tempEn (s : State) (d : Fin 8) : (s.commit.dpll d).tempEn = (s.dpll d).tempEn :=
  commit_keep (fun x => (x.dpll d).tempEn) (fun _ _ _ => rfl) (fun _ _ => rfl) (fun _ => rfl)
    (fun s m n => by simp only [State.dpll, State.onLoop_loop, vget_vmap]; exact Dpll.onState_keep (·.tempEn) (fun _ => rfl) (fun _ => rfl) (fun _ => rfl) m n _)
    (fun _ _ _ => rfl) (fun _ _ => rfl) (fun _ _ => rfl) (fun _ _ => rfl) (fun _ => rfl) s
@[simp] theorem State.commit_dpll_budget (s : State) (d : Fin 8) : (s.commit.dpll d).budget = (s.dpll d).budget :=
  commit_keep (fun x => (x.dpll d).budget) (fun _ _ _ => rfl) (fun _ _ => rfl) (fun _ => rfl)
    (fun s m n => by simp only [State.dpll, State.onLoop_loop, vget_vmap]; exact Dpll.onState_keep (·.budget) (fun _ => rfl) (fun _ => rfl) (fun _ => rfl) m n _)
    (fun _ _ _ => rfl) (fun _ _ => rfl) (fun _ _ => rfl) (fun _ _ => rfl) (fun _ => rfl) s
@[simp] theorem State.commit_dpll_offDue (s : State) (d : Fin 8) : (s.commit.dpll d).offDue = (s.dpll d).offDue :=
  commit_keep (fun x => (x.dpll d).offDue) (fun _ _ _ => rfl) (fun _ _ => rfl) (fun _ => rfl)
    (fun s m n => by simp only [State.dpll, State.onLoop_loop, vget_vmap]; exact Dpll.onState_keep (·.offDue) (fun _ => rfl) (fun _ => rfl) (fun _ => rfl) m n _)
    (fun _ _ _ => rfl) (fun _ _ => rfl) (fun _ _ => rfl) (fun _ _ => rfl) (fun _ => rfl) s
@[simp] theorem State.commit_dpll_dstate (s : State) (d : Fin 8) : (s.commit.dpll d).dstate = (s.dpll d).dstate :=
  commit_keep (fun x => (x.dpll d).dstate) (fun _ _ _ => rfl) (fun _ _ => rfl) (fun _ => rfl)
    (fun s m n => by simp only [State.dpll, State.onLoop_loop, vget_vmap]; exact Dpll.onState_keep (·.dstate) (fun _ => rfl) (fun _ => rfl) (fun _ => rfl) m n _)
    (fun _ _ _ => rfl) (fun _ _ => rfl) (fun _ _ => rfl) (fun _ _ => rfl) (fun _ => rfl) s
@[simp] theorem State.commit_dpll_hoCause (s : State) (d : Fin 8) : (s.commit.dpll d).hoCause = (s.dpll d).hoCause :=
  commit_keep (fun x => (x.dpll d).hoCause) (fun _ _ _ => rfl) (fun _ _ => rfl) (fun _ => rfl)
    (fun s m n => by simp only [State.dpll, State.onLoop_loop, vget_vmap]; exact Dpll.onState_keep (·.hoCause) (fun _ => rfl) (fun _ => rfl) (fun _ => rfl) m n _)
    (fun _ _ _ => rfl) (fun _ _ => rfl) (fun _ _ => rfl) (fun _ _ => rfl) (fun _ => rfl) s
@[simp] theorem State.commit_dpll_forced (s : State) (d : Fin 8) : (s.commit.dpll d).forced = (s.dpll d).forced :=
  commit_keep (fun x => (x.dpll d).forced) (fun _ _ _ => rfl) (fun _ _ => rfl) (fun _ => rfl)
    (fun s m n => by simp only [State.dpll, State.onLoop_loop, vget_vmap]; exact Dpll.onState_keep (·.forced) (fun _ => rfl) (fun _ => rfl) (fun _ => rfl) m n _)
    (fun _ _ _ => rfl) (fun _ _ => rfl) (fun _ _ => rfl) (fun _ _ => rfl) (fun _ => rfl) s
@[simp] theorem State.commit_dpll_c (s : State) (d : Fin 8) : (s.commit.dpll d).c = (s.dpll d).c :=
  commit_keep (fun x => (x.dpll d).c) (fun _ _ _ => rfl) (fun _ _ => rfl) (fun _ => rfl)
    (fun s m n => by simp only [State.dpll, State.onLoop_loop, vget_vmap]; exact Dpll.onState_keep (·.c) (fun _ => rfl) (fun _ => rfl) (fun _ => rfl) m n _)
    (fun _ _ _ => rfl) (fun _ _ => rfl) (fun _ _ => rfl) (fun _ _ => rfl) (fun _ => rfl) s
@[simp] theorem State.commit_dpll_cTick (s : State) (d : Fin 8) : (s.commit.dpll d).cTick = (s.dpll d).cTick :=
  commit_keep (fun x => (x.dpll d).cTick) (fun _ _ _ => rfl) (fun _ _ => rfl) (fun _ => rfl)
    (fun s m n => by simp only [State.dpll, State.onLoop_loop, vget_vmap]; exact Dpll.onState_keep (·.cTick) (fun _ => rfl) (fun _ => rfl) (fun _ => rfl) m n _)
    (fun _ _ _ => rfl) (fun _ _ => rfl) (fun _ _ => rfl) (fun _ _ => rfl) (fun _ => rfl) s
@[simp] theorem State.commit_dpll_err (s : State) (d : Fin 8) : (s.commit.dpll d).err = (s.dpll d).err :=
  commit_keep (fun x => (x.dpll d).err) (fun _ _ _ => rfl) (fun _ _ => rfl) (fun _ => rfl)
    (fun s m n => by simp only [State.dpll, State.onLoop_loop, vget_vmap]; exact Dpll.onState_keep (·.err) (fun _ => rfl) (fun _ => rfl) (fun _ => rfl) m n _)
    (fun _ _ _ => rfl) (fun _ _ => rfl) (fun _ _ => rfl) (fun _ _ => rfl) (fun _ => rfl) s
@[simp] theorem State.commit_dpll_lastErr (s : State) (d : Fin 8) : (s.commit.dpll d).lastErr = (s.dpll d).lastErr :=
  commit_keep (fun x => (x.dpll d).lastErr) (fun _ _ _ => rfl) (fun _ _ => rfl) (fun _ => rfl)
    (fun s m n => by simp only [State.dpll, State.onLoop_loop, vget_vmap]; exact Dpll.onState_keep (·.lastErr) (fun _ => rfl) (fun _ => rfl) (fun _ => rfl) m n _)
    (fun _ _ _ => rfl) (fun _ _ => rfl) (fun _ _ => rfl) (fun _ _ => rfl) (fun _ => rfl) s
@[simp] theorem State.commit_dpll_errs (s : State) (d : Fin 8) : (s.commit.dpll d).errs = (s.dpll d).errs :=
  commit_keep (fun x => (x.dpll d).errs) (fun _ _ _ => rfl) (fun _ _ => rfl) (fun _ => rfl)
    (fun s m n => by simp only [State.dpll, State.onLoop_loop, vget_vmap]; exact Dpll.onState_keep (·.errs) (fun _ => rfl) (fun _ => rfl) (fun _ => rfl) m n _)
    (fun _ _ _ => rfl) (fun _ _ => rfl) (fun _ _ => rfl) (fun _ _ => rfl) (fun _ => rfl) s
@[simp] theorem State.commit_dpll_lockFrom (s : State) (d : Fin 8) : (s.commit.dpll d).lockFrom = (s.dpll d).lockFrom :=
  commit_keep (fun x => (x.dpll d).lockFrom) (fun _ _ _ => rfl) (fun _ _ => rfl) (fun _ => rfl)
    (fun s m n => by simp only [State.dpll, State.onLoop_loop, vget_vmap]; exact Dpll.onState_keep (·.lockFrom) (fun _ => rfl) (fun _ => rfl) (fun _ => rfl) m n _)
    (fun _ _ _ => rfl) (fun _ _ => rfl) (fun _ _ => rfl) (fun _ _ => rfl) (fun _ => rfl) s
@[simp] theorem State.commit_dpll_badRun (s : State) (d : Fin 8) : (s.commit.dpll d).badRun = (s.dpll d).badRun :=
  commit_keep (fun x => (x.dpll d).badRun) (fun _ _ _ => rfl) (fun _ _ => rfl) (fun _ => rfl)
    (fun s m n => by simp only [State.dpll, State.onLoop_loop, vget_vmap]; exact Dpll.onState_keep (·.badRun) (fun _ => rfl) (fun _ => rfl) (fun _ => rfl) m n _)
    (fun _ _ _ => rfl) (fun _ _ => rfl) (fun _ _ => rfl) (fun _ _ => rfl) (fun _ => rfl) s
@[simp] theorem State.commit_dpll_pullLimited (s : State) (d : Fin 8) : (s.commit.dpll d).pullLimited = (s.dpll d).pullLimited :=
  commit_keep (fun x => (x.dpll d).pullLimited) (fun _ _ _ => rfl) (fun _ _ => rfl) (fun _ => rfl)
    (fun s m n => by simp only [State.dpll, State.onLoop_loop, vget_vmap]; exact Dpll.onState_keep (·.pullLimited) (fun _ => rfl) (fun _ => rfl) (fun _ => rfl) m n _)
    (fun _ _ _ => rfl) (fun _ _ => rfl) (fun _ _ => rfl) (fun _ _ => rfl) (fun _ => rfl) s
@[simp] theorem State.commit_dpll_pullFrom (s : State) (d : Fin 8) : (s.commit.dpll d).pullFrom = (s.dpll d).pullFrom :=
  commit_keep (fun x => (x.dpll d).pullFrom) (fun _ _ _ => rfl) (fun _ _ => rfl) (fun _ => rfl)
    (fun s m n => by simp only [State.dpll, State.onLoop_loop, vget_vmap]; exact Dpll.onState_keep (·.pullFrom) (fun _ => rfl) (fun _ => rfl) (fun _ => rfl) m n _)
    (fun _ _ _ => rfl) (fun _ _ => rfl) (fun _ _ => rfl) (fun _ _ => rfl) (fun _ => rfl) s
@[simp] theorem State.commit_dpll_hoAvg (s : State) (d : Fin 8) : (s.commit.dpll d).hoAvg = (s.dpll d).hoAvg :=
  commit_keep (fun x => (x.dpll d).hoAvg) (fun _ _ _ => rfl) (fun _ _ => rfl) (fun _ => rfl)
    (fun s m n => by simp only [State.dpll, State.onLoop_loop, vget_vmap]; exact Dpll.onState_keep (·.hoAvg) (fun _ => rfl) (fun _ => rfl) (fun _ => rfl) m n _)
    (fun _ _ _ => rfl) (fun _ _ => rfl) (fun _ _ => rfl) (fun _ _ => rfl) (fun _ => rfl) s
@[simp] theorem State.commit_dpll_hoReg (s : State) (d : Fin 8) : (s.commit.dpll d).hoReg = (s.dpll d).hoReg :=
  commit_keep (fun x => (x.dpll d).hoReg) (fun _ _ _ => rfl) (fun _ _ => rfl) (fun _ => rfl)
    (fun s m n => by simp only [State.dpll, State.onLoop_loop, vget_vmap]; exact Dpll.onState_keep (·.hoReg) (fun _ => rfl) (fun _ => rfl) (fun _ => rfl) m n _)
    (fun _ _ _ => rfl) (fun _ _ => rfl) (fun _ _ => rfl) (fun _ _ => rfl) (fun _ => rfl) s
@[simp] theorem State.commit_dpll_hoCentre (s : State) (d : Fin 8) : (s.commit.dpll d).hoCentre = (s.dpll d).hoCentre :=
  commit_keep (fun x => (x.dpll d).hoCentre) (fun _ _ _ => rfl) (fun _ _ => rfl) (fun _ => rfl)
    (fun s m n => by simp only [State.dpll, State.onLoop_loop, vget_vmap]; exact Dpll.onState_keep (·.hoCentre) (fun _ => rfl) (fun _ => rfl) (fun _ => rfl) m n _)
    (fun _ _ _ => rfl) (fun _ _ => rfl) (fun _ _ => rfl) (fun _ _ => rfl) (fun _ => rfl) s
@[simp] theorem State.commit_dpll_hoTc (s : State) (d : Fin 8) : (s.commit.dpll d).hoTc = (s.dpll d).hoTc :=
  commit_keep (fun x => (x.dpll d).hoTc) (fun _ _ _ => rfl) (fun _ _ => rfl) (fun _ => rfl)
    (fun s m n => by simp only [State.dpll, State.onLoop_loop, vget_vmap]; exact Dpll.onState_keep (·.hoTc) (fun _ => rfl) (fun _ => rfl) (fun _ => rfl) m n _)
    (fun _ _ _ => rfl) (fun _ _ => rfl) (fun _ _ => rfl) (fun _ _ => rfl) (fun _ => rfl) s
@[simp] theorem State.commit_dpll_hoUavg (s : State) (d : Fin 8) : (s.commit.dpll d).hoUavg = (s.dpll d).hoUavg :=
  commit_keep (fun x => (x.dpll d).hoUavg) (fun _ _ _ => rfl) (fun _ _ => rfl) (fun _ => rfl)
    (fun s m n => by simp only [State.dpll, State.onLoop_loop, vget_vmap]; exact Dpll.onState_keep (·.hoUavg) (fun _ => rfl) (fun _ => rfl) (fun _ => rfl) m n _)
    (fun _ _ _ => rfl) (fun _ _ => rfl) (fun _ _ => rfl) (fun _ _ => rfl) (fun _ => rfl) s
@[simp] theorem State.commit_dpll_windowUsed (s : State) (d : Fin 8) : (s.commit.dpll d).windowUsed = (s.dpll d).windowUsed :=
  commit_keep (fun x => (x.dpll d).windowUsed) (fun _ _ _ => rfl) (fun _ _ => rfl) (fun _ => rfl)
    (fun s m n => by simp only [State.dpll, State.onLoop_loop, vget_vmap]; exact Dpll.onState_keep (·.windowUsed) (fun _ => rfl) (fun _ => rfl) (fun _ => rfl) m n _)
    (fun _ _ _ => rfl) (fun _ _ => rfl) (fun _ _ => rfl) (fun _ _ => rfl) (fun _ => rfl) s
@[simp] theorem State.commit_dpll_hoShort (s : State) (d : Fin 8) : (s.commit.dpll d).hoShort = (s.dpll d).hoShort :=
  commit_keep (fun x => (x.dpll d).hoShort) (fun _ _ _ => rfl) (fun _ _ => rfl) (fun _ => rfl)
    (fun s m n => by simp only [State.dpll, State.onLoop_loop, vget_vmap]; exact Dpll.onState_keep (·.hoShort) (fun _ => rfl) (fun _ => rfl) (fun _ => rfl) m n _)
    (fun _ _ _ => rfl) (fun _ _ => rfl) (fun _ _ => rfl) (fun _ _ => rfl) (fun _ => rfl) s
@[simp] theorem State.commit_dpll_regTerms (s : State) (d : Fin 8) : (s.commit.dpll d).regTerms = (s.dpll d).regTerms :=
  commit_keep (fun x => (x.dpll d).regTerms) (fun _ _ _ => rfl) (fun _ _ => rfl) (fun _ => rfl)
    (fun s m n => by simp only [State.dpll, State.onLoop_loop, vget_vmap]; exact Dpll.onState_keep (·.regTerms) (fun _ => rfl) (fun _ => rfl) (fun _ => rfl) m n _)
    (fun _ _ _ => rfl) (fun _ _ => rfl) (fun _ _ => rfl) (fun _ _ => rfl) (fun _ => rfl) s
@[simp] theorem State.commit_dpll_terms (s : State) (d : Fin 8) : (s.commit.dpll d).terms = (s.dpll d).terms :=
  commit_keep (fun x => (x.dpll d).terms) (fun _ _ _ => rfl) (fun _ _ => rfl) (fun _ => rfl)
    (fun s m n => by simp only [State.dpll, State.onLoop_loop, vget_vmap]; exact Dpll.onState_keep (·.terms) (fun _ => rfl) (fun _ => rfl) (fun _ => rfl) m n _)
    (fun _ _ _ => rfl) (fun _ _ => rfl) (fun _ _ => rfl) (fun _ _ => rfl) (fun _ => rfl) s
@[simp] theorem State.commit_dpll_hoOld (s : State) (d : Fin 8) : (s.commit.dpll d).hoOld = (s.dpll d).hoOld :=
  commit_keep (fun x => (x.dpll d).hoOld) (fun _ _ _ => rfl) (fun _ _ => rfl) (fun _ => rfl)
    (fun s m n => by simp only [State.dpll, State.onLoop_loop, vget_vmap]; exact Dpll.onState_keep (·.hoOld) (fun _ => rfl) (fun _ => rfl) (fun _ => rfl) m n _)
    (fun _ _ _ => rfl) (fun _ _ => rfl) (fun _ _ => rfl) (fun _ _ => rfl) (fun _ => rfl) s
@[simp] theorem State.commit_dpll_hoAt (s : State) (d : Fin 8) : (s.commit.dpll d).hoAt = (s.dpll d).hoAt :=
  commit_keep (fun x => (x.dpll d).hoAt) (fun _ _ _ => rfl) (fun _ _ => rfl) (fun _ => rfl)
    (fun s m n => by simp only [State.dpll, State.onLoop_loop, vget_vmap]; exact Dpll.onState_keep (·.hoAt) (fun _ => rfl) (fun _ => rfl) (fun _ => rfl) m n _)
    (fun _ _ _ => rfl) (fun _ _ => rfl) (fun _ _ => rfl) (fun _ _ => rfl) (fun _ => rfl) s
@[simp] theorem State.commit_dpll_hoEntry (s : State) (d : Fin 8) : (s.commit.dpll d).hoEntry = (s.dpll d).hoEntry :=
  commit_keep (fun x => (x.dpll d).hoEntry) (fun _ _ _ => rfl) (fun _ _ => rfl) (fun _ => rfl)
    (fun s m n => by simp only [State.dpll, State.onLoop_loop, vget_vmap]; exact Dpll.onState_keep (·.hoEntry) (fun _ => rfl) (fun _ => rfl) (fun _ => rfl) m n _)
    (fun _ _ _ => rfl) (fun _ _ => rfl) (fun _ _ => rfl) (fun _ _ => rfl) (fun _ => rfl) s
@[simp] theorem State.commit_dpll_hoFrom (s : State) (d : Fin 8) : (s.commit.dpll d).hoFrom = (s.dpll d).hoFrom :=
  commit_keep (fun x => (x.dpll d).hoFrom) (fun _ _ _ => rfl) (fun _ _ => rfl) (fun _ => rfl)
    (fun s m n => by simp only [State.dpll, State.onLoop_loop, vget_vmap]; exact Dpll.onState_keep (·.hoFrom) (fun _ => rfl) (fun _ => rfl) (fun _ => rfl) m n _)
    (fun _ _ _ => rfl) (fun _ _ => rfl) (fun _ _ => rfl) (fun _ _ => rfl) (fun _ => rfl) s
@[simp] theorem State.commit_dpll_te0 (s : State) (d : Fin 8) : (s.commit.dpll d).te0 = (s.dpll d).te0 :=
  commit_keep (fun x => (x.dpll d).te0) (fun _ _ _ => rfl) (fun _ _ => rfl) (fun _ => rfl)
    (fun s m n => by simp only [State.dpll, State.onLoop_loop, vget_vmap]; exact Dpll.onState_keep (·.te0) (fun _ => rfl) (fun _ => rfl) (fun _ => rfl) m n _)
    (fun _ _ _ => rfl) (fun _ _ => rfl) (fun _ _ => rfl) (fun _ _ => rfl) (fun _ => rfl) s
@[simp] theorem State.commit_dpll_teValid (s : State) (d : Fin 8) : (s.commit.dpll d).teValid = (s.dpll d).teValid :=
  commit_keep (fun x => (x.dpll d).teValid) (fun _ _ _ => rfl) (fun _ _ => rfl) (fun _ => rfl)
    (fun s m n => by simp only [State.dpll, State.onLoop_loop, vget_vmap]; exact Dpll.onState_keep (·.teValid) (fun _ => rfl) (fun _ => rfl) (fun _ => rfl) m n _)
    (fun _ _ _ => rfl) (fun _ _ => rfl) (fun _ _ => rfl) (fun _ _ => rfl) (fun _ => rfl) s
@[simp] theorem State.commit_dpll_hoTempInt (s : State) (d : Fin 8) : (s.commit.dpll d).hoTempInt = (s.dpll d).hoTempInt :=
  commit_keep (fun x => (x.dpll d).hoTempInt) (fun _ _ _ => rfl) (fun _ _ => rfl) (fun _ => rfl)
    (fun s m n => by simp only [State.dpll, State.onLoop_loop, vget_vmap]; exact Dpll.onState_keep (·.hoTempInt) (fun _ => rfl) (fun _ => rfl) (fun _ => rfl) m n _)
    (fun _ _ _ => rfl) (fun _ _ => rfl) (fun _ _ => rfl) (fun _ _ => rfl) (fun _ => rfl) s
@[simp] theorem State.commit_dpll_hoCold (s : State) (d : Fin 8) : (s.commit.dpll d).hoCold = (s.dpll d).hoCold :=
  commit_keep (fun x => (x.dpll d).hoCold) (fun _ _ _ => rfl) (fun _ _ => rfl) (fun _ => rfl)
    (fun s m n => by simp only [State.dpll, State.onLoop_loop, vget_vmap]; exact Dpll.onState_keep (·.hoCold) (fun _ => rfl) (fun _ => rfl) (fun _ => rfl) m n _)
    (fun _ _ _ => rfl) (fun _ _ => rfl) (fun _ _ => rfl) (fun _ _ => rfl) (fun _ => rfl) s
@[simp] theorem State.commit_dpll_hoModel (s : State) (d : Fin 8) : (s.commit.dpll d).hoModel = (s.dpll d).hoModel :=
  commit_keep (fun x => (x.dpll d).hoModel) (fun _ _ _ => rfl) (fun _ _ => rfl) (fun _ => rfl)
    (fun s m n => by simp only [State.dpll, State.onLoop_loop, vget_vmap]; exact Dpll.onState_keep (·.hoModel) (fun _ => rfl) (fun _ => rfl) (fun _ => rfl) m n _)
    (fun _ _ _ => rfl) (fun _ _ => rfl) (fun _ _ => rfl) (fun _ _ => rfl) (fun _ => rfl) s
@[simp] theorem State.commit_dpll_overBudget (s : State) (d : Fin 8) : (s.commit.dpll d).overBudget = (s.dpll d).overBudget :=
  commit_keep (fun x => (x.dpll d).overBudget) (fun _ _ _ => rfl) (fun _ _ => rfl) (fun _ => rfl)
    (fun s m n => by simp only [State.dpll, State.onLoop_loop, vget_vmap]; exact Dpll.onState_keep (·.overBudget) (fun _ => rfl) (fun _ => rfl) (fun _ => rfl) m n _)
    (fun _ _ _ => rfl) (fun _ _ => rfl) (fun _ _ => rfl) (fun _ _ => rfl) (fun _ => rfl) s
@[simp] theorem State.commit_dpll_teEst (s : State) (d : Fin 8) : (s.commit.dpll d).teEst = (s.dpll d).teEst :=
  commit_keep (fun x => (x.dpll d).teEst) (fun _ _ _ => rfl) (fun _ _ => rfl) (fun _ => rfl)
    (fun s m n => by simp only [State.dpll, State.onLoop_loop, vget_vmap]; exact Dpll.onState_keep (·.teEst) (fun _ => rfl) (fun _ => rfl) (fun _ => rfl) m n _)
    (fun _ _ _ => rfl) (fun _ _ => rfl) (fun _ _ => rfl) (fun _ _ => rfl) (fun _ => rfl) s
@[simp] theorem State.commit_dpll_feEst (s : State) (d : Fin 8) : (s.commit.dpll d).feEst = (s.dpll d).feEst :=
  commit_keep (fun x => (x.dpll d).feEst) (fun _ _ _ => rfl) (fun _ _ => rfl) (fun _ => rfl)
    (fun s m n => by simp only [State.dpll, State.onLoop_loop, vget_vmap]; exact Dpll.onState_keep (·.feEst) (fun _ => rfl) (fun _ => rfl) (fun _ => rfl) m n _)
    (fun _ _ _ => rfl) (fun _ _ => rfl) (fun _ _ => rfl) (fun _ _ => rfl) (fun _ => rfl) s
@[simp] theorem State.commit_dpll_stFrom (s : State) (d : Fin 8) : (s.commit.dpll d).stFrom = (s.dpll d).stFrom :=
  commit_keep (fun x => (x.dpll d).stFrom) (fun _ _ _ => rfl) (fun _ _ => rfl) (fun _ => rfl)
    (fun s m n => by simp only [State.dpll, State.onLoop_loop, vget_vmap]; exact Dpll.onState_keep (·.stFrom) (fun _ => rfl) (fun _ => rfl) (fun _ => rfl) m n _)
    (fun _ _ _ => rfl) (fun _ _ => rfl) (fun _ _ => rfl) (fun _ _ => rfl) (fun _ => rfl) s
@[simp] theorem State.commit_dpll_since (s : State) (d : Fin 8) : (s.commit.dpll d).since = (s.dpll d).since :=
  commit_keep (fun x => (x.dpll d).since) (fun _ _ _ => rfl) (fun _ _ => rfl) (fun _ => rfl)
    (fun s m n => by simp only [State.dpll, State.onLoop_loop, vget_vmap]; exact Dpll.onState_keep (·.since) (fun _ => rfl) (fun _ => rfl) (fun _ => rfl) m n _)
    (fun _ _ _ => rfl) (fun _ _ => rfl) (fun _ _ => rfl) (fun _ _ => rfl) (fun _ => rfl) s
@[simp] theorem State.commit_dpll_followed (s : State) (d : Fin 8) : (s.commit.dpll d).followed = (s.dpll d).followed :=
  commit_keep (fun x => (x.dpll d).followed) (fun _ _ _ => rfl) (fun _ _ => rfl) (fun _ => rfl)
    (fun s m n => by simp only [State.dpll, State.onLoop_loop, vget_vmap]; exact Dpll.onState_keep (·.followed) (fun _ => rfl) (fun _ => rfl) (fun _ => rfl) m n _)
    (fun _ _ _ => rfl) (fun _ _ => rfl) (fun _ _ => rfl) (fun _ _ => rfl) (fun _ => rfl) s
@[simp] theorem State.commit_dpll_domTime (s : State) (d : Fin 8) : (s.commit.dpll d).domTime = (s.dpll d).domTime :=
  commit_keep (fun x => (x.dpll d).domTime) (fun _ _ _ => rfl) (fun _ _ => rfl) (fun _ => rfl)
    (fun s m n => by simp only [State.dpll, State.onLoop_loop, vget_vmap]; exact Dpll.onState_keep (·.domTime) (fun _ => rfl) (fun _ => rfl) (fun _ => rfl) m n _)
    (fun _ _ _ => rfl) (fun _ _ => rfl) (fun _ _ => rfl) (fun _ _ => rfl) (fun _ => rfl) s
@[simp] theorem State.commit_dpll_secC (s : State) (d : Fin 8) : (s.commit.dpll d).secC = (s.dpll d).secC :=
  commit_keep (fun x => (x.dpll d).secC) (fun _ _ _ => rfl) (fun _ _ => rfl) (fun _ => rfl)
    (fun s m n => by simp only [State.dpll, State.onLoop_loop, vget_vmap]; exact Dpll.onState_keep (·.secC) (fun _ => rfl) (fun _ => rfl) (fun _ => rfl) m n _)
    (fun _ _ _ => rfl) (fun _ _ => rfl) (fun _ _ => rfl) (fun _ _ => rfl) (fun _ => rfl) s
@[simp] theorem State.commit_dpll_secAll (s : State) (d : Fin 8) : (s.commit.dpll d).secAll = (s.dpll d).secAll :=
  commit_keep (fun x => (x.dpll d).secAll) (fun _ _ _ => rfl) (fun _ _ => rfl) (fun _ => rfl)
    (fun s m n => by simp only [State.dpll, State.onLoop_loop, vget_vmap]; exact Dpll.onState_keep (·.secAll) (fun _ => rfl) (fun _ => rfl) (fun _ => rfl) m n _)
    (fun _ _ _ => rfl) (fun _ _ => rfl) (fun _ _ => rfl) (fun _ _ => rfl) (fun _ => rfl) s
@[simp] theorem State.commit_dpll_secT (s : State) (d : Fin 8) : (s.commit.dpll d).secT = (s.dpll d).secT :=
  commit_keep (fun x => (x.dpll d).secT) (fun _ _ _ => rfl) (fun _ _ => rfl) (fun _ => rfl)
    (fun s m n => by simp only [State.dpll, State.onLoop_loop, vget_vmap]; exact Dpll.onState_keep (·.secT) (fun _ => rfl) (fun _ => rfl) (fun _ => rfl) m n _)
    (fun _ _ _ => rfl) (fun _ _ => rfl) (fun _ _ => rfl) (fun _ _ => rfl) (fun _ => rfl) s
@[simp] theorem State.commit_dpll_secE (s : State) (d : Fin 8) : (s.commit.dpll d).secE = (s.dpll d).secE :=
  commit_keep (fun x => (x.dpll d).secE) (fun _ _ _ => rfl) (fun _ _ => rfl) (fun _ => rfl)
    (fun s m n => by simp only [State.dpll, State.onLoop_loop, vget_vmap]; exact Dpll.onState_keep (·.secE) (fun _ => rfl) (fun _ => rfl) (fun _ => rfl) m n _)
    (fun _ _ _ => rfl) (fun _ _ => rfl) (fun _ _ => rfl) (fun _ _ => rfl) (fun _ => rfl) s
@[simp] theorem State.commit_dpll_secEE (s : State) (d : Fin 8) : (s.commit.dpll d).secEE = (s.dpll d).secEE :=
  commit_keep (fun x => (x.dpll d).secEE) (fun _ _ _ => rfl) (fun _ _ => rfl) (fun _ => rfl)
    (fun s m n => by simp only [State.dpll, State.onLoop_loop, vget_vmap]; exact Dpll.onState_keep (·.secEE) (fun _ => rfl) (fun _ => rfl) (fun _ => rfl) m n _)
    (fun _ _ _ => rfl) (fun _ _ => rfl) (fun _ _ => rfl) (fun _ _ => rfl) (fun _ => rfl) s
@[simp] theorem State.commit_dpll_secEMax (s : State) (d : Fin 8) : (s.commit.dpll d).secEMax = (s.dpll d).secEMax :=
  commit_keep (fun x => (x.dpll d).secEMax) (fun _ _ _ => rfl) (fun _ _ => rfl) (fun _ => rfl)
    (fun s m n => by simp only [State.dpll, State.onLoop_loop, vget_vmap]; exact Dpll.onState_keep (·.secEMax) (fun _ => rfl) (fun _ => rfl) (fun _ => rfl) m n _)
    (fun _ _ _ => rfl) (fun _ _ => rfl) (fun _ _ => rfl) (fun _ _ => rfl) (fun _ => rfl) s
@[simp] theorem State.commit_dpll_secN (s : State) (d : Fin 8) : (s.commit.dpll d).secN = (s.dpll d).secN :=
  commit_keep (fun x => (x.dpll d).secN) (fun _ _ _ => rfl) (fun _ _ => rfl) (fun _ => rfl)
    (fun s m n => by simp only [State.dpll, State.onLoop_loop, vget_vmap]; exact Dpll.onState_keep (·.secN) (fun _ => rfl) (fun _ => rfl) (fun _ => rfl) m n _)
    (fun _ _ _ => rfl) (fun _ _ => rfl) (fun _ _ => rfl) (fun _ _ => rfl) (fun _ => rfl) s
@[simp] theorem State.commit_dpll_followC (s : State) (d : Fin 8) : (s.commit.dpll d).followC = (s.dpll d).followC :=
  commit_keep (fun x => (x.dpll d).followC) (fun _ _ _ => rfl) (fun _ _ => rfl) (fun _ => rfl)
    (fun s m n => by simp only [State.dpll, State.onLoop_loop, vget_vmap]; exact Dpll.onState_keep (·.followC) (fun _ => rfl) (fun _ => rfl) (fun _ => rfl) m n _)
    (fun _ _ _ => rfl) (fun _ _ => rfl) (fun _ _ => rfl) (fun _ _ => rfl) (fun _ => rfl) s

/-- The passage of time keeps every field of a DPLL but its build-out, its dwell, its domain time, the tick's
control value and the sums. -/
theorem Dpll.pass_keep {α : Type} (p : Dpll → α)
    (h1 : ∀ (d : Dpll) (b : Int) (r : Nat), p { d with buildOut := b, steerRem := r } = p d)
    (h2 : ∀ (d : Dpll) (w : Nat) (x z y : Int) (a b : Nat), p { d with dwell := w, domTime := x, cTick := z, secC := y, secAll := a, secT := b } = p d)
    (a b : Nat) (d : Dpll) : p (Dpll.pass a b d) = p d := by
  unfold Dpll.pass
  refine (h2 (d.steer (b - a)) _ _ _ _ _ _).trans ?_
  unfold Dpll.steer
  split
  · exact h1 d _ _
  · rfl

theorem State.advance_dpll {α : Type} (p : Dpll → α) (h : ∀ a b d, p (Dpll.pass a b d) = p d) (t : Nat) (s : State) (d : Fin 8) :
    p ((s.advance t).dpll d) = p (s.dpll d) := by
  unfold State.advance
  dsimp only
  split
  · rfl
  · unfold State.steered
    split
    · simp only [State.dpll, State.onLoop_loop, State.onTime_loop, vget_vmap, h]
    · simp only [State.histStep, State.dpll, State.onRef_loop, State.onLoop_loop, State.onTime_loop, vget_vmap, h]

@[simp] theorem State.advance_dpll_use (t : Nat) (s : State) (d : Fin 8) : ((s.advance t).dpll d).use = (s.dpll d).use :=
  State.advance_dpll (·.use) (fun a b d => Dpll.pass_keep (·.use) (fun _ _ _ => rfl) (fun _ _ _ _ _ _ _ => rfl) a b d) t s d
@[simp] theorem State.advance_dpll_forcedMode (t : Nat) (s : State) (d : Fin 8) : ((s.advance t).dpll d).forcedMode = (s.dpll d).forcedMode :=
  State.advance_dpll (·.forcedMode) (fun a b d => Dpll.pass_keep (·.forcedMode) (fun _ _ _ => rfl) (fun _ _ _ _ _ _ _ => rfl) a b d) t s d
@[simp] theorem State.advance_dpll_revert (t : Nat) (s : State) (d : Fin 8) : ((s.advance t).dpll d).revert = (s.dpll d).revert :=
  State.advance_dpll (·.revert) (fun a b d => Dpll.pass_keep (·.revert) (fun _ _ _ => rfl) (fun _ _ _ _ _ _ _ => rfl) a b d) t s d
@[simp] theorem State.advance_dpll_timeAsFreq (t : Nat) (s : State) (d : Fin 8) : ((s.advance t).dpll d).timeAsFreq = (s.dpll d).timeAsFreq :=
  State.advance_dpll (·.timeAsFreq) (fun a b d => Dpll.pass_keep (·.timeAsFreq) (fun _ _ _ => rfl) (fun _ _ _ _ _ _ _ => rfl) a b d) t s d
@[simp] theorem State.advance_dpll_manual (t : Nat) (s : State) (d : Fin 8) : ((s.advance t).dpll d).manual = (s.dpll d).manual :=
  State.advance_dpll (·.manual) (fun a b d => Dpll.pass_keep (·.manual) (fun _ _ _ => rfl) (fun _ _ _ _ _ _ _ => rfl) a b d) t s d
@[simp] theorem State.advance_dpll_slopeLimit (t : Nat) (s : State) (d : Fin 8) : ((s.advance t).dpll d).slopeLimit = (s.dpll d).slopeLimit :=
  State.advance_dpll (·.slopeLimit) (fun a b d => Dpll.pass_keep (·.slopeLimit) (fun _ _ _ => rfl) (fun _ _ _ _ _ _ _ => rfl) a b d) t s d
@[simp] theorem State.advance_dpll_settleThr (t : Nat) (s : State) (d : Fin 8) : ((s.advance t).dpll d).settleThr = (s.dpll d).settleThr :=
  State.advance_dpll (·.settleThr) (fun a b d => Dpll.pass_keep (·.settleThr) (fun _ _ _ => rfl) (fun _ _ _ _ _ _ _ => rfl) a b d) t s d
@[simp] theorem State.advance_dpll_hitLimit (t : Nat) (s : State) (d : Fin 8) : ((s.advance t).dpll d).hitLimit = (s.dpll d).hitLimit :=
  State.advance_dpll (·.hitLimit) (fun a b d => Dpll.pass_keep (·.hitLimit) (fun _ _ _ => rfl) (fun _ _ _ _ _ _ _ => rfl) a b d) t s d
@[simp] theorem State.advance_dpll_cur (t : Nat) (s : State) (d : Fin 8) : ((s.advance t).dpll d).cur = (s.dpll d).cur :=
  State.advance_dpll (·.cur) (fun a b d => Dpll.pass_keep (·.cur) (fun _ _ _ => rfl) (fun _ _ _ _ _ _ _ => rfl) a b d) t s d
@[simp] theorem State.advance_dpll_target (t : Nat) (s : State) (d : Fin 8) : ((s.advance t).dpll d).target = (s.dpll d).target :=
  State.advance_dpll (·.target) (fun a b d => Dpll.pass_keep (·.target) (fun _ _ _ => rfl) (fun _ _ _ _ _ _ _ => rfl) a b d) t s d
@[simp] theorem State.advance_dpll_next (t : Nat) (s : State) (d : Fin 8) : ((s.advance t).dpll d).next = (s.dpll d).next :=
  State.advance_dpll (·.next) (fun a b d => Dpll.pass_keep (·.next) (fun _ _ _ => rfl) (fun _ _ _ _ _ _ _ => rfl) a b d) t s d
@[simp] theorem State.advance_dpll_sw (t : Nat) (s : State) (d : Fin 8) : ((s.advance t).dpll d).sw = (s.dpll d).sw :=
  State.advance_dpll (·.sw) (fun a b d => Dpll.pass_keep (·.sw) (fun _ _ _ => rfl) (fun _ _ _ _ _ _ _ => rfl) a b d) t s d
@[simp] theorem State.advance_dpll_swFrom (t : Nat) (s : State) (d : Fin 8) : ((s.advance t).dpll d).swFrom = (s.dpll d).swFrom :=
  State.advance_dpll (·.swFrom) (fun a b d => Dpll.pass_keep (·.swFrom) (fun _ _ _ => rfl) (fun _ _ _ _ _ _ _ => rfl) a b d) t s d
@[simp] theorem State.advance_dpll_phFrom (t : Nat) (s : State) (d : Fin 8) : ((s.advance t).dpll d).phFrom = (s.dpll d).phFrom :=
  State.advance_dpll (·.phFrom) (fun a b d => Dpll.pass_keep (·.phFrom) (fun _ _ _ => rfl) (fun _ _ _ _ _ _ _ => rfl) a b d) t s d
@[simp] theorem State.advance_dpll_swOld (t : Nat) (s : State) (d : Fin 8) : ((s.advance t).dpll d).swOld = (s.dpll d).swOld :=
  State.advance_dpll (·.swOld) (fun a b d => Dpll.pass_keep (·.swOld) (fun _ _ _ => rfl) (fun _ _ _ _ _ _ _ => rfl) a b d) t s d
@[simp] theorem State.advance_dpll_swO (t : Nat) (s : State) (d : Fin 8) : ((s.advance t).dpll d).swO = (s.dpll d).swO :=
  State.advance_dpll (·.swO) (fun a b d => Dpll.pass_keep (·.swO) (fun _ _ _ => rfl) (fun _ _ _ _ _ _ _ => rfl) a b d) t s d
@[simp] theorem State.advance_dpll_swLost (t : Nat) (s : State) (d : Fin 8) : ((s.advance t).dpll d).swLost = (s.dpll d).swLost :=
  State.advance_dpll (·.swLost) (fun a b d => Dpll.pass_keep (·.swLost) (fun _ _ _ => rfl) (fun _ _ _ _ _ _ _ => rfl) a b d) t s d
@[simp] theorem State.advance_dpll_swAct (t : Nat) (s : State) (d : Fin 8) : ((s.advance t).dpll d).swAct = (s.dpll d).swAct :=
  State.advance_dpll (·.swAct) (fun a b d => Dpll.pass_keep (·.swAct) (fun _ _ _ => rfl) (fun _ _ _ _ _ _ _ => rfl) a b d) t s d
@[simp] theorem State.advance_dpll_taf (t : Nat) (s : State) (d : Fin 8) : ((s.advance t).dpll d).taf = (s.dpll d).taf :=
  State.advance_dpll (·.taf) (fun a b d => Dpll.pass_keep (·.taf) (fun _ _ _ => rfl) (fun _ _ _ _ _ _ _ => rfl) a b d) t s d
@[simp] theorem State.advance_dpll_swTaf (t : Nat) (s : State) (d : Fin 8) : ((s.advance t).dpll d).swTaf = (s.dpll d).swTaf :=
  State.advance_dpll (·.swTaf) (fun a b d => Dpll.pass_keep (·.swTaf) (fun _ _ _ => rfl) (fun _ _ _ _ _ _ _ => rfl) a b d) t s d
@[simp] theorem State.advance_dpll_swSamples (t : Nat) (s : State) (d : Fin 8) : ((s.advance t).dpll d).swSamples = (s.dpll d).swSamples :=
  State.advance_dpll (·.swSamples) (fun a b d => Dpll.pass_keep (·.swSamples) (fun _ _ _ => rfl) (fun _ _ _ _ _ _ _ => rfl) a b d) t s d
@[simp] theorem State.advance_dpll_swUpdates (t : Nat) (s : State) (d : Fin 8) : ((s.advance t).dpll d).swUpdates = (s.dpll d).swUpdates :=
  State.advance_dpll (·.swUpdates) (fun a b d => Dpll.pass_keep (·.swUpdates) (fun _ _ _ => rfl) (fun _ _ _ _ _ _ _ => rfl) a b d) t s d
@[simp] theorem State.advance_dpll_bridging (t : Nat) (s : State) (d : Fin 8) : ((s.advance t).dpll d).bridging = (s.dpll d).bridging :=
  State.advance_dpll (·.bridging) (fun a b d => Dpll.pass_keep (·.bridging) (fun _ _ _ => rfl) (fun _ _ _ _ _ _ _ => rfl) a b d) t s d
@[simp] theorem State.advance_dpll_bridgeFrom (t : Nat) (s : State) (d : Fin 8) : ((s.advance t).dpll d).bridgeFrom = (s.dpll d).bridgeFrom :=
  State.advance_dpll (·.bridgeFrom) (fun a b d => Dpll.pass_keep (·.bridgeFrom) (fun _ _ _ => rfl) (fun _ _ _ _ _ _ _ => rfl) a b d) t s d
@[simp] theorem State.advance_dpll_pendingEval (t : Nat) (s : State) (d : Fin 8) : ((s.advance t).dpll d).pendingEval = (s.dpll d).pendingEval :=
  State.advance_dpll (·.pendingEval) (fun a b d => Dpll.pass_keep (·.pendingEval) (fun _ _ _ => rfl) (fun _ _ _ _ _ _ _ => rfl) a b d) t s d
@[simp] theorem State.advance_dpll_evalDue (t : Nat) (s : State) (d : Fin 8) : ((s.advance t).dpll d).evalDue = (s.dpll d).evalDue :=
  State.advance_dpll (·.evalDue) (fun a b d => Dpll.pass_keep (·.evalDue) (fun _ _ _ => rfl) (fun _ _ _ _ _ _ _ => rfl) a b d) t s d
@[simp] theorem State.advance_dpll_steering (t : Nat) (s : State) (d : Fin 8) : ((s.advance t).dpll d).steering = (s.dpll d).steering :=
  State.advance_dpll (·.steering) (fun a b d => Dpll.pass_keep (·.steering) (fun _ _ _ => rfl) (fun _ _ _ _ _ _ _ => rfl) a b d) t s d
@[simp] theorem State.advance_dpll_stepPending (t : Nat) (s : State) (d : Fin 8) : ((s.advance t).dpll d).stepPending = (s.dpll d).stepPending :=
  State.advance_dpll (·.stepPending) (fun a b d => Dpll.pass_keep (·.stepPending) (fun _ _ _ => rfl) (fun _ _ _ _ _ _ _ => rfl) a b d) t s d
@[simp] theorem State.advance_dpll_slewing (t : Nat) (s : State) (d : Fin 8) : ((s.advance t).dpll d).slewing = (s.dpll d).slewing :=
  State.advance_dpll (·.slewing) (fun a b d => Dpll.pass_keep (·.slewing) (fun _ _ _ => rfl) (fun _ _ _ _ _ _ _ => rfl) a b d) t s d
@[simp] theorem State.advance_dpll_lastOutcome (t : Nat) (s : State) (d : Fin 8) : ((s.advance t).dpll d).lastOutcome = (s.dpll d).lastOutcome :=
  State.advance_dpll (·.lastOutcome) (fun a b d => Dpll.pass_keep (·.lastOutcome) (fun _ _ _ => rfl) (fun _ _ _ _ _ _ _ => rfl) a b d) t s d
@[simp] theorem State.advance_dpll_enable (t : Nat) (s : State) (d : Fin 8) : ((s.advance t).dpll d).enable = (s.dpll d).enable :=
  State.advance_dpll (·.enable) (fun a b d => Dpll.pass_keep (·.enable) (fun _ _ _ => rfl) (fun _ _ _ _ _ _ _ => rfl) a b d) t s d
@[simp] theorem State.advance_dpll_damping (t : Nat) (s : State) (d : Fin 8) : ((s.advance t).dpll d).damping = (s.dpll d).damping :=
  State.advance_dpll (·.damping) (fun a b d => Dpll.pass_keep (·.damping) (fun _ _ _ => rfl) (fun _ _ _ _ _ _ _ => rfl) a b d) t s d
@[simp] theorem State.advance_dpll_bw (t : Nat) (s : State) (d : Fin 8) : ((s.advance t).dpll d).bw = (s.dpll d).bw :=
  State.advance_dpll (·.bw) (fun a b d => Dpll.pass_keep (·.bw) (fun _ _ _ => rfl) (fun _ _ _ _ _ _ _ => rfl) a b d) t s d
@[simp] theorem State.advance_dpll_bwUse (t : Nat) (s : State) (d : Fin 8) : ((s.advance t).dpll d).bwUse = (s.dpll d).bwUse :=
  State.advance_dpll (·.bwUse) (fun a b d => Dpll.pass_keep (·.bwUse) (fun _ _ _ => rfl) (fun _ _ _ _ _ _ _ => rfl) a b d) t s d
@[simp] theorem State.advance_dpll_clampUse (t : Nat) (s : State) (d : Fin 8) : ((s.advance t).dpll d).clampUse = (s.dpll d).clampUse :=
  State.advance_dpll (·.clampUse) (fun a b d => Dpll.pass_keep (·.clampUse) (fun _ _ _ => rfl) (fun _ _ _ _ _ _ _ => rfl) a b d) t s d
@[simp] theorem State.advance_dpll_dampUse (t : Nat) (s : State) (d : Fin 8) : ((s.advance t).dpll d).dampUse = (s.dpll d).dampUse :=
  State.advance_dpll (·.dampUse) (fun a b d => Dpll.pass_keep (·.dampUse) (fun _ _ _ => rfl) (fun _ _ _ _ _ _ _ => rfl) a b d) t s d
@[simp] theorem State.advance_dpll_stepUse (t : Nat) (s : State) (d : Fin 8) : ((s.advance t).dpll d).stepUse = (s.dpll d).stepUse :=
  State.advance_dpll (·.stepUse) (fun a b d => Dpll.pass_keep (·.stepUse) (fun _ _ _ => rfl) (fun _ _ _ _ _ _ _ => rfl) a b d) t s d
@[simp] theorem State.advance_dpll_integ (t : Nat) (s : State) (d : Fin 8) : ((s.advance t).dpll d).integ = (s.dpll d).integ :=
  State.advance_dpll (·.integ) (fun a b d => Dpll.pass_keep (·.integ) (fun _ _ _ => rfl) (fun _ _ _ _ _ _ _ => rfl) a b d) t s d
@[simp] theorem State.advance_dpll_lockThr (t : Nat) (s : State) (d : Fin 8) : ((s.advance t).dpll d).lockThr = (s.dpll d).lockThr :=
  State.advance_dpll (·.lockThr) (fun a b d => Dpll.pass_keep (·.lockThr) (fun _ _ _ => rfl) (fun _ _ _ _ _ _ _ => rfl) a b d) t s d
@[simp] theorem State.advance_dpll_stepThr (t : Nat) (s : State) (d : Fin 8) : ((s.advance t).dpll d).stepThr = (s.dpll d).stepThr :=
  State.advance_dpll (·.stepThr) (fun a b d => Dpll.pass_keep (·.stepThr) (fun _ _ _ => rfl) (fun _ _ _ _ _ _ _ => rfl) a b d) t s d
@[simp] theorem State.advance_dpll_swThr (t : Nat) (s : State) (d : Fin 8) : ((s.advance t).dpll d).swThr = (s.dpll d).swThr :=
  State.advance_dpll (·.swThr) (fun a b d => Dpll.pass_keep (·.swThr) (fun _ _ _ => rfl) (fun _ _ _ _ _ _ _ => rfl) a b d) t s d
@[simp] theorem State.advance_dpll_pullLimit (t : Nat) (s : State) (d : Fin 8) : ((s.advance t).dpll d).pullLimit = (s.dpll d).pullLimit :=
  State.advance_dpll (·.pullLimit) (fun a b d => Dpll.pass_keep (·.pullLimit) (fun _ _ _ => rfl) (fun _ _ _ _ _ _ _ => rfl) a b d) t s d
@[simp] theorem State.advance_dpll_recSlew (t : Nat) (s : State) (d : Fin 8) : ((s.advance t).dpll d).recSlew = (s.dpll d).recSlew :=
  State.advance_dpll (·.recSlew) (fun a b d => Dpll.pass_keep (·.recSlew) (fun _ _ _ => rfl) (fun _ _ _ _ _ _ _ => rfl) a b d) t s d
@[simp] theorem State.advance_dpll_lockTime (t : Nat) (s : State) (d : Fin 8) : ((s.advance t).dpll d).lockTime = (s.dpll d).lockTime :=
  State.advance_dpll (·.lockTime) (fun a b d => Dpll.pass_keep (·.lockTime) (fun _ _ _ => rfl) (fun _ _ _ _ _ _ _ => rfl) a b d) t s d
@[simp] theorem State.advance_dpll_steps (t : Nat) (s : State) (d : Fin 8) : ((s.advance t).dpll d).steps = (s.dpll d).steps :=
  State.advance_dpll (·.steps) (fun a b d => Dpll.pass_keep (·.steps) (fun _ _ _ => rfl) (fun _ _ _ _ _ _ _ => rfl) a b d) t s d
@[simp] theorem State.advance_dpll_restartAfter (t : Nat) (s : State) (d : Fin 8) : ((s.advance t).dpll d).restartAfter = (s.dpll d).restartAfter :=
  State.advance_dpll (·.restartAfter) (fun a b d => Dpll.pass_keep (·.restartAfter) (fun _ _ _ => rfl) (fun _ _ _ _ _ _ _ => rfl) a b d) t s d
@[simp] theorem State.advance_dpll_stepIdx (t : Nat) (s : State) (d : Fin 8) : ((s.advance t).dpll d).stepIdx = (s.dpll d).stepIdx :=
  State.advance_dpll (·.stepIdx) (fun a b d => Dpll.pass_keep (·.stepIdx) (fun _ _ _ => rfl) (fun _ _ _ _ _ _ _ => rfl) a b d) t s d
@[simp] theorem State.advance_dpll_restartDue (t : Nat) (s : State) (d : Fin 8) : ((s.advance t).dpll d).restartDue = (s.dpll d).restartDue :=
  State.advance_dpll (·.restartDue) (fun a b d => Dpll.pass_keep (·.restartDue) (fun _ _ _ => rfl) (fun _ _ _ _ _ _ _ => rfl) a b d) t s d
@[simp] theorem State.advance_dpll_window (t : Nat) (s : State) (d : Fin 8) : ((s.advance t).dpll d).window = (s.dpll d).window :=
  State.advance_dpll (·.window) (fun a b d => Dpll.pass_keep (·.window) (fun _ _ _ => rfl) (fun _ _ _ _ _ _ _ => rfl) a b d) t s d
@[simp] theorem State.advance_dpll_guard (t : Nat) (s : State) (d : Fin 8) : ((s.advance t).dpll d).guard = (s.dpll d).guard :=
  State.advance_dpll (·.guard) (fun a b d => Dpll.pass_keep (·.guard) (fun _ _ _ => rfl) (fun _ _ _ _ _ _ _ => rfl) a b d) t s d
@[simp] theorem State.advance_dpll_driftEn (t : Nat) (s : State) (d : Fin 8) : ((s.advance t).dpll d).driftEn = (s.dpll d).driftEn :=
  State.advance_dpll (·.driftEn) (fun a b d => Dpll.pass_keep (·.driftEn) (fun _ _ _ => rfl) (fun _ _ _ _ _ _ _ => rfl) a b d) t s d
@[simp] theorem State.advance_dpll_tempEn (t : Nat) (s : State) (d : Fin 8) : ((s.advance t).dpll d).tempEn = (s.dpll d).tempEn :=
  State.advance_dpll (·.tempEn) (fun a b d => Dpll.pass_keep (·.tempEn) (fun _ _ _ => rfl) (fun _ _ _ _ _ _ _ => rfl) a b d) t s d
@[simp] theorem State.advance_dpll_budget (t : Nat) (s : State) (d : Fin 8) : ((s.advance t).dpll d).budget = (s.dpll d).budget :=
  State.advance_dpll (·.budget) (fun a b d => Dpll.pass_keep (·.budget) (fun _ _ _ => rfl) (fun _ _ _ _ _ _ _ => rfl) a b d) t s d
@[simp] theorem State.advance_dpll_offDue (t : Nat) (s : State) (d : Fin 8) : ((s.advance t).dpll d).offDue = (s.dpll d).offDue :=
  State.advance_dpll (·.offDue) (fun a b d => Dpll.pass_keep (·.offDue) (fun _ _ _ => rfl) (fun _ _ _ _ _ _ _ => rfl) a b d) t s d
@[simp] theorem State.advance_dpll_dstate (t : Nat) (s : State) (d : Fin 8) : ((s.advance t).dpll d).dstate = (s.dpll d).dstate :=
  State.advance_dpll (·.dstate) (fun a b d => Dpll.pass_keep (·.dstate) (fun _ _ _ => rfl) (fun _ _ _ _ _ _ _ => rfl) a b d) t s d
@[simp] theorem State.advance_dpll_hoCause (t : Nat) (s : State) (d : Fin 8) : ((s.advance t).dpll d).hoCause = (s.dpll d).hoCause :=
  State.advance_dpll (·.hoCause) (fun a b d => Dpll.pass_keep (·.hoCause) (fun _ _ _ => rfl) (fun _ _ _ _ _ _ _ => rfl) a b d) t s d
@[simp] theorem State.advance_dpll_forced (t : Nat) (s : State) (d : Fin 8) : ((s.advance t).dpll d).forced = (s.dpll d).forced :=
  State.advance_dpll (·.forced) (fun a b d => Dpll.pass_keep (·.forced) (fun _ _ _ => rfl) (fun _ _ _ _ _ _ _ => rfl) a b d) t s d
@[simp] theorem State.advance_dpll_c (t : Nat) (s : State) (d : Fin 8) : ((s.advance t).dpll d).c = (s.dpll d).c :=
  State.advance_dpll (·.c) (fun a b d => Dpll.pass_keep (·.c) (fun _ _ _ => rfl) (fun _ _ _ _ _ _ _ => rfl) a b d) t s d
@[simp] theorem State.advance_dpll_err (t : Nat) (s : State) (d : Fin 8) : ((s.advance t).dpll d).err = (s.dpll d).err :=
  State.advance_dpll (·.err) (fun a b d => Dpll.pass_keep (·.err) (fun _ _ _ => rfl) (fun _ _ _ _ _ _ _ => rfl) a b d) t s d
@[simp] theorem State.advance_dpll_lastErr (t : Nat) (s : State) (d : Fin 8) : ((s.advance t).dpll d).lastErr = (s.dpll d).lastErr :=
  State.advance_dpll (·.lastErr) (fun a b d => Dpll.pass_keep (·.lastErr) (fun _ _ _ => rfl) (fun _ _ _ _ _ _ _ => rfl) a b d) t s d
@[simp] theorem State.advance_dpll_errs (t : Nat) (s : State) (d : Fin 8) : ((s.advance t).dpll d).errs = (s.dpll d).errs :=
  State.advance_dpll (·.errs) (fun a b d => Dpll.pass_keep (·.errs) (fun _ _ _ => rfl) (fun _ _ _ _ _ _ _ => rfl) a b d) t s d
@[simp] theorem State.advance_dpll_lockFrom (t : Nat) (s : State) (d : Fin 8) : ((s.advance t).dpll d).lockFrom = (s.dpll d).lockFrom :=
  State.advance_dpll (·.lockFrom) (fun a b d => Dpll.pass_keep (·.lockFrom) (fun _ _ _ => rfl) (fun _ _ _ _ _ _ _ => rfl) a b d) t s d
@[simp] theorem State.advance_dpll_badRun (t : Nat) (s : State) (d : Fin 8) : ((s.advance t).dpll d).badRun = (s.dpll d).badRun :=
  State.advance_dpll (·.badRun) (fun a b d => Dpll.pass_keep (·.badRun) (fun _ _ _ => rfl) (fun _ _ _ _ _ _ _ => rfl) a b d) t s d
@[simp] theorem State.advance_dpll_pullLimited (t : Nat) (s : State) (d : Fin 8) : ((s.advance t).dpll d).pullLimited = (s.dpll d).pullLimited :=
  State.advance_dpll (·.pullLimited) (fun a b d => Dpll.pass_keep (·.pullLimited) (fun _ _ _ => rfl) (fun _ _ _ _ _ _ _ => rfl) a b d) t s d
@[simp] theorem State.advance_dpll_pullFrom (t : Nat) (s : State) (d : Fin 8) : ((s.advance t).dpll d).pullFrom = (s.dpll d).pullFrom :=
  State.advance_dpll (·.pullFrom) (fun a b d => Dpll.pass_keep (·.pullFrom) (fun _ _ _ => rfl) (fun _ _ _ _ _ _ _ => rfl) a b d) t s d
@[simp] theorem State.advance_dpll_hoAvg (t : Nat) (s : State) (d : Fin 8) : ((s.advance t).dpll d).hoAvg = (s.dpll d).hoAvg :=
  State.advance_dpll (·.hoAvg) (fun a b d => Dpll.pass_keep (·.hoAvg) (fun _ _ _ => rfl) (fun _ _ _ _ _ _ _ => rfl) a b d) t s d
@[simp] theorem State.advance_dpll_hoReg (t : Nat) (s : State) (d : Fin 8) : ((s.advance t).dpll d).hoReg = (s.dpll d).hoReg :=
  State.advance_dpll (·.hoReg) (fun a b d => Dpll.pass_keep (·.hoReg) (fun _ _ _ => rfl) (fun _ _ _ _ _ _ _ => rfl) a b d) t s d
@[simp] theorem State.advance_dpll_hoCentre (t : Nat) (s : State) (d : Fin 8) : ((s.advance t).dpll d).hoCentre = (s.dpll d).hoCentre :=
  State.advance_dpll (·.hoCentre) (fun a b d => Dpll.pass_keep (·.hoCentre) (fun _ _ _ => rfl) (fun _ _ _ _ _ _ _ => rfl) a b d) t s d
@[simp] theorem State.advance_dpll_hoTc (t : Nat) (s : State) (d : Fin 8) : ((s.advance t).dpll d).hoTc = (s.dpll d).hoTc :=
  State.advance_dpll (·.hoTc) (fun a b d => Dpll.pass_keep (·.hoTc) (fun _ _ _ => rfl) (fun _ _ _ _ _ _ _ => rfl) a b d) t s d
@[simp] theorem State.advance_dpll_hoUavg (t : Nat) (s : State) (d : Fin 8) : ((s.advance t).dpll d).hoUavg = (s.dpll d).hoUavg :=
  State.advance_dpll (·.hoUavg) (fun a b d => Dpll.pass_keep (·.hoUavg) (fun _ _ _ => rfl) (fun _ _ _ _ _ _ _ => rfl) a b d) t s d
@[simp] theorem State.advance_dpll_windowUsed (t : Nat) (s : State) (d : Fin 8) : ((s.advance t).dpll d).windowUsed = (s.dpll d).windowUsed :=
  State.advance_dpll (·.windowUsed) (fun a b d => Dpll.pass_keep (·.windowUsed) (fun _ _ _ => rfl) (fun _ _ _ _ _ _ _ => rfl) a b d) t s d
@[simp] theorem State.advance_dpll_hoShort (t : Nat) (s : State) (d : Fin 8) : ((s.advance t).dpll d).hoShort = (s.dpll d).hoShort :=
  State.advance_dpll (·.hoShort) (fun a b d => Dpll.pass_keep (·.hoShort) (fun _ _ _ => rfl) (fun _ _ _ _ _ _ _ => rfl) a b d) t s d
@[simp] theorem State.advance_dpll_regTerms (t : Nat) (s : State) (d : Fin 8) : ((s.advance t).dpll d).regTerms = (s.dpll d).regTerms :=
  State.advance_dpll (·.regTerms) (fun a b d => Dpll.pass_keep (·.regTerms) (fun _ _ _ => rfl) (fun _ _ _ _ _ _ _ => rfl) a b d) t s d
@[simp] theorem State.advance_dpll_terms (t : Nat) (s : State) (d : Fin 8) : ((s.advance t).dpll d).terms = (s.dpll d).terms :=
  State.advance_dpll (·.terms) (fun a b d => Dpll.pass_keep (·.terms) (fun _ _ _ => rfl) (fun _ _ _ _ _ _ _ => rfl) a b d) t s d
@[simp] theorem State.advance_dpll_hoOld (t : Nat) (s : State) (d : Fin 8) : ((s.advance t).dpll d).hoOld = (s.dpll d).hoOld :=
  State.advance_dpll (·.hoOld) (fun a b d => Dpll.pass_keep (·.hoOld) (fun _ _ _ => rfl) (fun _ _ _ _ _ _ _ => rfl) a b d) t s d
@[simp] theorem State.advance_dpll_hoAt (t : Nat) (s : State) (d : Fin 8) : ((s.advance t).dpll d).hoAt = (s.dpll d).hoAt :=
  State.advance_dpll (·.hoAt) (fun a b d => Dpll.pass_keep (·.hoAt) (fun _ _ _ => rfl) (fun _ _ _ _ _ _ _ => rfl) a b d) t s d
@[simp] theorem State.advance_dpll_hoEntry (t : Nat) (s : State) (d : Fin 8) : ((s.advance t).dpll d).hoEntry = (s.dpll d).hoEntry :=
  State.advance_dpll (·.hoEntry) (fun a b d => Dpll.pass_keep (·.hoEntry) (fun _ _ _ => rfl) (fun _ _ _ _ _ _ _ => rfl) a b d) t s d
@[simp] theorem State.advance_dpll_hoFrom (t : Nat) (s : State) (d : Fin 8) : ((s.advance t).dpll d).hoFrom = (s.dpll d).hoFrom :=
  State.advance_dpll (·.hoFrom) (fun a b d => Dpll.pass_keep (·.hoFrom) (fun _ _ _ => rfl) (fun _ _ _ _ _ _ _ => rfl) a b d) t s d
@[simp] theorem State.advance_dpll_te0 (t : Nat) (s : State) (d : Fin 8) : ((s.advance t).dpll d).te0 = (s.dpll d).te0 :=
  State.advance_dpll (·.te0) (fun a b d => Dpll.pass_keep (·.te0) (fun _ _ _ => rfl) (fun _ _ _ _ _ _ _ => rfl) a b d) t s d
@[simp] theorem State.advance_dpll_teValid (t : Nat) (s : State) (d : Fin 8) : ((s.advance t).dpll d).teValid = (s.dpll d).teValid :=
  State.advance_dpll (·.teValid) (fun a b d => Dpll.pass_keep (·.teValid) (fun _ _ _ => rfl) (fun _ _ _ _ _ _ _ => rfl) a b d) t s d
@[simp] theorem State.advance_dpll_hoTempInt (t : Nat) (s : State) (d : Fin 8) : ((s.advance t).dpll d).hoTempInt = (s.dpll d).hoTempInt :=
  State.advance_dpll (·.hoTempInt) (fun a b d => Dpll.pass_keep (·.hoTempInt) (fun _ _ _ => rfl) (fun _ _ _ _ _ _ _ => rfl) a b d) t s d
@[simp] theorem State.advance_dpll_hoCold (t : Nat) (s : State) (d : Fin 8) : ((s.advance t).dpll d).hoCold = (s.dpll d).hoCold :=
  State.advance_dpll (·.hoCold) (fun a b d => Dpll.pass_keep (·.hoCold) (fun _ _ _ => rfl) (fun _ _ _ _ _ _ _ => rfl) a b d) t s d
@[simp] theorem State.advance_dpll_hoModel (t : Nat) (s : State) (d : Fin 8) : ((s.advance t).dpll d).hoModel = (s.dpll d).hoModel :=
  State.advance_dpll (·.hoModel) (fun a b d => Dpll.pass_keep (·.hoModel) (fun _ _ _ => rfl) (fun _ _ _ _ _ _ _ => rfl) a b d) t s d
@[simp] theorem State.advance_dpll_overBudget (t : Nat) (s : State) (d : Fin 8) : ((s.advance t).dpll d).overBudget = (s.dpll d).overBudget :=
  State.advance_dpll (·.overBudget) (fun a b d => Dpll.pass_keep (·.overBudget) (fun _ _ _ => rfl) (fun _ _ _ _ _ _ _ => rfl) a b d) t s d
@[simp] theorem State.advance_dpll_teEst (t : Nat) (s : State) (d : Fin 8) : ((s.advance t).dpll d).teEst = (s.dpll d).teEst :=
  State.advance_dpll (·.teEst) (fun a b d => Dpll.pass_keep (·.teEst) (fun _ _ _ => rfl) (fun _ _ _ _ _ _ _ => rfl) a b d) t s d
@[simp] theorem State.advance_dpll_feEst (t : Nat) (s : State) (d : Fin 8) : ((s.advance t).dpll d).feEst = (s.dpll d).feEst :=
  State.advance_dpll (·.feEst) (fun a b d => Dpll.pass_keep (·.feEst) (fun _ _ _ => rfl) (fun _ _ _ _ _ _ _ => rfl) a b d) t s d
@[simp] theorem State.advance_dpll_stFrom (t : Nat) (s : State) (d : Fin 8) : ((s.advance t).dpll d).stFrom = (s.dpll d).stFrom :=
  State.advance_dpll (·.stFrom) (fun a b d => Dpll.pass_keep (·.stFrom) (fun _ _ _ => rfl) (fun _ _ _ _ _ _ _ => rfl) a b d) t s d
@[simp] theorem State.advance_dpll_since (t : Nat) (s : State) (d : Fin 8) : ((s.advance t).dpll d).since = (s.dpll d).since :=
  State.advance_dpll (·.since) (fun a b d => Dpll.pass_keep (·.since) (fun _ _ _ => rfl) (fun _ _ _ _ _ _ _ => rfl) a b d) t s d
@[simp] theorem State.advance_dpll_followed (t : Nat) (s : State) (d : Fin 8) : ((s.advance t).dpll d).followed = (s.dpll d).followed :=
  State.advance_dpll (·.followed) (fun a b d => Dpll.pass_keep (·.followed) (fun _ _ _ => rfl) (fun _ _ _ _ _ _ _ => rfl) a b d) t s d
@[simp] theorem State.advance_dpll_secE (t : Nat) (s : State) (d : Fin 8) : ((s.advance t).dpll d).secE = (s.dpll d).secE :=
  State.advance_dpll (·.secE) (fun a b d => Dpll.pass_keep (·.secE) (fun _ _ _ => rfl) (fun _ _ _ _ _ _ _ => rfl) a b d) t s d
@[simp] theorem State.advance_dpll_secEE (t : Nat) (s : State) (d : Fin 8) : ((s.advance t).dpll d).secEE = (s.dpll d).secEE :=
  State.advance_dpll (·.secEE) (fun a b d => Dpll.pass_keep (·.secEE) (fun _ _ _ => rfl) (fun _ _ _ _ _ _ _ => rfl) a b d) t s d
@[simp] theorem State.advance_dpll_secEMax (t : Nat) (s : State) (d : Fin 8) : ((s.advance t).dpll d).secEMax = (s.dpll d).secEMax :=
  State.advance_dpll (·.secEMax) (fun a b d => Dpll.pass_keep (·.secEMax) (fun _ _ _ => rfl) (fun _ _ _ _ _ _ _ => rfl) a b d) t s d
@[simp] theorem State.advance_dpll_secN (t : Nat) (s : State) (d : Fin 8) : ((s.advance t).dpll d).secN = (s.dpll d).secN :=
  State.advance_dpll (·.secN) (fun a b d => Dpll.pass_keep (·.secN) (fun _ _ _ => rfl) (fun _ _ _ _ _ _ _ => rfl) a b d) t s d
@[simp] theorem State.advance_dpll_followC (t : Nat) (s : State) (d : Fin 8) : ((s.advance t).dpll d).followC = (s.dpll d).followC :=
  State.advance_dpll (·.followC) (fun a b d => Dpll.pass_keep (·.followC) (fun _ _ _ => rfl) (fun _ _ _ _ _ _ _ => rfl) a b d) t s d

@[simp] theorem State.advance_time_valid (t : Nat) (s : State) : (s.advance t).time.valid = s.time.valid := by
  unfold State.advance; dsimp only; split
  · rfl
  · unfold State.steered; split <;> rfl
@[simp] theorem State.advance_time_invalid (t : Nat) (s : State) : (s.advance t).time.invalid = s.time.invalid := by
  unfold State.advance; dsimp only; split
  · rfl
  · unfold State.steered; split <;> rfl
@[simp] theorem State.advance_time_lastStep (t : Nat) (s : State) : (s.advance t).time.lastStep = s.time.lastStep := by
  unfold State.advance; dsimp only; split
  · rfl
  · unfold State.steered; split <;> rfl
@[simp] theorem State.advance_time_lastSec (t : Nat) (s : State) : (s.advance t).time.lastSec = s.time.lastSec := by
  unfold State.advance; dsimp only; split
  · rfl
  · unfold State.steered; split <;> rfl
@[simp] theorem State.advance_time_stepSeq (t : Nat) (s : State) : (s.advance t).time.stepSeq = s.time.stepSeq := by
  unfold State.advance; dsimp only; split
  · rfl
  · unfold State.steered; split <;> rfl
@[simp] theorem State.advance_time_stepSum (t : Nat) (s : State) : (s.advance t).time.stepSum = s.time.stepSum := by
  unfold State.advance; dsimp only; split
  · rfl
  · unfold State.steered; split <;> rfl
@[simp] theorem State.advance_time_stepK (t : Nat) (s : State) : (s.advance t).time.stepK = s.time.stepK := by
  unfold State.advance; dsimp only; split
  · rfl
  · unfold State.steered; split <;> rfl
@[simp] theorem State.advance_time_stepLast (t : Nat) (s : State) : (s.advance t).time.stepLast = s.time.stepLast := by
  unfold State.advance; dsimp only; split
  · rfl
  · unfold State.steered; split <;> rfl
@[simp] theorem State.advance_time_offset (t : Nat) (s : State) : (s.advance t).time.offset = s.time.offset := by
  unfold State.advance; dsimp only; split
  · rfl
  · unfold State.steered; split <;> rfl
@[simp] theorem State.advance_time_offSource (t : Nat) (s : State) : (s.advance t).time.offSource = s.time.offSource := by
  unfold State.advance; dsimp only; split
  · rfl
  · unfold State.steered; split <;> rfl
@[simp] theorem State.advance_time_confirmed (t : Nat) (s : State) : (s.advance t).time.confirmed = s.time.confirmed := by
  unfold State.advance; dsimp only; split
  · rfl
  · unfold State.steered; split <;> rfl
@[simp] theorem State.advance_time_event (t : Nat) (s : State) : (s.advance t).time.event = s.time.event := by
  unfold State.advance; dsimp only; split
  · rfl
  · unfold State.steered; split <;> rfl
@[simp] theorem State.advance_time_leap (t : Nat) (s : State) : (s.advance t).time.leap = s.time.leap := by
  unfold State.advance; dsimp only; split
  · rfl
  · unfold State.steered; split <;> rfl
@[simp] theorem State.advance_time_leap61 (t : Nat) (s : State) : (s.advance t).time.leap61 = s.time.leap61 := by
  unfold State.advance; dsimp only; split
  · rfl
  · unfold State.steered; split <;> rfl
@[simp] theorem State.advance_time_leap59 (t : Nat) (s : State) : (s.advance t).time.leap59 = s.time.leap59 := by
  unfold State.advance; dsimp only; split
  · rfl
  · unfold State.steered; split <;> rfl
@[simp] theorem State.advance_time_host (t : Nat) (s : State) : (s.advance t).time.host = s.time.host := by
  unfold State.advance; dsimp only; split
  · rfl
  · unfold State.steered; split <;> rfl
@[simp] theorem State.advance_time_hostOverride (t : Nat) (s : State) : (s.advance t).time.hostOverride = s.time.hostOverride := by
  unfold State.advance; dsimp only; split
  · rfl
  · unfold State.steered; split <;> rfl
@[simp] theorem State.advance_time_gnss (t : Nat) (s : State) : (s.advance t).time.gnss = s.time.gnss := by
  unfold State.advance; dsimp only; split
  · rfl
  · unfold State.steered; split <;> rfl
@[simp] theorem State.advance_time_partner (t : Nat) (s : State) : (s.advance t).time.partner = s.time.partner := by
  unfold State.advance; dsimp only; split
  · rfl
  · unfold State.steered; split <;> rfl
@[simp] theorem State.advance_time_recalled (t : Nat) (s : State) : (s.advance t).time.recalled = s.time.recalled := by
  unfold State.advance; dsimp only; split
  · rfl
  · unfold State.steered; split <;> rfl
@[simp] theorem State.advance_time_taken (t : Nat) (s : State) : (s.advance t).time.taken = s.time.taken := by
  unfold State.advance; dsimp only; split
  · rfl
  · unfold State.steered; split <;> rfl

/-- Kettle time never falls (log 1). -/
theorem State.advance_now (t : Nat) (s : State) : (s.advance t).now = max s.now t := by
  unfold State.advance
  dsimp only
  split
  · rfl
  · unfold State.steered
    split <;> rfl

@[simp] theorem State.commit_tag (s : State) (i : Fin 48) : s.commit.tag i = s.tag i := by simp [State.tag]
@[simp] theorem State.advance_tag (t : Nat) (s : State) (i : Fin 48) : (s.advance t).tag i = s.tag i := by simp [State.tag]
@[simp] theorem State.commit_lane (s : State) (i : Fin 48) : s.commit.lane i = s.lane i := by simp [State.lane]
@[simp] theorem State.advance_lane (t : Nat) (s : State) (i : Fin 48) : (s.advance t).lane i = s.lane i := by simp [State.lane]
@[simp] theorem State.commit_chan (s : State) (i : Fin 66) : s.commit.chan i = s.chan i := by simp [State.chan]
@[simp] theorem State.advance_chan (t : Nat) (s : State) (i : Fin 66) : (s.advance t).chan i = s.chan i := by simp [State.chan]
@[simp] theorem State.commit_ind (s : State) (i : Fin 4) : s.commit.ind i = s.ind i := by simp [State.ind]
@[simp] theorem State.advance_ind (t : Nat) (s : State) (i : Fin 4) : (s.advance t).ind i = s.ind i := by simp [State.ind]
@[simp] theorem State.commit_port (s : State) (i : Fin 2) : s.commit.port i = s.port i := by simp [State.port]
@[simp] theorem State.advance_port (t : Nat) (s : State) (i : Fin 2) : (s.advance t).port i = s.port i := by simp [State.port]

end Sys2Proof.Machine
end

