-- ==== Sys2Proof/Laws/Mailbox.lean ====
section
/-!
SUPPORT. What a mailbox command's turn can do (`runCmd`), and what holding a response does to its tag and to the others.
-/

namespace Sys2Proof.Machine

theorem State.tag_tagMod_same (s : State) (i : Fin 48) (f : Tag → Tag) : (s.tagMod i f).tag i = f (s.tag i) :=
  vget_vmod_same s.mb.tags i f

theorem State.tag_tagMod_ne (s : State) (i j : Fin 48) (f : Tag → Tag) (h : i ≠ j) : (s.tagMod i f).tag j = s.tag j :=
  vget_vmod_ne s.mb.tags i j f h

/-- The held response of a tag (R98). -/
theorem State.tag_hold_same (s : State) (i : Fin 48) (st : BitVec 7) (g : Bool) (l : List Word) :
    (s.hold i st g l).tag i =
      { s.tag i with st := .held, deferred := false, status := st, staged := g, reads := 0, data := l, note := 0 } :=
  s.tag_tagMod_same i _

/-- Holding a response touches no other tag. -/
theorem State.tag_hold_ne (s : State) (i j : Fin 48) (st : BitVec 7) (g : Bool) (l : List Word) (h : i ≠ j) :
    (s.hold i st g l).tag j = s.tag j := s.tag_tagMod_ne i j _ h

variable {c : Cmd} {i : Fin 48} {ch : Bool → Args → State → Checks}
  {body : Fin 48 → Args → State → State × Reply} {s s' : State}

/-- A command that is not in its immediate part does nothing. -/
theorem runCmd_idle (h : s.runs i c = false) : runCmd c i ch body s = done s := by
  simp [runCmd, h]

/-- The first check that fails decides the response (R92). -/
theorem runCmd_fails {f : Fail} (h : s.runs i c = true) (hf : firstFail (ch (s.tag i).priv (s.tag i).args s) = some f) :
    runCmd c i ch body s = done (s.holdFail i f) := by
  simp [runCmd, h, hf]

/-- A staged command's words enter the shadow buffer and its response is OK (R96). -/
theorem runCmd_stages (h : s.runs i c = true) (hf : firstFail (ch (s.tag i).priv (s.tag i).args s) = none)
    (hs : hdrStaged (s.tag i).hdr = true) :
    runCmd c i ch body s =
      done ((s.onMb fun m => { m with shadow := shadowPut m.shadow (c.cover (s.tag i).args) { cmd := c, args := (s.tag i).args } }).hold i stOk true []) := by
  simp [runCmd, h, hf, hs]

/-- An unstaged command whose body answers OK (R94, R98). -/
theorem runCmd_ok {d : List Word} (h : s.runs i c = true) (hf : firstFail (ch (s.tag i).priv (s.tag i).args s) = none)
    (hs : hdrStaged (s.tag i).hdr = false) (hb : body i (s.tag i).args s = (s', .ok d)) :
    runCmd c i ch body s = done (s'.holdOk i d) := by
  simp [runCmd, h, hf, hs, hb]

/-- An unstaged command whose body answers an error. -/
theorem runCmd_error {f : Fail} (h : s.runs i c = true) (hf : firstFail (ch (s.tag i).priv (s.tag i).args s) = none)
    (hs : hdrStaged (s.tag i).hdr = false) (hb : body i (s.tag i).args s = (s', .fail f)) :
    runCmd c i ch body s = done (s'.holdFail i f) := by
  simp [runCmd, h, hf, hs, hb]

/-- An unstaged command that goes on in its deferred part (R94). -/
theorem runCmd_defers (h : s.runs i c = true) (hf : firstFail (ch (s.tag i).priv (s.tag i).args s) = none)
    (hs : hdrStaged (s.tag i).hdr = false) (hb : body i (s.tag i).args s = (s', .deferred)) :
    runCmd c i ch body s = done (if (s'.tag i).st = .running then s'.defer i else s') := by
  simp [runCmd, h, hf, hs, hb]

/-- An unstaged command that waits for its unit stays RUNNING and is taken up again (R94). -/
theorem runCmd_waits (h : s.runs i c = true) (hf : firstFail (ch (s.tag i).priv (s.tag i).args s) = none)
    (hs : hdrStaged (s.tag i).hdr = false) (hb : body i (s.tag i).args s = (s', .wait)) :
    runCmd c i ch body s = done (s'.tagMod i fun t => { t with note := 1, busy := s'.now }) := by
  simp [runCmd, h, hf, hs, hb]

end Sys2Proof.Machine
end

