-- ==== Sys2Proof/Laws/Mem.lean ====
section
/-!
SUPPORT. The byte memories (NVS, SRAM) and the file of counters: every operation keeps the canonical form; a read after
a write to the same place gives the value written, and every other place reads as before.
-/

namespace Sys2Proof.Machine

/-- The bound below which nothing is listed may be weakened. -/
theorem memAbove_weaken (l : Nat) : ∀ (m : List Host.Cell), memAbove (some l) m = true → memAbove none m = true
  | [], _ => rfl
  | (k, b) :: r, h => by
    simp only [memAbove, Bool.and_eq_true] at h ⊢
    exact ⟨⟨trivial, h.1.2⟩, h.2⟩

theorem memAbove_mono (l l' : Nat) (hl : l' ≤ l) : ∀ (m : List Host.Cell), memAbove (some l) m = true → memAbove (some l') m = true
  | [], _ => rfl
  | (k, b) :: r, h => by
    simp only [memAbove, Bool.and_eq_true, decide_eq_true_eq] at h ⊢
    exact ⟨⟨by omega, h.1.2⟩, h.2⟩

theorem memSet_above (a : Nat) (b : BitVec 8) : ∀ (m : List Host.Cell) (l : Nat), l < a → memAbove (some l) m = true →
    memAbove (some l) (memSet m a b) = true
  | [], l, hl, _ => by
    unfold memSet
    split
    · rfl
    · simp_all [memAbove]
  | (k, c) :: r, l, hl, h => by
    simp only [memAbove, Bool.and_eq_true, decide_eq_true_eq] at h
    unfold memSet
    split
    · subst_vars
      split
      · exact memAbove_mono _ _ (by omega) _ h.2
      · simp_all [memAbove]
    · split
      · split
        · simp_all [memAbove]
        · simp_all [memAbove]
      · simp only [memAbove, Bool.and_eq_true, decide_eq_true_eq]
        exact ⟨h.1, memSet_above a b r k (by omega) h.2⟩

/-- Writing a byte keeps the canonical form. -/
theorem memSet_wf (m : List Host.Cell) (a : Nat) (b : BitVec 8) (h : Mem.wf m = true) : Mem.wf (memSet m a b) = true := by
  cases m with
  | nil =>
    unfold memSet
    split
    · rfl
    · simp_all [Mem.wf, memAbove]
  | cons p r =>
    obtain ⟨k, c⟩ := p
    simp only [Mem.wf, memAbove, Bool.and_eq_true, decide_eq_true_eq] at h ⊢
    unfold memSet
    split
    · subst_vars
      split
      · exact memAbove_weaken _ _ h.2
      · simp_all [memAbove]
    · split
      · split
        · simp_all [memAbove]
        · simp_all [memAbove]
      · simp only [memAbove, Bool.and_eq_true, decide_eq_true_eq]
        exact ⟨h.1, memSet_above a b r k (by omega) h.2⟩

/-- Writing consecutive bytes keeps the canonical form. -/
theorem memPuts_wf : ∀ (l : List (BitVec 8)) (m : List Host.Cell) (a : Nat), Mem.wf m = true → Mem.wf (memPuts m a l) = true
  | [], _, _, h => h
  | _ :: r, m, a, h => memPuts_wf r _ _ (memSet_wf m a _ h)

/-- Writing a word keeps the canonical form. -/
theorem memPutWord_wf (m : List Host.Cell) (a : Nat) (w : Word) (h : Mem.wf m = true) : Mem.wf (memPutWord m a w) = true :=
  memPuts_wf _ m _ h

/-- Page operations keep the canonical form. -/
theorem memApply_wf : ∀ (l : List (Nat × BitVec 8)) (m : List Host.Cell), Mem.wf m = true → Mem.wf (memApply m l) = true
  | [], _, h => h
  | (_, _) :: r, m, h => memApply_wf r _ (memSet_wf m _ _ h)

theorem memGet_above (a : Nat) : ∀ (m : List Host.Cell) (l : Nat), a ≤ l → memAbove (some l) m = true → memGet m a = 0
  | [], _, _, _ => rfl
  | (k, b) :: r, l, hl, h => by
    simp only [memAbove, Bool.and_eq_true, decide_eq_true_eq] at h
    unfold memGet
    rw [if_neg (by omega), if_pos (by omega)]

/-- A byte written reads back; every other byte reads as before. -/
theorem memGet_memSet_above (a : Nat) (b : BitVec 8) (x : Nat) :
    ∀ (m : List Host.Cell) (lo : Option Nat), memAbove lo m = true →
      memGet (memSet m a b) x = if x = a then b else memGet m x
  | [], _, _ => by
    unfold memSet
    split
    · by_cases hx : x = a <;> simp_all [memGet]
    · by_cases hx : x = a
      · simp [memGet, hx]
      · simp only [memGet, if_neg (Ne.symm hx), if_neg hx]; split <;> rfl
  | (k, c) :: r, lo, h => by
    simp only [memAbove, Bool.and_eq_true, decide_eq_true_eq] at h
    unfold memSet
    by_cases hk : k = a
    · rw [if_pos hk]
      by_cases hb : b = 0
      · rw [if_pos hb]
        by_cases hx : x = a
        · rw [if_pos hx, hb]; exact memGet_above x r k (by omega) h.2
        · rw [if_neg hx]
          conv => rhs; unfold memGet
          rw [if_neg (by omega)]
          split
          · exact memGet_above x r k (by omega) h.2
          · rfl
      · rw [if_neg hb]
        by_cases hx : x = a
        · simp [memGet, hx]
        · simp only [memGet, hk, if_neg (Ne.symm hx), if_neg hx]
    · rw [if_neg hk]
      by_cases hlt : a < k
      · rw [if_pos hlt]
        by_cases hb : b = 0
        · rw [if_pos hb]
          by_cases hx : x = a
          · rw [if_pos hx, hb]; simp only [memGet]; rw [if_neg (by omega), if_pos (by omega)]
          · rw [if_neg hx]
        · rw [if_neg hb]
          by_cases hx : x = a
          · simp [memGet, hx]
          · rw [if_neg hx]
            conv => lhs; unfold memGet
            rw [if_neg (Ne.symm hx)]
            by_cases h3 : x < a
            · rw [if_pos h3]; simp only [memGet]; rw [if_neg (by omega), if_pos (by omega)]
            · rw [if_neg h3]
      · rw [if_neg hlt]
        conv => lhs; unfold memGet
        conv => rhs; rw [show memGet ((k, c) :: r) x = if k = x then c else if x < k then 0 else memGet r x from rfl]
        by_cases hx : k = x
        · rw [if_pos hx, if_pos hx, if_neg (by omega)]
        · rw [if_neg hx, if_neg hx]
          by_cases h4 : x < k
          · rw [if_pos h4, if_pos h4, if_neg (by omega)]
          · rw [if_neg h4, if_neg h4]; exact memGet_memSet_above a b x r _ h.2

/-- Read after write on a memory in canonical form. -/
theorem memGet_memSet (m : List Host.Cell) (a x : Nat) (b : BitVec 8) (h : Mem.wf m = true) :
    memGet (memSet m a b) x = if x = a then b else memGet m x := memGet_memSet_above a b x m none h

/-- A counter reads what was last set, and setting it leaves every other counter alone. -/
theorem cntGet_cntPut (i v m : Nat) : ∀ l : List (Nat × Nat), cntGet (cntPut l i v) m = if m = i then v else cntGet l m
  | [] => by
    by_cases h : m = i
    · simp [cntPut, cntGet, h]
    · simp [cntPut, cntGet, h, Ne.symm h]
  | (k, n) :: r => by
    have ih := cntGet_cntPut i v m r
    unfold cntPut
    by_cases hk : k = i
    · subst hk; by_cases h : m = k
      · simp [cntGet, h]
      · simp [cntGet, h, Ne.symm h]
    · by_cases hl : i < k
      · simp only [hk, hl, if_true, if_false, cntGet]; by_cases h : m = i
        · simp [h]
        · simp [h, Ne.symm h]
      · simp only [hk, hl, if_false, cntGet, ih]; by_cases h : m = i
        · subst h; simp [hk]
        · simp [h]

theorem cntGet_drop (i m : Nat) : ∀ l : List (Nat × Nat),
    cntGet (l.filter fun p => decide (p.1 ≠ i)) m = if m = i then 0 else cntGet l m
  | [] => by simp [cntGet]
  | (k, n) :: r => by
    have ih := cntGet_drop i m r
    by_cases hk : k = i
    · subst hk; by_cases h : m = k
      · simp_all [cntGet]
      · simp_all [cntGet, Ne.symm h]
    · by_cases h : m = i
      · subst h; simp_all [cntGet]
      · simp_all [cntGet]

theorem cntGet_cntSet (l : List (Nat × Nat)) (i v m : Nat) :
    cntGet (cntSet l i v) m = if m = i then v else cntGet l m := by
  unfold cntSet; split
  · rename_i h; rw [cntGet_drop, h]
  · exact cntGet_cntPut i v m l

end Sys2Proof.Machine
end

