-- ==== Sys2Proof/Machine/Package.lean ====
section
/-!
DEFINITION. The land pattern of the package: the names of the lands, the pins and the supplies on them (R560 to R562).
-/

namespace Sys2Proof.Machine

/-- Lands of a side of the array (R560). -/
def landsPerSide : Nat := 39

/-- The letters of a row name, in order (R561). -/
def rowLetters : List String :=
  ["A", "B", "C", "D", "E", "F", "G", "H", "J", "K", "L", "M", "N", "P", "T", "U", "V", "W", "Y"]

/-- The name of the row with index `h`, 1 to 39 (R561). -/
def rowName (h : Nat) : String :=
  if h ≤ 19 then rowLetters.getD (h - 1) "" else if h ≤ 38 then "A" ++ rowLetters.getD (h - 20) "" else "BA"

/-- The row index of a name (R561). -/
def rowIndex (name : String) : Option Nat := ((List.range landsPerSide).map (· + 1)).find? fun h => rowName h = name

/-- The host and control pins in the order of their lands (R562). -/
inductive CtlPin where
  | sck | sdi | sdo | csaN | cspN | scl | sda | i2cAddr | chimeN | gongN | resetN | wpN | syncIn
deriving DecidableEq, Repr

/-- The pair pins in the order of their lands (R562). -/
inductive PairPin where
  | txP | txN | rxP | rxN | hbOut | hbIn | ilkOut | ilkIn | slotB
deriving DecidableEq, Repr

/-- The signal pins of the module (R562). -/
inductive Pin where
  | link (n : Fin 48) (rx neg : Bool)
  | ckout (n : Fin 24) (neg : Bool)
  | pulse (n : Fin 16)
  | refin (n : Fin 16) (neg : Bool)
  | ctl (p : CtlPin)
  | pair (p : PairPin)
  | antBias
  | antIn
deriving DecidableEq, Repr

/-- The column of a host or control pin, all in row AY (R562). -/
def CtlPin.column : CtlPin → Nat
  | .sck => 27 | .sdi => 28 | .sdo => 29 | .csaN => 30 | .cspN => 31 | .scl => 32 | .sda => 33 | .i2cAddr => 34 | .chimeN => 35
  | .gongN => 36 | .resetN => 37 | .wpN => 38 | .syncIn => 39

/-- The column of a pair pin, all in row BA (R562). -/
def PairPin.column : PairPin → Nat
  | .txP => 27 | .txN => 28 | .rxP => 30 | .rxN => 31 | .hbOut => 32 | .hbIn => 33 | .ilkOut => 34 | .ilkIn => 35 | .slotB => 36

/-- The column of a lane's TX_P land; TX_N, RX_P and RX_N follow toward the middle, a column apart and one left free
(R562). -/
def laneColumn (n : Nat) (rx neg : Bool) : Nat :=
  let step := neg.toNat + 3 * rx.toNat
  if n < 12 then 2 + step else if n < 24 then 8 + step else if n < 36 then 38 - step else 32 - step

/-- Row index and column of a pin's land (R562). -/
def Pin.land : Pin → Nat × Nat
  | .link n rx neg => (3 * (n.val % 12) + 3, laneColumn n.val rx neg)
  | .ckout n neg => (if n.val < 12 then 1 else 2, 3 * (n.val % 12) + 3 + neg.toNat)
  | .pulse n => (37, 2 * n.val + 4)
  | .refin n neg => (if n.val < 8 then 39 else 38, 3 * (n.val % 8) + 3 + neg.toNat)
  | .ctl p => (38, p.column)
  | .pair p => (39, p.column)
  | .antBias => (39, 37)
  | .antIn => (39, 39)

/-- The supply rail on a land (R562). -/
def railAt (row col : Nat) : Option Rail :=
  if 5 ≤ row ∧ row ≤ 16 ∧ 15 ≤ col ∧ col ≤ 24 then some .vddCore
  else if 17 ≤ row ∧ row ≤ 28 ∧ 15 ≤ col ∧ col ≤ 22 then some .vddSer
  else if 17 ≤ row ∧ row ≤ 20 ∧ 23 ≤ col ∧ col ≤ 25 then some .vddOven
  else if 29 ≤ row ∧ row ≤ 33 ∧ 15 ≤ col ∧ col ≤ 22 then some .vdd18
  else if 29 ≤ row ∧ row ≤ 32 ∧ 23 ≤ col ∧ col ≤ 26 then some .vdd33
  else none

/-- A land reserved for test, to be left unconnected (R562). -/
def testLand (row col : Nat) : Bool :=
  (row ≤ 2 && (col ≤ 2 || 38 ≤ col)) || (row = 37 && 36 ≤ col)

/-- Lands of a supply rail (R562). -/
def railLands (r : Rail) : Nat :=
  ((List.range landsPerSide).map fun i => ((List.range landsPerSide).filter fun j => railAt (i + 1) (j + 1) = some r).length).sum

/-- A rail's brown-out threshold in mV; VDD_OVEN has none (R544, R546). -/
def brownOutMv : Rail → Option Nat
  | .vddCore => some 720
  | .vddSer => some 850
  | .vdd18 => some 1620
  | .vdd33 => some 3000
  | .vddOven => none

/-- A rail's operating range in mV (R544). -/
def railRangeMv : Rail → Nat × Nat
  | .vddCore => (745, 780)
  | .vddSer => (873, 927)
  | .vdd18 => (1710, 1890)
  | .vdd33 => (3135, 3465)
  | .vddOven => (10800, 13200)

end Sys2Proof.Machine
end

