-- ==== Sys2Proof/WellFormed.lean ====
section
/-!
DEFINITION. Which commands are well formed: the bounds the spec puts on what arrives from outside, where the type of an
operand does not say them. A command that is not well formed cannot come from the hardware; its meaning is total all the
same.
-/

namespace Sys2Proof

open Machine

/-- Record IDs of the NVS (R480). -/
def recordId (id : Nat) : Bool :=
  [0x0010, 0x0011, 0x0020, 0x0030, 0x0040, 0x0050, 0x0060].contains id || (decide (0x8000 ≤ id) && decide (id ≤ 0x8000 + 486))

/-- The fields of a PTP header fit their widths (R354). -/
def Machine.MsgHdr.wf (h : MsgHdr) : Bool :=
  decide (h.seq < 2 ^ 16) && decide (h.domain < 256) && decide (h.id < 2 ^ 64) && decide (h.port < 2 ^ 16) &&
  (match h.vlan with | some v => decide (v < 4096) | none => true) &&
  (match h.logInt with | some v => decide (-128 ≤ v) && decide (v < 127) | none => true)

/-- The fields of an Announce fit their widths (R350). -/
def Machine.AnnData.wf (a : AnnData) : Bool :=
  decide (a.prio1 < 256) && decide (a.cls < 256) && decide (a.acc < 256) && decide (a.var < 2 ^ 16) && decide (a.prio2 < 256) &&
  decide (a.gm < 2 ^ 64) && decide (a.steps < 2 ^ 16) && decide (a.src < 256) && decide (a.flags < 64)

/-- A command is well formed. -/
def Instr.wf : Instr → Bool
  | .spiStatusFrame _ _ => true
  | .badOp _ op => !([0x02, 0x0B, 0x05] : List (BitVec 8)).contains op
  | .csConflict _ => true
  | .shortFrame _ _ _ => true
  | .shortTransaction _ _ _ _ => true
  | .mbCmdWindow _ _ _ _ => true
  | .mbPost _ _ _ _ => true
  | .mbRespTag _ _ _ => true
  | .mbRespHdr _ _ => true
  | .mbRespData _ _ => true
  | .mbRespAck _ _ _ => true
  | .wvSel _ _ _ => true
  | .wvCaptureDone _ _ => true
  | .updStrobeGo _ _ _ => true
  | .strobeApply _ => true
  | .indAddressWrite _ _ _ _ _ => true
  | .indDataRead _ _ _ _ _ => true
  | .indDataWrite _ _ _ _ _ => true
  | .indPrefetch _ _ _ => true
  | .fltCountWrite _ _ _ _ => true
  | .softReset _ _ _ => true
  | .fwCtlNext _ _ _ _ => true
  | .fwCtlFallback _ _ _ _ => true
  | .keySlotErase _ _ _ _ => true
  | .testEnter _ _ _ => true
  | .testLeave _ _ _ => true
  | .registerWrite _ _ _ _ _ => true
  | .commandAcceptance _ _ => true
  | .commandDispatch _ _ => true
  | .sysIdentify _ _ => true
  | .sysStatus _ _ => true
  | .sysApply _ _ => true
  | .sysResetBlock _ _ => true
  | .sysFwStage _ _ => true
  | .sysFwCommit _ _ _ => true
  | .sysAbort _ _ => true
  | .timeGet _ _ => true
  | .timeSet _ _ => true
  | .timeLeap _ _ => true
  | .timeAlignQuery _ _ => true
  | .measConfigCh _ _ => true
  | .measArm _ _ => true
  | .measRead _ _ => true
  | .measInterval _ _ => true
  | .measFreq _ _ => true
  | .measCalStatus _ _ => true
  | .refConfig _ _ => true
  | .refLimits _ _ => true
  | .refStatus _ _ => true
  | .refSelect _ _ => true
  | .refPriority _ _ => true
  | .refWtr _ _ => true
  | .loopConfig _ _ => true
  | .loopBwSchedule _ _ => true
  | .loopStatus _ _ => true
  | .loopHoldoverConfig _ _ => true
  | .loopForceHoldover _ _ => true
  | .synConfig _ _ => true
  | .synRampLoad _ _ => true
  | .synRampRun _ _ => true
  | .synBandTable _ _ => true
  | .synRootStatus _ _ => true
  | .outConfig _ _ => true
  | .outPulseConfig _ _ => true
  | .outRealign _ _ => true
  | .outSlew _ _ => true
  | .outSyncArm _ _ => true
  | .outStatus _ _ => true
  | .ptpPortConfig _ _ => true
  | .ptpProfile _ _ => true
  | .ptpPortStatus _ _ => true
  | .ptpClientTable _ _ => true
  | .ptpSecurity _ _ => true
  | .ptpFrameTx _ _ => true
  | .ptpFrameRx _ _ => true
  | .ptpSynceConfig _ _ => true
  | .gnssConfig _ _ => true
  | .gnssStatus _ _ => true
  | .gnssPosition _ _ => true
  | .gnssCableDelay _ _ => true
  | .gnssSnapshot _ _ => true
  | .gnssSurvey _ _ => true
  | .pairConfig _ _ => true
  | .pairStatus _ _ => true
  | .pairHandover _ _ => true
  | .fltRead _ _ => true
  | .fltInject _ _ _ => true
  | .fltReaction _ _ => true
  | .fltClear _ _ => true
  | .nvsRecordRead _ _ => true
  | .nvsRecordWrite _ _ => true
  | .nvsStatus _ _ => true
  | .arcQuery _ _ => true
  | .arcLogRead _ _ => true
  | .ageStatus _ _ => true
  | .ageMarginPlan _ _ => true
  | .agePolicy _ _ => true
  | .telSnapshot _ _ => true
  | .powerOn _ _ _ _ => true
  | .resetN _ _ => true
  | .brownOut _ _ _ _ _ => true
  | .nvsRecallDone _ => true
  | .firmwareLoaded _ _ _ => true
  | .processorRestartDone _ => true
  | .resetAfter _ => true
  | .fwStagedCheck _ _ => true
  | .wpNAssert _ _ => true
  | .wpNDeassert _ => true
  | .nvsWriteDone _ id _ _ => recordId id
  | .metronomeSecond _ => true
  | .leapFlagSet _ => true
  | .leapEvent _ => true
  | .kettleLoss _ => true
  | .rootLoss _ _ => true
  | .rootRelock _ counts _ => decide (counts.length = 32)
  | .rootRelockRetry _ => true
  | .domainBandFillDone _ _ table => decide (table.length = 128) && table.all fun b => decide (b.1 ≤ b.2)
  | .domainLock _ _ => true
  | .domainRelock _ _ => true
  | .domainRetuneDone _ _ => true
  | .bandCheck _ _ _ _ => true
  | .outputHoldEnd _ _ => true
  | .referenceEdge _ _ e => decide (e.bin < 768) && decide (e.kind ≤ 4)
  | .stampRelease _ _ => true
  | .lineSwap _ _ _ _ => true
  | .binTableComplete _ _ _ hits => decide (hits.length = 768)
  | .periodPairRetry _ _ _ _ => true
  | .channelReady _ _ _ _ _ _ _ => true
  | .comparatorSettled _ _ => true
  | .videoSyncMissing _ _ => true
  | .captureDurationEnd _ _ => true
  | .intervalStartTimeout _ _ => true
  | .intervalWindowClose _ _ => true
  | .freqGateEnd _ _ => true
  | .kettleSensor _ _ => true
  | .kettleWarmSet _ => true
  | .kettleOven _ => true
  | .vddOvenFall _ => true
  | .activityLoss _ _ => true
  | .freqWindowEnd _ _ => true
  | .wtrEnd _ _ => true
  | .phaseDiscClear _ _ => true
  | .phaseHistoryDiscard _ _ => true
  | .evaluation _ _ => true
  | .measureEnd _ _ => true
  | .handoverEnd _ _ => true
  | .settleTimeout _ _ => true
  | .steeringEnd _ _ => true
  | .pullLimitedTimeout _ _ => true
  | .scheduleStepEnd _ _ => true
  | .rampSegmentEnd _ _ => true
  | .slewEnd _ _ => true
  | .syncInEdge _ _ waits => decide (waits.length = 8)
  | .syncArmTimeout _ => true
  | .laneMeasuringEnd _ _ _ _ => true
  | .blockLockGained _ _ => true
  | .blockLockLost _ _ => true
  | .rxSync _ _ h _ _ => h.wf
  | .rxFollowUp _ _ h _ => h.wf
  | .rxDelayReq _ _ h => h.wf
  | .rxDelayResp _ _ h _ _ _ => h.wf
  | .rxAnnounce _ _ h a => h.wf && a.wf
  | .rxPdelayReq _ _ h => h.wf
  | .rxPdelayResp _ _ h _ _ _ _ => h.wf
  | .rxPdelayRespFollowUp _ _ h _ _ _ => h.wf
  | .rxRequestUnicast _ _ h _ log duration => h.wf && decide (-128 ≤ log) && decide (log ≤ 127) && decide (duration < 2 ^ 32)
  | .rxCancelUnicast _ _ h _ => h.wf
  | .rxAcknowledgeCancel _ _ h _ => h.wf
  | .rxManagement _ _ h _ => h.wf
  | .rxEsmc _ _ _ _ => true
  | .rxArpNdp _ _ _ _ _ _ => true
  | .rxIgmpMld _ _ _ _ => true
  | .rxOtherFrame _ _ => true
  | .syncTx _ _ _ => true
  | .announceTx _ _ _ => true
  | .delayReqTx _ _ => true
  | .pdelayReqTx _ _ => true
  | .grantExpiry _ _ _ => true
  | .grantRenewal _ _ _ _ => true
  | .grantDenialRetry _ _ _ _ => true
  | .announceReceiptTimeout _ _ => true
  | .timeActivityTimeout _ _ => true
  | .foreignMasterAgeout _ _ id port => decide (id < 2 ^ 64) && decide (port < 2 ^ 16)
  | .esmcTimeout _ _ => true
  | .esmcInfoTx _ _ => true
  | .hostFrameSend _ _ => true
  | .laneDelay _ _ _ => true
  | .serdesAdapt _ _ _ => true
  | .gnssMark _ m => decide (m.leap.natAbs ≤ 1)
  | .spoofAlarmClear _ => true
  | .receiverStartDone _ _ => true
  | .satellitesLost _ => true
  | .acquisitionFound _ _ _ => true
  | .antOpen _ _ => true
  | .antShort _ => true
  | .antShortOff _ => true
  | .antShortRetry _ _ => true
  | .antNormal _ _ => true
  | .surveyEnd _ => true
  | .snapshotCaptureEnd _ _ => true
  | .snapshotProcessEnd _ _ => true
  | .gnssFrontEnd _ => true
  | .heartbeatTx _ => true
  | .heartbeatRx _ f => decide (f.seq < 2 ^ 32) && decide (f.role < 8) && decide (f.mstate < 8)
  | .hbInEdge _ => true
  | .partnerLoss _ => true
  | .pathFault _ => true
  | .pathFaultClear _ => true
  | .pairContest _ => true
  | .ilkInDeassert _ => true
  | .claimSecondSample _ => true
  | .releaseDetect _ => true
  | .initWait _ => true
  | .pairIlk _ => true
  | .snapshotTx _ => true
  | .snapshotChunkRx _ seq idx count _ => decide (idx.val < count) && decide (count ≤ 16) && decide (seq < 2 ^ 32)
  | .snapshotCommitRx _ seq count _ _ => decide (count ≤ 16) && decide (seq < 2 ^ 32)
  | .handoverInstant _ => true
  | .hoAcceptTimeout _ => true
  | .outputHandoff _ _ => true
  | .clapperStuck _ => true
  | .faultReport _ r => decide (r.source < 1024) && decide (r.code < 256)
  | .reportPath _ _ _ _ => true
  | .blockResetDone _ _ => true
  | .resetShadowEnd _ _ => true
  | .sramScrub _ addr _ => decide (addr < 0x40000)
  | .dramScrub _ addr _ => decide (addr < 0x1000000)
  | .rollup _ _ => true
  | .nvsMargin _ _ _ _ => true
  | .nvsRefresh _ _ => true
  | .wear _ => true
  | .roMeasure _ _ _ _ => true
  | .vcoreRamp _ => true
  | .telemetry _ _ => true
  | .ageUpdate _ _ => true
  | .refusedRead _ _ _ _ _ => true
  | .resetNRelease _ _ _ => true
  | .vddOvenReturn _ => true
  | .ilkInAssert _ => true
  | .rxGrantUnicast _ _ h _ log duration => h.wf && decide (-128 ≤ log) && decide (log ≤ 127) && decide (duration < 2 ^ 32)
  | .metadataTlvTx _ _ => true
  | .signalLoss _ _ => true
  | .activityConditionHeld _ _ => true
  | .partnerLaneMeasured _ _ _ => true
  | .firmwareSlotWritten _ _ _ => true
  | .taskLate _ _ => true
  | .pulseEdge _ _ _ => true

end Sys2Proof
end

