-- ==== Sys2Proof/Tests/Slice0.lean ====
section
/-!
SUPPORT. The model's own tests: the well-formedness checks refuse what they should, the spec's worked examples come out as
the spec prints them, and every statement's hypotheses are met by a concrete state (one witness per clause).
-/

open Sys2Proof

set_option maxRecDepth 20000

namespace Sys2Proof.Machine

set_option linter.unusedVariables false

/-! ### Helpers -/

/-- The state a next state holds. -/
def res (r : Host.Outcome State Fault Refusal) : State := match r with | .next u => u | _ => State.reset

/-- The module out of reset, its registers open, its firmware ready and its root locked. -/
def live : State :=
  ((State.reset.onHif fun h => { h with inRecall := false, fwReady := true }).onSys fun x => { x with inReset := false, powered := true }).onRoot
    fun x => { x with onRing := false }

/-- `s` with the command `c` in its immediate part under tag `i`, from a privileged frame. -/
def withCmd (s : State) (i : Fin 48) (c : Cmd) (staged : Bool) (a : List Word) : State :=
  s.tagMod i fun _ =>
    { Tag.init with st := .running, priv := true, win := wd (c.info.op * 65536 + i.val * 1024 + staged.toNat * 512 + a.length) :: a }

/-- `s` with the message engine on and lane 3 up as a port; `heard s h` is what `s` is once that port took the message `h`. -/
def porting (s : State) : State :=
  (s.onPtp fun p => { p with en := true, clockId := 9 }).laneMod 3 fun x => { x with lstate := .up, role := 1, bucket := 50 }

def heard (s : State) (h : MsgHdr) : State := ((s.advance 0).receive 3 h).1

/-! ### Well-formedness: each check refuses an ill-formed term and takes a well-formed one -/

theorem test_wf_frames :
    Instr.wf (.badOp 0 0x02) = false ∧ Instr.wf (.badOp 0 0x0B) = false ∧ Instr.wf (.badOp 0 0x05) = false ∧ Instr.wf (.badOp 0 0x03) = true := by
  decide

theorem test_wf_records :
    Instr.wf (.nvsWriteDone 0 0x0012 true true) = false ∧ Instr.wf (.nvsWriteDone 0 0x81E7 true true) = false ∧
    Instr.wf (.nvsWriteDone 0 0x81E6 true true) = true ∧ Instr.wf (.sramScrub 0 0x40000 .clean) = false ∧
    Instr.wf (.dramScrub 0 0x1000000 .clean) = false ∧ Instr.wf (.faultReport 0 { source := 1024 }) = false ∧
    Instr.wf (.faultReport 0 { code := 256 }) = false := by decide

theorem test_wf_measurement :
    Instr.wf (.domainBandFillDone 0 1 [(2, 1)]) = false ∧ Instr.wf (.domainBandFillDone 0 1 (List.replicate 128 (2, 1))) = false ∧
    Instr.wf (.domainBandFillDone 0 1 (List.replicate 128 (1, 2))) = true ∧ Instr.wf (.referenceEdge 0 1 { bin := 768 }) = false ∧
    Instr.wf (.referenceEdge 0 1 { kind := 5 }) = false ∧ Instr.wf (.binTableComplete 0 1 false [1]) = false ∧
    Instr.wf (.syncInEdge 0 false [1]) = false := by decide

theorem test_wf_messages :
    Instr.wf (.rxSync 0 1 { seq := 65536 } false 0) = false ∧ Instr.wf (.rxFollowUp 0 1 { domain := 256 } 0) = false ∧
    Instr.wf (.rxDelayReq 0 1 { id := 2 ^ 64 }) = false ∧ Instr.wf (.rxDelayResp 0 1 { port := 65536 } 0 0 0) = false ∧
    Instr.wf (.rxPdelayReq 0 1 { vlan := some 4096 }) = false ∧ Instr.wf (.rxPdelayResp 0 1 { seq := 65536 } false 0 0 0) = false ∧
    Instr.wf (.rxPdelayRespFollowUp 0 1 { seq := 65536 } 0 0 0) = false ∧ Instr.wf (.rxAnnounce 0 1 {} { cls := 256 }) = false ∧
    Instr.wf (.rxAnnounce 0 1 {} { flags := 64 }) = false ∧ Instr.wf (.rxAnnounce 0 1 {} {}) = true ∧
    Instr.wf (.rxRequestUnicast 0 1 {} .sync 128 0) = false ∧ Instr.wf (.rxRequestUnicast 0 1 {} .sync 0 (2 ^ 32)) = false ∧
    Instr.wf (.rxGrantUnicast 0 1 {} .sync (-129) 0) = false ∧ Instr.wf (.rxCancelUnicast 0 1 { seq := 65536 } .sync) = false ∧
    Instr.wf (.rxAcknowledgeCancel 0 1 { seq := 65536 } .sync) = false ∧ Instr.wf (.rxManagement 0 1 { seq := 65536 } []) = false ∧
    Instr.wf (.foreignMasterAgeout 0 1 (2 ^ 64) 0) = false ∧ Instr.wf (.foreignMasterAgeout 0 1 0 65536) = false := by decide

theorem test_wf_others :
    Instr.wf (.gnssMark 0 { leap := 2 }) = false ∧
    Instr.wf (.heartbeatRx 0 { seq := 2 ^ 32 }) = false ∧ Instr.wf (.heartbeatRx 0 { role := 8 }) = false ∧
    Instr.wf (.heartbeatRx 0 { mstate := 8 }) = false ∧ Instr.wf (.snapshotChunkRx 0 0 3 3 []) = false ∧
    Instr.wf (.snapshotChunkRx 0 0 3 17 []) = false ∧ Instr.wf (.snapshotCommitRx 0 0 17 0 {}) = false ∧
    Instr.wf (.snapshotCommitRx 0 (2 ^ 32) 1 0 {}) = false ∧ Instr.wf (.snapshotCommitRx 0 1 16 0 {}) = true := by decide

/-! ### The spec's worked examples -/

/-- The command table gives no row any bits, so a word spells no command and the state stays as it is (log 4). -/
theorem test_no_word_spells_a_command : decodeTableWord 32 0x01000000 = none ∧ State.reset.withFetchWord 32 0 = State.reset :=
  ⟨rfl, rfl⟩

/-- Chapter 03: an empty tag 1 reads 0x0B000400. -/
theorem test_not_ready_header :
    ((res (exec (.mbRespHdr 0 0) (live.portMod 0 fun p => { p with respTag := 1 }))).port 0).out = [0x0B000400] := by decide

/-- Chapter 03: SYS_IDENTIFY under tag 0, on firmware 3.2, answers with length 7: header 0x80000007, then PART 0xAE4B9648
and REV 0x01000302 (R109). -/
theorem test_identify_header :
    let u := res (exec (.sysIdentify 0 0) (withCmd (live.onSys fun x => { x with fwMajor := 3, fwMinor := 2 }) 0 .sysIdentify false []))
    (u.tag 0).respHdr 0 = 0x80000007 ∧ (u.tag 0).data.take 2 = [0xAE4B9648, 0x01000302] := by decide

/-- R301: K for three of the spec's domain frequencies. -/
theorem test_vco_factor : vcoK 625000000 1 = 18 ∧ vcoK 148500000 1 = 75 ∧ vcoK 24576000 1 = 456 := by decide

/-- R315: the 59.94 Hz edges of the spec's table, as tick and fine delay. -/
theorem test_grid_edges :
    pulseEdge 49870000000 1 = (199480000, 0) ∧ pulseEdge (51538333333 * 3 + 1) 3 = (206153333, 83) ∧
    pulseEdge (53206666666 * 3 + 2) 3 = (212826666, 167) ∧ pulseEdge 54875000000 1 = (219500000, 0) := by decide

/-- R144: the spec's one stamp (channel 6, bin 395, p1 = 30, p2 = 760, d_in 1.234 ns, c = +1 ppm) lies 17.514305 ns after
its tick. -/
theorem test_one_stamp :
    (((live.chanMod 6 fun x => { x with cal := .lin, p1a := 30720, p2a := 778240, dIn := delayOfPs 1234 }).dpllMod 0 fun x =>
      { x with c := 18446744073709, cTick := 18446744073709 }).convert 6 1474560 395).1 = 1147817 := by decide

/-- The examples of R562, and the land counts of its supplies. -/
theorem test_lands :
    rowName 18 = "W" ∧ rowName 36 = "AV" ∧ rowName 3 = "C" ∧ rowName 39 = "BA" ∧ (Pin.link 5 false true).land = (18, 3) ∧
    (Pin.link 5 true true).land = (18, 6) ∧ (Pin.link 47 false false).land = (36, 32) ∧ (Pin.link 47 true true).land = (36, 28) ∧ railLands .vddOven = 12 := by
  decide

/-- R351: TE_EST 215.8 ns announces clockAccuracy 0x22. -/
theorem test_clock_accuracy : accOf 215800 = 0x22 := by decide

/-! ### One witness for each clause of each statement that has hypotheses -/

theorem test_witness_StepRunsTheFrontCommand : ∃ (s : State), s.pending = [] :=
⟨live, by decide⟩

theorem test_witness_QueueIsLeftAlone : ∃ (c : Instr) (s : State) (u : State), exec c s = .next u :=
⟨.metronomeSecond 0, live, res (exec (.metronomeSecond 0) live), rfl⟩

theorem test_witness_StepKeepsTheInvariant : ∃ (s : State) (u : State), s.Inv ∧ step s = .next u :=
⟨State.reset, State.reset, ⟨by decide, by decide, by decide⟩, rfl⟩

theorem test_witness_ResetsFreeEveryTag :
(∃ (s : State) (t : Nat) (ns : Nat), 1000 ≤ ns) ∧
(∃ (s : State) (t : Nat), s.portDead 0 = false ∧ s.hif.inRecall = false) ∧
(∃ (s : State) (t : Nat) (i2c : Bool) (b : Bool), s.sys.inReset = true) ∧
(∃ (s : State) (t : Nat) (r : Rail) (ns : Nat) (torn : Nat) (f : Bool), 2000 ≤ ns ∧ r ≠ .vddOven ∧ s.sys.powered = true) ∧
(∃ (s : State) (t : Nat) (k : Nat), s.sys.resetDue = some k ∧ k ≤ (s.advance t).now) :=
  ⟨⟨live, 0, 1000, by decide⟩,
⟨(live).onHif fun y => { y with inRecall := false }, 0, by decide⟩,
⟨(live).onSys fun y => { y with inReset := true }, 0, false, false, by decide⟩,
⟨(live).onSys fun y => { y with powered := true }, 0, .vdd18, 2000, 0, false, by decide⟩,
⟨(live).onSys fun y => { y with resetDue := some 0 }, 0, 0, by decide⟩⟩

theorem test_witness_ResetRestoresReactions :
(∃ (s : State) (t : Nat) (ns : Nat), 1000 ≤ ns) ∧
(∃ (s : State) (t : Nat), s.portDead 0 = false ∧ s.hif.inRecall = false) :=
  ⟨⟨live, 0, 1000, by decide⟩,
⟨(live).onHif fun y => { y with inRecall := false }, 0, by decide⟩⟩

theorem test_witness_PairUnitAfterReset :
(∃ (s : State) (t : Nat) (ns : Nat), 1000 ≤ ns) ∧
(∃ (s : State) (t : Nat), s.portDead 0 = false ∧ s.hif.inRecall = false) ∧
(∃ (s : State) (t : Nat) (i : Fin 48), (s.advance t).ready i .pairConfig false = true) :=
  ⟨⟨live, 0, 1000, by decide⟩,
⟨(live).onHif fun y => { y with inRecall := false }, 0, by decide⟩,
⟨withCmd (live) 3 .pairConfig false [0], 0, 3, by decide⟩⟩

theorem test_witness_BootAndFirmwareStore :
(∃ (s : State) (t : Nat), s.hif.inRecall = true ∧ s.sys.inReset = false ∧ s.sys.powered = true ∧ (s.advance t).past 0
    (14 * msU) = true) ∧
(∃ (s : State) (t : Nat) (okA : ImgIn) (okB : ImgIn), s.sys.booted = true ∧ s.hif.fwReady = false ∧ s.sys.restartFrom =
    none ∧ s.sys.inReset = false ∧ s.sys.powered = true ∧ s.slotOk (if s.sys.nextB then okB else okA) s.sys.nextB =
    true) ∧
(∃ (s : State) (t : Nat) (okA : ImgIn) (okB : ImgIn), s.sys.booted = true ∧ s.hif.fwReady = false ∧ s.sys.restartFrom =
    none ∧ s.sys.inReset = false ∧ s.sys.powered = true ∧ s.slotOk okA false = false ∧ s.slotOk okB true = false) ∧
(∃ (s : State) (t : Nat) (k : Nat), s.sys.restartFrom = some k) ∧
(∃ (s : State) (t : Nat) (b : Bool), s.hif.fwReady = true ∧ imageOk b s.sys.staging = true) ∧
(∃ (s : State) (t : Nat) (b : Bool) (i : Fin 48), s.sys.commitTag = some i ∧ imageLenOk s.sys.staging = true ∧
    (s.advance t).past (s.tag i).busy (30 * secU) = false) ∧
(∃ (s : State) (t : Nat) (i : Fin 48), s.sys.commitTag = some i ∧ s.sys.loader = true ∧ (s.advance t).past (s.tag
    i).busy (30 * secU) = false) :=
  ⟨⟨(((live).onHif fun y => { y with inRecall := true }).onSys fun y => { y with inReset := false }).onSys fun y =>
    { y with powered := true }, 400000 * secU, by decide⟩,
⟨((((((live).onSys fun y => { y with booted := true }).onHif fun y => { y with fwReady := false }).onSys fun y =>
    { y with restartFrom := none }).onSys fun y => { y with inReset := false }).onSys fun y =>
    { y with powered := true }).onSys fun x => { x with booted := true }, 0, .good, .good, by decide⟩,
⟨(((((live).onSys fun y => { y with booted := true }).onHif fun y => { y with fwReady := false }).onSys fun y =>
    { y with restartFrom := none }).onSys fun y => { y with inReset := false }).onSys fun y =>
    { y with powered := true }, 0, .unread, .unsigned, by decide⟩,
⟨(live).onSys fun y => { y with restartFrom := some 0 }, 0, 0, by decide⟩,
⟨((live).onHif fun y => { y with fwReady := true }).onSys fun x =>
    { x with staging := ([0x4B580001, idPart, 0, 0, 64] ++ List.replicate 59 7) }, 0, true, by decide⟩,
⟨((live).onSys fun y => { y with commitTag := some 3 }).onSys fun x =>
    { x with staging := ([0x4B580001, idPart, 0, 0, 64] ++ List.replicate 59 7) }, 0, false, 3, by decide⟩,
⟨((live).onSys fun y => { y with commitTag := some 3 }).onSys fun y => { y with loader := true }, 0, 3, by decide⟩⟩

theorem test_witness_FramesAndTransfers :
(∃ (s : State) (t : Nat) (priv : Bool), s.portDead 0 = false) ∧
(∃ (s : State) (t : Nat), s.portDead 0 = false) ∧
(∃ (s : State) (t : Nat) (a : Option (BitVec 16)), s.portDead 0 = false) ∧
(∃ (s : State) (t : Nat) (a : BitVec 16), s.portDead 0 = false) ∧
(∃ (s : State) (t : Nat) (p : ShortPlace) (a : BitVec 16), (p = .readWord ∨ p = .dummy) ∧ s.portDead 0 = false) ∧
(∃ (s : State) (t : Nat) (dev : BitVec 7) (bytes : List (BitVec 8)) (n : Nat), dev ≠ s.svcDev) ∧
(∃ (s : State) (t : Nat) (b : BitVec 8), s.portDead 1 = false) ∧
(∃ (s : State) (t : Nat) (h : BitVec 8) (l : BitVec 8) (data : List (BitVec 8)), s.portDead 1 = false ∧ data.length < 4
    ∧ data ≠ []) ∧
(∃ (s : State) (t : Nat) (h : BitVec 8) (l : BitVec 8), s.portDead 1 = false) :=
  ⟨⟨live, 0, false, by decide⟩,
⟨live, 0, by decide⟩,
⟨live, 0, none, by decide⟩,
⟨live, 0, 1, by decide⟩,
⟨live, 0, .dummy, 1, by decide⟩,
⟨live, 0, 0, [1, 2], 0, by decide⟩,
⟨live, 0, 0, by decide⟩,
⟨live, 0, 0, 0, [1, 2], by decide⟩,
⟨live, 0, 0, 0, by decide⟩⟩

theorem test_witness_BadOpcodeFrameIsIgnored : ∃ (s : State) (t : Nat) (op : BitVec 8), op ≠ 0x02 ∧ op ≠ 0x0B ∧ op ≠
    0x05 ∧ s.portDead 0 = false :=
⟨live, 0, 0, by decide⟩

theorem test_witness_PostTakesTheWindow :
(∃ (s : State) (t : Nat) (p : Fin 2) (w : Word), s.portDead p = false ∧ s.hif.inRecall = false) ∧
(∃ (s : State) (t : Nat) (p : Fin 2) (w : Word), s.portDead p = false ∧ s.hif.inRecall = false ∧ (s.port p).win.length <
    65) ∧
(∃ (s : State) (t : Nat) (p : Fin 2) (w : Word), s.portDead p = false ∧ s.hif.inRecall = false ∧ 65 ≤ (s.port
    p).win.length) ∧
(∃ (s : State) (t : Nat) (p : Fin 2) (priv : Bool) (w : Word) (i : Fin 48), s.portDead p = false ∧ s.hif.inRecall =
    false ∧ (p = 0 → s.noSvcAt t = true) ∧ s.hif.fwReady = true ∧ wordTag w = some i ∧ (s.tag i).st = .free) ∧
(∃ (s : State) (t : Nat) (p : Fin 2) (priv : Bool) (w : Word) (i : Fin 48), s.portDead p = false ∧ s.hif.inRecall =
    false ∧ (p = 0 → s.noSvcAt t = true) ∧ s.hif.fwReady = true ∧ wordTag w = some i ∧ (s.tag i).st ≠ .free) ∧
(∃ (s : State) (t : Nat) (p : Fin 2) (priv : Bool) (w : Word), s.portDead p = false ∧ s.hif.inRecall = false ∧ (p = 0 →
    s.noSvcAt t = true) ∧ s.hif.fwReady = true ∧ wordTag w = none) :=
  ⟨⟨(live).onHif fun y => { y with inRecall := false }, 0, 0, 0, by decide⟩,
⟨(live).onHif fun y => { y with inRecall := false }, 0, 0, 0, by decide⟩,
⟨((live).onHif fun y => { y with inRecall := false }).portMod 0 fun x => { x with win := List.replicate 65 1 }, 0, 0, 0,
    by decide⟩,
⟨(((live).onHif fun y => { y with inRecall := false }).onHif fun y => { y with fwReady := true }).tagMod 47 fun y =>
    { y with st := .free }, 0, 0, false, 47, 47, by decide⟩,
⟨(((live).onHif fun y => { y with inRecall := false }).onHif fun y => { y with fwReady := true }).tagMod 47 fun x =>
    { x with st := .queued }, 0, 0, false, 47, 47, by decide⟩,
⟨((live).onHif fun y => { y with inRecall := false }).onHif fun y => { y with fwReady := true }, 0, 0, false, 48, by
    decide⟩⟩

theorem test_witness_ResponsesAreReadAndAcknowledged :
(∃ (s : State) (t : Nat) (p : Fin 2) (w : Word) (i : Fin 48), s.portDead p = false ∧ s.hif.inRecall = false ∧ wordTag w
    = some i) ∧
(∃ (s : State) (t : Nat) (p : Fin 2) (i : Fin 48), s.portDead p = false ∧ s.hif.inRecall = false ∧ s.selTag p = some i ∧
    (s.tag i).st = .held) ∧
(∃ (s : State) (t : Nat) (p : Fin 2) (i : Fin 48), s.portDead p = false ∧ s.hif.inRecall = false ∧ s.selTag p = some i ∧
    (s.tag i).st = .held) ∧
(∃ (s : State) (t : Nat) (p : Fin 2) (i : Fin 48), s.portDead p = false ∧ s.hif.inRecall = false ∧ s.selTag p = some i ∧
    (s.tag i).st ≠ .held ∧ ((s.advance t).tagBefore i).st ≠ .held) ∧
(∃ (s : State) (t : Nat) (p : Fin 2) (i : Fin 48), s.portDead p = false ∧ s.hif.inRecall = false ∧ s.selTag p = some i ∧
    (s.tag i).st ≠ .held) ∧
(∃ (s : State) (t : Nat) (p : Fin 2) (w : Word) (i : Fin 48), s.portDead p = false ∧ s.hif.inRecall = false ∧ wordTag w
    = some i ∧ (p = 0 → s.noSvcAt t = true) ∧ (s.tag i).st = .held ∧ (s.tag i).collided = 0) ∧
(∃ (s : State) (t : Nat) (p : Fin 2) (w : Word) (i : Fin 48), s.portDead p = false ∧ s.hif.inRecall = false ∧ wordTag w
    = some i ∧ (p = 0 → s.noSvcAt t = true) ∧ (s.tag i).st = .held ∧ (s.tag i).collided ≠ 0) :=
  ⟨⟨(live).onHif fun y => { y with inRecall := false }, 0, 0, 47, 47, by decide⟩,
⟨(((live).onHif fun y => { y with inRecall := false }).tagMod 3 fun y => { y with st := .held }).portMod 0 fun x =>
    { x with respTag := 3 }, 0, 0, 3, by decide⟩,
⟨(((live).onHif fun y => { y with inRecall := false }).tagMod 3 fun y => { y with st := .held }).portMod 0 fun x =>
    { x with respTag := 3 }, 0, 0, 3, by decide⟩,
⟨((live).onHif fun y => { y with inRecall := false }).portMod 0 fun x => { x with respTag := 3 }, 0, 0, 3, by decide⟩,
⟨((live).onHif fun y => { y with inRecall := false }).portMod 0 fun x => { x with respTag := 3 }, 0, 0, 3, by decide⟩,
⟨(((live).onHif fun y => { y with inRecall := false }).tagMod 47 fun y => { y with st := .held }).tagMod 47 fun y =>
    { y with collided := 0 }, 0, 0, 47, 47, by decide⟩,
⟨(((live).onHif fun y => { y with inRecall := false }).tagMod 3 fun y => { y with st := .held }).tagMod 3 fun x =>
    { x with collided := 255 }, 0, 0, 3, 3, by decide⟩⟩

theorem test_witness_AcknowledgementNeverAborts : ∃ (s : State) (t : Nat) (p : Fin 2) (w : Word) (i : Fin 48),
    s.portDead p = false ∧ s.hif.inRecall = false ∧ wordTag w = some i ∧ (p = 0 → s.noSvcAt t = true) ∧ (s.tag i).st ≠
    .held :=
⟨(live).onHif fun y => { y with inRecall := false }, 0, 0, 47, 47, by decide⟩

theorem test_witness_WideValueCapture :
(∃ (s : State) (t : Nat) (p : Fin 2) (w : Word), s.portDead p = false ∧ s.hif.inRecall = false) ∧
(∃ (s : State) (t : Nat) (p : Fin 2), (s.port p).wvBusy = true) :=
  ⟨⟨(live).onHif fun y => { y with inRecall := false }, 0, 0, 0, by decide⟩,
⟨(live).portMod 0 fun y => { y with wvBusy := true }, 0, 0, by decide⟩⟩

theorem test_witness_UpdateStrobe :
(∃ (s : State) (t : Nat) (p : Fin 2) (w : Word), s.portDead p = false ∧ s.hif.inRecall = false ∧ wbit w 0 = true ∧
    s.hif.pend = none) ∧
(∃ (s : State) (t : Nat) (p : Fin 2) (w : Word), s.portDead p = false ∧ s.hif.inRecall = false ∧ wbit w 0 = true ∧
    s.hif.pend.isSome = true ∧ s.hif.queued = none) ∧
(∃ (s : State) (t : Nat) (p : Fin 2) (w : Word), s.portDead p = false ∧ s.hif.inRecall = false ∧ wbit w 0 = true ∧
    s.hif.pend.isSome = true ∧ s.hif.queued.isSome = true) ∧
(∃ (s : State) (t : Nat) (r : StrobeReq), s.hif.pend = some r ∧ r.due (s.advance t).msec = true ∧ s.mb.shadow.filter
    (Staged.armed r.groups) = []) ∧
(∃ (s : State) (t : Nat) (r : StrobeReq) (a : Args), s.hif.pend = some r ∧ r.due (s.advance t).msec = true ∧
    s.mb.shadow.filter (Staged.armed r.groups) = [{ cmd := .loopHoldoverConfig, args := a }] ∧ 4 ≤ a.length) ∧
(∃ (s : State) (t : Nat), s.hif.pend = none) :=
  ⟨⟨((live).onHif fun y => { y with inRecall := false }).onHif fun y => { y with pend := none }, 0, 0, 1, by decide⟩,
⟨(((live).onHif fun y => { y with inRecall := false }).onHif fun y => { y with queued := none }).onHif fun x =>
    { x with pend := some StrobeReq.init }, 0, 0, 1, by decide⟩,
⟨((live).onHif fun y => { y with inRecall := false }).onHif fun x =>
    { x with pend := some StrobeReq.init, queued := some StrobeReq.init }, 0, 0, 1, by decide⟩,
⟨(live).onHif fun y => { y with pend := some StrobeReq.init }, 0, StrobeReq.init, by decide⟩,
⟨((live).onHif fun y => { y with pend := some ({ StrobeReq.init with groups := 0x1FF }) }).onMb fun x =>
    { x with shadow := [{ cmd := .loopHoldoverConfig, args := [1, 2, 3, 4] }] }, 0,
    { StrobeReq.init with groups := 0x1FF }, [1, 2, 3, 4], by decide⟩,
⟨(live).onHif fun y => { y with pend := none }, 0, by decide⟩⟩

theorem test_witness_IndirectReads :
(∃ (s : State) (t : Nat) (p : Fin 2) (n : Fin 4) (w : Word), s.portDead p = false ∧ s.hif.inRecall = false ∧ (p = 0 →
    s.noSvcAt t = true)) ∧
(∃ (s : State) (t : Nat) (p : Fin 2) (n : Fin 4) (w : Word), s.portDead p = false ∧ s.hif.inRecall = false ∧ (p = 0 →
    s.noSvcAt t = true)) ∧
(∃ (s : State) (t : Nat) (n : Fin 4), (s.ind n).pre = none ∧ (s.ind n).space = 1 ∧ (s.ind n).addr.toNat < 0x20000) ∧
(∃ (s : State) (t : Nat) (p : Fin 2) (priv : Bool) (n : Fin 4) (w : Word) (e : EccIn), s.portDead p = false ∧
    s.hif.inRecall = false ∧ (s.ind n).pre = some w ∧ (s.ind n).space ≠ 2) :=
  ⟨⟨(live).onHif fun y => { y with inRecall := false }, 0, 0, 1, 0, by decide⟩,
⟨(live).onHif fun y => { y with inRecall := false }, 0, 0, 1, 0, by decide⟩,
⟨((live).indMod 1 fun y => { y with pre := none }).indMod 1 fun y => { y with space := 1 }, 0, 1, by decide⟩,
⟨((live).onHif fun y => { y with inRecall := false }).indMod 1 fun y => { y with pre := some 0 }, 0, 0, false, 1, 0,
    .clean, by decide⟩⟩

theorem test_witness_IndirectWrites :
(∃ (s : State) (t : Nat) (n : Fin 4) (w : Word), s.portDead 0 = false ∧ s.hif.inRecall = false ∧ (s.ind n).space = 1 ∧
    (s.ind n).addr.toNat < 0x20000 ∧ s.hif.rawWrEn = true ∧ s.sys.wp = false ∧ s.nvsBarred = false ∧ s.memOk = true ∧
    s.noSvcAt t = true) ∧
(∃ (s : State) (t : Nat) (n : Fin 4) (w : Word), s.portDead 0 = false ∧ s.hif.inRecall = false ∧ (s.ind n).space = 2 ∧
    (s.ind n).addr.toNat < 0x40000 ∧ s.memOk = true ∧ s.noSvcAt t = true) ∧
(∃ (s : State) (t : Nat) (p : Fin 2) (priv : Bool) (n : Fin 4) (w : Word), s.portDead p = false ∧ s.hif.inRecall = false
    ∧ (s.ind n).space = 0 ∧ (p = 0 → s.noSvcAt t = true)) ∧
(∃ (s : State) (t : Nat) (p : Fin 2) (n : Fin 4) (w : Word), s.portDead p = false ∧ s.hif.inRecall = false ∧ (s.ind
    n).space ≠ 0 ∧ (p = 0 → s.noSvcAt t = true)) :=
  ⟨⟨((((live).onHif fun y => { y with inRecall := false }).indMod 1 fun y => { y with space := 1 }).onHif fun y =>
    { y with rawWrEn := true }).onSys fun y => { y with wp := false }, 0, 1, 0, by decide⟩,
⟨((live).onHif fun y => { y with inRecall := false }).indMod 1 fun y => { y with space := 2 }, 0, 1, 0, by decide⟩,
⟨((live).onHif fun y => { y with inRecall := false }).indMod 1 fun y => { y with space := 0 }, 0, 0, false, 1, 0, by
    decide⟩,
⟨((live).onHif fun y => { y with inRecall := false }).indMod 1 fun x => { x with space := 1 }, 0, 0, 1, 0, by decide⟩⟩

theorem test_witness_MemoryStaysCanonical :
(∃ (s : State) (u : State) (t : Nat) (p : Fin 2) (priv : Bool) (n : Fin 4) (w : Word), s.memOk = true ∧ exec
    (.indDataWrite t p priv n w) s = .next u) ∧
(∃ (s : State) (u : State) (t : Nat) (k : Nat), s.memOk = true ∧ exec (.wpNAssert t k) s = .next u) ∧
(∃ (s : State) (u : State) (t : Nat) (p : Fin 2) (priv : Bool), s.memOk = true ∧ exec (.softReset t p priv) s = .next u) ∧
(∃ (s : State) (u : State) (t : Nat) (id : Nat) (ok1 : Bool) (ok2 : Bool), s.memOk = true ∧ exec (.nvsWriteDone t id ok1
    ok2) s = .next u) ∧
(∃ (s : State) (u : State) (t : Nat) (r : Rail) (ns : Nat) (torn : Nat) (f : Bool), s.memOk = true ∧ exec (.brownOut t r
    ns f torn) s = .next u) :=
  ⟨⟨live, res (exec (.indDataWrite 0 0 false 1 0) live), 0, 0, false, 1, 0, by decide, rfl⟩,
⟨live, res (exec (.wpNAssert 0 0) live), 0, 0, by decide, rfl⟩,
⟨live, res (exec (.softReset 0 0 false) live), 0, 0, false, by decide, rfl⟩,
⟨live, res (exec (.nvsWriteDone 0 0 false false) live), 0, 0, false, false, by decide, rfl⟩,
⟨live, res (exec (.brownOut 0 .vdd18 0 false 0) live), 0, .vdd18, 0, 0, false, by decide, rfl⟩⟩

theorem test_witness_ByteMemoriesHaveTheirWriters : ∃ (c : Instr) (s : State) (u : State), exec c s = .next u :=
⟨.metronomeSecond 0, live, res (exec (.metronomeSecond 0) live), rfl⟩

theorem test_witness_SettingsHaveTheirWriters : ∃ (c : Instr) (s : State) (u : State), exec c s = .next u :=
⟨.metronomeSecond 0, live, res (exec (.metronomeSecond 0) live), rfl⟩

theorem test_witness_ConfigurationHasItsWriters : ∃ (c : Instr) (s : State) (u : State), exec c s = .next u ∧
    c.configures = false :=
⟨.metronomeSecond 0, live, res (exec (.metronomeSecond 0) live), rfl, by decide⟩

theorem test_witness_RegisterWrites :
(∃ (s : State) (t : Nat) (v : Bool), s.portDead 0 = false ∧ s.hif.inRecall = false) ∧
(∃ (s : State) (t : Nat) (v : Bool), s.portDead 0 = false ∧ s.hif.inRecall = false) ∧
(∃ (s : State) (t : Nat) (m : BitVec 16), s.portDead 0 = false ∧ s.hif.inRecall = false) ∧
(∃ (s : State) (t : Nat), s.portDead 0 = false ∧ s.hif.inRecall = false ∧ vget s.hif.lastClr 3 ≠ some (s.advance t).now
    ∧ s.sys.mstate ≠ .faultHold ∧ s.sys.loader = false) ∧
(∃ (s : State) (t : Nat), s.portDead 0 = false ∧ s.hif.inRecall = false ∧ s.sys.mstate = .test ∧ (s.dpll 0).dstate =
    .acquiring) ∧
(∃ (s : State) (t : Nat) (p : Fin 2) (v : Bool) (m : BitVec 16), s.portDead p = false ∧ s.hif.inRecall = false) ∧
(∃ (s : State) (t : Nat) (priv : Bool) (a : BitVec 16) (w : Word), s.portDead 0 = false ∧ s.hif.inRecall = true) ∧
(∃ (s : State) (t : Nat) (t' : Nat) (p : Fin 2) (priv : Bool) (w : Word) (e : EccIn), s.portDead p = false ∧
    s.hif.inRecall = false ∧ (p = 0 → s.noSvcAt t = true)) ∧
(∃ (s : State) (t : Nat) (p : Fin 2) (priv : Bool) (w : Word), s.portDead p = false ∧ s.hif.inRecall = false ∧ (p = 0 →
    s.noSvcAt t = true) ∧ (s.advance t).settled = true) ∧
(∃ (s : State) (t : Nat) (which : Cls) (w : Word), s.portDead 0 = false ∧ s.hif.inRecall = false ∧ s.noSvcAt t = true) :=
  ⟨⟨(live).onHif fun y => { y with inRecall := false }, 0, false, by decide⟩,
⟨(live).onHif fun y => { y with inRecall := false }, 0, false, by decide⟩,
⟨(live).onHif fun y => { y with inRecall := false }, 0, 1, by decide⟩,
⟨((live).onHif fun y => { y with inRecall := false }).onSys fun y => { y with loader := false }, 0, by decide⟩,
⟨(((live).onHif fun y => { y with inRecall := false }).onSys fun y => { y with mstate := .test }).dpllMod 0 fun y =>
    { y with dstate := .acquiring }, 0, by decide⟩,
⟨(live).onHif fun y => { y with inRecall := false }, 0, 0, false, 1, by decide⟩,
⟨(live).onHif fun y => { y with inRecall := true }, 0, false, 1, 0, by decide⟩,
⟨(live).onHif fun y => { y with inRecall := false }, 0, 0, 0, false, 0, .clean, by decide⟩,
⟨(live).onHif fun y => { y with inRecall := false }, 0, 0, false, 0, by decide⟩,
⟨(live).onHif fun y => { y with inRecall := false }, 0, .corrected, 0, by decide⟩⟩

theorem test_witness_AcceptanceAndDispatch :
(∃ (s : State) (t : Nat) (i : Fin 48), (s.tag i).st = .posted ∧ s.hif.fwReady = true ∧ (s.advance t).acceptFail i =
    none) ∧
(∃ (s : State) (t : Nat) (i : Fin 48) (f : Fail), (s.tag i).st = .posted ∧ s.hif.fwReady = true ∧ (s.advance
    t).acceptFail i = some f) ∧
(∃ (s : State) (t : Nat) (i : Fin 48), (s.tag i).st = .posted ∧ s.hif.fwReady = true ∧ (s.tag i).win = []) ∧
(∃ (s : State) (t : Nat) (i : Fin 48), (s.tag i).st = .posted ∧ s.hif.fwReady = true ∧ (s.tag i).win ≠ [] ∧ (s.tag
    i).cmd = none) ∧
(∃ (s : State) (t : Nat) (i : Fin 48), (s.tag i).st = .queued ∧ s.hif.fwReady = true ∧ (∀ k, s.behind i k = false)) ∧
(∃ (s : State) (t : Nat) (i : Fin 48) (k : Fin 48), s.behind i k = true) :=
  ⟨⟨(((live).tagMod 3 fun y => { y with st := .posted }).onHif fun y => { y with fwReady := true }).tagMod 3 fun x =>
    { x with win := [0x01000C00] }, 0, 3, by decide⟩,
⟨(((live).tagMod 3 fun y => { y with st := .posted }).onHif fun y => { y with fwReady := true }).tagMod 3 fun x =>
    { x with win := [0x01001000] }, 0, 3, ((((live).tagMod 3 fun x => { x with st := .posted }).tagMod 3 fun x =>
    { x with win := [0x01001000] }).advance 0 |>.acceptFail 3).getD (badArg 0 0), by decide⟩,
⟨(((live).tagMod 3 fun y => { y with st := .posted }).onHif fun y => { y with fwReady := true }).tagMod 3 fun y =>
    { y with win := [] }, 0, 3, by decide⟩,
⟨(((live).tagMod 3 fun y => { y with st := .posted }).onHif fun y => { y with fwReady := true }).tagMod 3 fun x =>
    { x with win := [0x01FF0C00] }, 0, 3, by decide⟩,
⟨((live).tagMod 3 fun y => { y with st := .queued }).onHif fun y => { y with fwReady := true }, 0, 3, by decide⟩,
⟨((live).tagMod 3 fun x => { x with st := .queued, order := 2, win := [0x01000C00] }).tagMod 4 fun x =>
    { x with st := .queued, order := 1, win := [0x01000C00] }, 0, 3, 4, by decide⟩⟩

theorem test_witness_RefusedCommandChangesOnlyItsResponse :
(∃ (x : Instr) (t : Nat) (i : Fin 48) (c : Cmd) (s : State), mailboxRow x = some (t, i, c) ∧ (s.advance t).runs i c =
    false) ∧
(∃ (x : Instr) (t : Nat) (i : Fin 48) (c : Cmd) (s : State) (f : Fail), mailboxRow x = some (t, i, c) ∧ (s.advance
    t).runs i c = true ∧ firstFail (c.checks i (s.tag i).priv (hdrStaged (s.tag i).hdr) (s.tag i).args ((s.advance
    t).injectEnd i)) = some f) :=
  ⟨⟨.sysStatus 0 3, 0, 3, .sysStatus, live, by decide⟩,
⟨.measRead 0 3, 0, 3, .measRead, withCmd (live) 3 .measRead false [0xFFFFFFFF], badArg 0 26, by decide⟩⟩

theorem test_witness_StagedCommandIsBuffered : ∃ (x : Instr) (t : Nat) (i : Fin 48) (c : Cmd) (s : State), mailboxRow x
    = some (t, i, c) ∧ c.info.s = true ∧ (s.advance t).ready i c true = true :=
⟨.gnssCableDelay 0 3, 0, 3, .gnssCableDelay, withCmd (live) 3 .gnssCableDelay true [5, 6], by decide⟩

theorem test_witness_UnstagedCommandActsAsAtTheStrobe : ∃ (x : Instr) (t : Nat) (i : Fin 48) (c : Cmd) (s : State),
    mailboxRow x = some (t, i, c) ∧ c.info.s = true ∧ c ≠ .timeSet ∧ (s.advance t).ready i c false = true :=
⟨.gnssCableDelay 0 3, 0, 3, .gnssCableDelay, withCmd (live) 3 .gnssCableDelay false [5, 6], by decide⟩

theorem test_witness_ReportsChangeOnlyTheResponse : ∃ (s : State) (t : Nat) (i : Fin 48), (s.advance t).ready i
    .outStatus false = true :=
⟨withCmd (live) 3 .outStatus false [], 0, 3, by decide⟩

theorem test_witness_SysCommandsAct :
(∃ (s : State) (t : Nat) (i : Fin 48), (s.advance t).readyTurn i .sysFwStage sysFwStageTurn = true) ∧
(∃ (s : State) (t : Nat) (i : Fin 48), (s.advance t).ready i .sysFwCommit false = true ∧ imageLenOk s.sys.staging = true
    ∧ imagePartOk s.sys.staging = true) ∧
(∃ (s : State) (t : Nat) (i : Fin 48), (s.advance t).ready i .sysApply false = true ∧ s.hif.pend = none) ∧
(∃ (s : State) (t : Nat) (i : Fin 48) (base : Nat) (b : Block), (s.advance t).ready i .sysResetBlock false = true ∧
    blockOf (af (s.tag i).args 0 9 0) = some (base, b) ∧ s.flt.resetsOf (s.advance t).now base < 2) ∧
(∃ (s : State) (t : Nat) (i : Fin 48) (k : Fin 48), (s.advance t).ready i .sysAbort false = true ∧ abortTarget (s.tag
    i).args = some k ∧ k ≠ i ∧ (s.tag k).st ≠ .posted) :=
  ⟨⟨withCmd (live) 3 .sysFwStage false [0x80000000, 7], 0, 3, by decide⟩,
⟨withCmd ((live).onSys fun x => { x with staging := ([0x4B580001, idPart, 0, 0, 64] ++ List.replicate 59 7) }) 3
    .sysFwCommit false [], 0, 3, by decide⟩,
⟨withCmd ((live).onHif fun y => { y with pend := none }) 3 .sysApply false [], 0, 3, by decide⟩,
⟨withCmd (live) 3 .sysResetBlock false [0x200], 0, 3, 0x200, .dpll 0, by decide⟩,
⟨withCmd ((live).tagMod 4 fun x => { x with st := .queued, win := [0x02001000] }) 3 .sysAbort false [4], 0, 3, 4, by
    decide⟩⟩

theorem test_witness_TimeSetAnswersBothTimes :
(∃ (s : State) (t : Nat) (i : Fin 48), (s.advance t).ready i .timeSet false = true) ∧
(∃ (s : State) (t : Nat) (i : Fin 48), (s.advance t).ready i .timeSet true = true) :=
  ⟨⟨withCmd (live) 3 .timeSet false [0, 1, 0, 0], 0, 3, by decide⟩,
⟨withCmd (live) 3 .timeSet true [0, 1, 0, 0], 0, 3, by decide⟩⟩

theorem test_witness_TimeCommandsAct :
(∃ (s : State) (t : Nat) (i : Fin 48), (s.advance t).ready i .timeSet false = true ∧ af (s.tag i).args 3 1 0 = 0) ∧
(∃ (s : State) (t : Nat) (i : Fin 48), (s.advance t).ready i .timeSet false = true ∧ af (s.tag i).args 3 1 0 = 1) ∧
(∃ (s : State) (t : Nat) (i : Fin 48), (s.advance t).ready i .timeLeap false = true) ∧
(∃ (s : State) (t : Nat) (i : Fin 48), (s.advance t).ready i .timeAlignQuery false = true ∧ has (s.tag i).args 4 = true) :=
  ⟨⟨withCmd (live) 3 .timeSet false [0, 1, 0, 0], 0, 3, by decide⟩,
⟨withCmd (live) 3 .timeSet false [0, 0, 5, 1], 0, 3, by decide⟩,
⟨withCmd (live) 3 .timeLeap false [0x00010000], 0, 3, by decide⟩,
⟨withCmd (live) 3 .timeAlignQuery false [1, 1, 0, 0, 0], 0, 3, by decide⟩⟩

theorem test_witness_MeasurementCommandsAct :
(∃ (s : State) (t : Nat) (i : Fin 48), (s.advance t).ready i .measArm false = true) ∧
(∃ (s : State) (t : Nat) (i : Fin 48), (s.advance t).ready i .measInterval false = true) ∧
(∃ (s : State) (t : Nat) (i : Fin 48), (s.advance t).ready i .measFreq false = true) ∧
(∃ (s : State) (t : Nat) (i : Fin 48), (s.advance t).ready i .measConfigCh false = true ∧ 16 ≤ (argCh (s.tag
    i).args).val) ∧
(∃ (s : State) (t : Nat) (i : Fin 48), (s.advance t).ready i .measConfigCh false = true ∧ (argCh (s.tag i).args).val <
    16 ∧ (s.chan (argCh (s.tag i).args)).enable = false ∧ ab (s.tag i).args 0 8 = false) :=
  ⟨⟨withCmd ((live).chanMod 2 fun x => { x with enable := true }) 3 .measArm false [2], 0, 3, by decide⟩,
⟨withCmd ((live).chanMod 2 fun x => { x with enable := true }) 3 .measInterval false [0x000A0202, 1], 0, 3, by decide⟩,
⟨withCmd ((live).chanMod 2 fun x => { x with enable := true }) 3 .measFreq false [2, 1000000, 10, 1, 1], 0, 3, by
    decide⟩,
⟨withCmd ((live).laneMod 0 fun x => { x with en := true }) 3 .measConfigCh false [16, 1024], 0, 3, by decide⟩,
⟨withCmd (live) 3 .measConfigCh false [2], 0, 3, by decide⟩⟩

theorem test_witness_ReferenceCommandsAct :
(∃ (s : State) (t : Nat) (i : Fin 48) (r : Fin 66), (s.advance t).ready i .refLimits false = true ∧ argRef (s.tag
    i).args = some r) ∧
(∃ (s : State) (t : Nat) (i : Fin 48) (r : Fin 66), (s.advance t).ready i .refConfig false = true ∧ argRef (s.tag
    i).args = some r ∧ ab (s.tag i).args 0 31 = ((s.advance t).cand r).enable ∧ ab (s.tag i).args 0 30 = ((s.advance
    t).cand r).time ∧ (arg (s.tag i).args 1).toNat = ((s.advance t).cand r).num ∧ (arg (s.tag i).args 2).toNat =
    ((s.advance t).cand r).den) ∧
(∃ (s : State) (t : Nat) (i : Fin 48) (r : Fin 66), (s.advance t).ready i .refWtr false = true ∧ argRef (s.tag i).args =
    some r ∧ ((s.advance t).cand r).st ≠ .restoring) :=
  ⟨⟨withCmd (live) 3 .refLimits false [2], 0, 3, 2, by decide⟩,
⟨withCmd ((live).candMod 2 fun x => { x with num := 1, den := 1 }) 3 .refConfig false [2, 1, 1], 0, 3, 2, by decide⟩,
⟨withCmd (live) 3 .refWtr false [2], 0, 3, 2, by decide⟩⟩

theorem test_witness_SelectionCommandsAct :
(∃ (s : State) (t : Nat) (i : Fin 48), (s.advance t).ready i .refSelect false = true) ∧
(∃ (s : State) (t : Nat) (i : Fin 48) (r : Fin 66), (s.advance t).ready i .refPriority false = true) :=
  ⟨⟨withCmd (live) 3 .refSelect false [1], 0, 3, by decide⟩,
⟨withCmd (live) 3 .refPriority false [0x00020101, 0x85000000], 0, 3, 2, by decide⟩⟩

theorem test_witness_LoopCommandsAct :
(∃ (s : State) (t : Nat) (i : Fin 48), (s.advance t).ready i .loopConfig false = true) ∧
(∃ (s : State) (t : Nat) (i : Fin 48), (s.advance t).ready i .loopBwSchedule false = true) ∧
(∃ (s : State) (t : Nat) (i : Fin 48), (s.advance t).ready i .loopHoldoverConfig false = true) ∧
(∃ (s : State) (t : Nat) (i : Fin 48), (s.advance t).ready i .loopForceHoldover false = true ∧ ab (s.tag i).args 0 31 =
    true ∧ (s.dpll (argDpll (s.tag i).args)).forced = false) ∧
(∃ (s : State) (t : Nat) (i : Fin 48), (s.advance t).ready i .loopForceHoldover false = true ∧ ab (s.tag i).args 0 31 =
    false ∧ (s.dpll (argDpll (s.tag i).args)).forced = true) :=
  ⟨⟨withCmd (live) 3 .loopConfig false [0x80050001], 0, 3, by decide⟩,
⟨withCmd (live) 3 .loopBwSchedule false [0x01000101, 10, 1], 0, 3, by decide⟩,
⟨withCmd (live) 3 .loopHoldoverConfig false [1], 0, 3, by decide⟩,
⟨withCmd ((live).dpllMod 1 fun x => { x with dstate := .locked }) 3 .loopForceHoldover false [0x80000001], 0, 3, by
    decide⟩,
⟨withCmd (((live).dpllMod 1 fun x => { x with dstate := .locked }).dpllMod 1 fun x => { x with forced := true }) 3
    .loopForceHoldover false [1], 0, 3, by decide⟩⟩

theorem test_witness_SynthesisCommandsAct :
(∃ (s : State) (t : Nat) (i : Fin 48), (s.advance t).ready i .synConfig false = true ∧ fdArg (s.tag i).args (s.dom
    (argDom (s.tag i).args)) = ((s.dom (argDom (s.tag i).args)).num, (s.dom (argDom (s.tag i).args)).den) ∧ (s.dom
    (argDom (s.tag i).args)).noBandFor (s.dom (argDom (s.tag i).args)).num (s.dom (argDom (s.tag i).args)).den = false) ∧
(∃ (s : State) (t : Nat) (i : Fin 48) (k : Fin 32), (s.advance t).ready i .synRampLoad false = true) ∧
(∃ (s : State) (t : Nat) (i : Fin 48), (s.advance t).ready i .synRampRun false = true ∧ ab (s.tag i).args 0 31 = false ∧
    s.rampRefused (argDom (s.tag i).args) = false ∧ (s.dom (argDom (s.tag i).args)).ramp = .idle) ∧
(∃ (s : State) (t : Nat) (i : Fin 48), (s.advance t).ready i .synRampRun false = true ∧ ab (s.tag i).args 0 31 = true ∧
    (s.dom (argDom (s.tag i).args)).ramp ≠ .idle) :=
  ⟨⟨withCmd (live) 3 .synConfig false [1], 0, 3, by decide⟩,
⟨withCmd (live) 3 .synRampLoad false [0x00000101, 1, 1, 1], 0, 3, 6, by decide⟩,
⟨withCmd ((live).domMod 1 fun x => { x with enable := true, segs := Vector.replicate 32 (some Seg.init) }) 3 .synRampRun
    false [1], 0, 3, by decide⟩,
⟨withCmd (((live).domMod 1 fun x => { x with enable := true, segs := Vector.replicate 32 (some Seg.init) }).domMod 1 fun
    x => { x with ramp := .held }) 3 .synRampRun false [0x80000001], 0, 3, by decide⟩⟩

theorem test_witness_OutputCommandsAct :
(∃ (s : State) (t : Nat) (i : Fin 48) (n : Fin 24), (s.advance t).ready i .outConfig false = true ∧ argCk (s.tag i).args
    = some n) ∧
(∃ (s : State) (t : Nat) (i : Fin 48), (s.advance t).ready i .outPulseConfig false = true) ∧
(∃ (s : State) (t : Nat) (i : Fin 48) (n : Fin 16), (s.advance t).ready i .outSlew false = true) ∧
(∃ (s : State) (t : Nat) (i : Fin 48), (s.advance t).ready i .outSyncArm false = true) ∧
(∃ (s : State) (t : Nat) (i : Fin 48), (s.advance t).ready i .outRealign false = true) :=
  ⟨⟨withCmd (live) 3 .outConfig false [4], 0, 3, 4, by decide⟩,
⟨withCmd (live) 3 .outPulseConfig false [2], 0, 3, by decide⟩,
⟨withCmd (live) 3 .outSlew false [1], 0, 3, 2, by decide⟩,
⟨withCmd ((live).ckMod 0 fun x => { x with enable := true }) 3 .outSyncArm false [1], 0, 3, by decide⟩,
⟨withCmd (live) 3 .outRealign false [2], 0, 3, by decide⟩⟩

theorem test_witness_PtpCommandsAct :
(∃ (s : State) (t : Nat) (i : Fin 48), (s.advance t).ready i .ptpProfile false = true) ∧
(∃ (s : State) (t : Nat) (i : Fin 48) (l : Fin 48), (s.advance t).ready i .ptpSynceConfig false = true ∧ argLane (s.tag
    i).args = some l) ∧
(∃ (s : State) (t : Nat) (i : Fin 48) (k : Fin 16), (s.advance t).ready i .ptpSecurity false = true ∧ af (s.tag i).args
    0 31 30 = 0 ∧ k.val = af (s.tag i).args 0 19 16) ∧
(∃ (s : State) (t : Nat) (i : Fin 48) (l : Fin 48), (s.advance t).readyTurn i .ptpFrameTx ptpFrameTxTurn = true ∧
    argLane (s.tag i).args = some l ∧ ab (s.tag i).args 0 30 = true) ∧
(∃ (s : State) (t : Nat) (i : Fin 48) (l : Fin 48), (s.advance t).readyTurn i .ptpFrameTx ptpFrameTxTurn = true ∧
    argLane (s.tag i).args = some l ∧ ab (s.tag i).args 0 30 = false) ∧
(∃ (s : State) (t : Nat) (i : Fin 48), (s.advance t).ready i .ptpFrameRx false = true) ∧
(∃ (s : State) (t : Nat) (i : Fin 48) (l : Fin 48), (s.advance t).ready i .ptpPortConfig false = true ∧ argLane (s.tag
    i).args = some l ∧ (s.lane l).en = ab (s.tag i).args 0 31 ∧ (s.lane l).rate = af (s.tag i).args 0 30 29 ∧ (s.lane
    l).fec = ab (s.tag i).args 0 28) :=
  ⟨⟨withCmd (live) 3 .ptpProfile false [0x21000000], 0, 3, by decide⟩,
⟨withCmd (live) 3 .ptpSynceConfig false [0x0FB00003], 0, 3, 3, by decide⟩,
⟨withCmd ((live).onHif fun x => { x with loadEn := 0xFFFF }) 3 .ptpSecurity false [0x00020000, 0, 16, 0, 0, 0, 0], 0, 3,
    2, by decide⟩,
⟨withCmd ((live).laneMod 3 fun x => { x with lstate := .up }) 3 .ptpFrameTx false [0xC0000003, 0x003C0000, 1, 1, 1, 1,
    1, 1, 1, 1, 1, 1, 1, 1, 1, 1, 1], 0, 3, 3, by decide⟩,
⟨withCmd ((live).laneMod 3 fun x => { x with lstate := .up }) 3 .ptpFrameTx false [0x80000003, 0x003C0000, 1], 0, 3, 3,
    by decide⟩,
⟨withCmd (live) 3 .ptpFrameRx false [], 0, 3, by decide⟩,
⟨withCmd ((live).laneMod 3 fun x => { x with rate := 0, en := false, fec := false }) 3 .ptpPortConfig false [3], 0, 3,
    3, by decide⟩⟩

theorem test_witness_GnssCommandsAct :
(∃ (s : State) (t : Nat) (i : Fin 48), (s.advance t).ready i .gnssConfig false = true) ∧
(∃ (s : State) (t : Nat) (i : Fin 48), (s.advance t).ready i .gnssCableDelay false = true) ∧
(∃ (s : State) (t : Nat) (i : Fin 48), (s.advance t).ready i .gnssSurvey false = true ∧ af (s.tag i).args 0 31 30 = 0) ∧
(∃ (s : State) (t : Nat) (i : Fin 48), (s.advance t).ready i .gnssSnapshot false = true ∧ af (s.tag i).args 0 31 30 = 0) ∧
(∃ (s : State) (t : Nat) (i : Fin 48), (s.advance t).ready i .gnssSnapshot false = true ∧ af (s.tag i).args 0 31 30 = 2) :=
  ⟨⟨withCmd (live) 3 .gnssConfig false [0x000F1000], 0, 3, by decide⟩,
⟨withCmd (live) 3 .gnssCableDelay false [5, 6], 0, 3, by decide⟩,
⟨withCmd ((live).onGnss fun x => { x with rstate := .search }) 3 .gnssSurvey false [0], 0, 3, by decide⟩,
⟨withCmd ((live).onGnss fun x => { x with rstate := .search }) 3 .gnssSnapshot false [1], 0, 3, by decide⟩,
⟨withCmd ((live).onGnss fun x => { x with rstate := .search }) 3 .gnssSnapshot false [0x80000000], 0, 3, by decide⟩⟩

theorem test_witness_PairCommandsAct :
(∃ (s : State) (t : Nat) (i : Fin 48), (s.advance t).ready i .pairHandover false = true) ∧
(∃ (s : State) (t : Nat) (i : Fin 48), (s.advance t).ready i .pairConfig false = true ∧ s.pair.en = ab (s.tag i).args 0
    31) :=
  ⟨⟨withCmd ((live).onPair fun x => { x with role := .active, alive := true, partner := { x.partner with role := 2 } }) 3
    .pairHandover false [], 0, 3, by decide⟩,
⟨withCmd (live) 3 .pairConfig false [0], 0, 3, by decide⟩⟩

theorem test_witness_FaultCommandsAct :
(∃ (s : State) (t : Nat) (i : Fin 48) (k : Nat), (s.advance t).ready i .fltReaction false = true ∧ af (s.tag i).args 0
    31 30 = 0) ∧
(∃ (s : State) (t : Nat) (i : Fin 48), (s.advance t).ready i .fltReaction false = true ∧ af (s.tag i).args 0 31 30 ≠ 0) ∧
(∃ (s : State) (t : Nat) (i : Fin 48), (s.advance t).ready i .fltClear false = true) ∧
(∃ (s : State) (t : Nat) (i : Fin 48) (real : Cls), ((s.advance t).injectEnd i).ready i .fltInject false = true) ∧
(∃ (s : State) (t : Nat) (i : Fin 48), ((s.advance t).injectEnd i).ready i .fltInject false = true ∧ ab (s.tag i).args 0
    8 = false) :=
  ⟨⟨withCmd (live) 3 .fltReaction false [1], 0, 3, 0, by decide⟩,
⟨withCmd (live) 3 .fltReaction false [0x40010000], 0, 3, by decide⟩,
⟨withCmd (live) 3 .fltClear false [], 0, 3, by decide⟩,
⟨withCmd ((live).onHif fun x => { x with injEnable := true }) 3 .fltInject false [0x08001000], 0, 3, .corrected, by
    decide⟩,
⟨withCmd ((live).onHif fun x => { x with injEnable := true }) 3 .fltInject false [0x08001000], 0, 3, by decide⟩⟩

theorem test_witness_StoreAndAgeingCommandsAct :
(∃ (s : State) (t : Nat) (i : Fin 48), (s.advance t).readyTurn i .nvsRecordWrite nvsRecordWriteTurn = true ∧ ab (s.tag
    i).args 0 30 = false) ∧
(∃ (s : State) (t : Nat) (i : Fin 48), (s.advance t).readyTurn i .nvsRecordWrite nvsRecordWriteTurn = true ∧ ab (s.tag
    i).args 0 30 = true ∧ s.sys.wp = false) ∧
(∃ (s : State) (t : Nat) (i : Fin 48), (s.advance t).ready i .ageMarginPlan false = true ∧ ab (s.tag i).args 0 31 =
    false) ∧
(∃ (s : State) (t : Nat) (i : Fin 48), (s.advance t).ready i .ageMarginPlan false = true ∧ ab (s.tag i).args 0 31 =
    true) ∧
(∃ (s : State) (t : Nat) (i : Fin 48), (s.advance t).ready i .agePolicy false = true) :=
  ⟨⟨withCmd (live) 3 .nvsRecordWrite false [0x80000010, 0x00040000, 7], 0, 3, by decide⟩,
⟨withCmd ((live).onSys fun y => { y with wp := false }) 3 .nvsRecordWrite false [0xC0000010, 0x00040000, 7], 0, 3, by
    decide⟩,
⟨withCmd (live) 3 .ageMarginPlan false [], 0, 3, by decide⟩,
⟨withCmd (live) 3 .ageMarginPlan false [0x80000000], 0, 3, by decide⟩,
⟨withCmd (live) 3 .agePolicy false [1], 0, 3, by decide⟩⟩

theorem test_witness_SecondsAndLeapEvents :
(∃ (s : State) (t : Nat), s.time.lastSec < (s.advance t).msec ∧ s.kettle.lost = false) ∧
(∃ (s : State) (t : Nat), s.time.event ≠ 0 ∧ s.time.event ≤ (s.advance t).msec + 43200) ∧
(∃ (s : State) (t : Nat), s.time.event ≠ 0 ∧ s.time.event ≤ (s.advance t).msec) :=
  ⟨⟨(live).onKettle fun y => { y with lost := false }, 2 * secU, by decide⟩,
⟨(live).onTime fun x => { x with event := 1 }, 2 * secU, by decide⟩,
⟨(live).onTime fun x => { x with event := 1 }, 2 * secU, by decide⟩⟩

theorem test_witness_KettleAndRootEvents :
(∃ (s : State) (t : Nat), s.kettle.lost = false ∧ s.flt.gong = false) ∧
(∃ (s : State) (t : Nat), s.kettle.warm = true) ∧
(∃ (s : State) (t : Nat), s.kettle.warm = false ∧ s.kettle.heaterOn = true ∧ s.kettle.lost = false) ∧
(∃ (s : State) (t : Nat) (khz : Nat), s.root.inLoss = false ∧ s.quietFaults = true) ∧
(∃ (s : State) (t : Nat) (l : List Nat), s.root.inLoss = true ∧ s.root.waitFrom = none ∧ s.sys.inReset = false ∧
    (s.advance t).past s.root.seqFrom searchU = true) ∧
(∃ (s : State) (t : Nat) (l : List Nat), s.root.inLoss = true ∧ s.root.waitFrom = none ∧ s.sys.inReset = false ∧
    (s.advance t).past s.root.seqFrom searchU = true ∧ s.quietFaults = true) ∧
(∃ (s : State) (t : Nat) (w : Nat), s.root.waitFrom = some w ∧ (s.advance t).past w secU = true) :=
  ⟨⟨((live).onKettle fun y => { y with lost := false }).onFlt fun y => { y with gong := false }, 0, by decide⟩,
⟨(live).onKettle fun y => { y with warm := true }, 0, by decide⟩,
⟨(((live).onKettle fun y => { y with warm := false }).onKettle fun y => { y with heaterOn := true }).onKettle fun y =>
    { y with lost := false }, 0, by decide⟩,
⟨(live).onRoot fun y => { y with inLoss := false }, 0, 0, by decide⟩,
⟨(((live).onRoot fun y => { y with inLoss := true }).onRoot fun y => { y with waitFrom := none }).onSys fun y =>
    { y with inReset := false }, 400000 * secU, [], by decide⟩,
⟨(((live).onRoot fun y => { y with inLoss := true }).onRoot fun y => { y with waitFrom := none }).onSys fun y =>
    { y with inReset := false }, 400000 * secU, [], by decide⟩,
⟨(live).onRoot fun y => { y with waitFrom := some 0 }, 400000 * secU, 0, by decide⟩⟩

theorem test_witness_CarillonEvents :
(∃ (s : State) (t : Nat) (d : Fin 8) (table : List (Nat × Nat)) (b : Nat), (s.dom d).enable = true ∧ (s.dom d).filling =
    true ∧ table.length = 128 ∧ s.root.inLoss = false ∧ bandPick table (s.dom d).num (s.dom d).den = some b) ∧
(∃ (s : State) (t : Nat) (d : Fin 8), (s.dom d).enable = true ∧ (s.dom d).locked = true ∧ (s.dom d).running = true ∧
    s.quietFaults = true) ∧
(∃ (s : State) (t : Nat) (d : Fin 8), (s.dom d).enable = true ∧ (s.dom d).locked = false ∧ (s.dom d).filling = false ∧
    (s.dom d).retuning = false ∧ (s.dom d).noBand = false) ∧
(∃ (s : State) (t : Nat) (d : Fin 8), (s.dom d).enable = true ∧ (s.dom d).retuning = true) ∧
(∃ (s : State) (t : Nat) (dev : Nat) (m : Nat) (d : Fin 8), (s.dom d).enable = true ∧ (s.dom d).locked = true ∧ dev ≤
    100 ∧ m < 560 ∧ s.rolls = true) ∧
(∃ (s : State) (t : Nat) (d : Fin 8), (s.dom d).ramp = .running ∧ (s.dom d).rampSeg < (s.dom d).rampLast ∧ (s.advance
    t).past (s.dom d).rampFrom ((s.dom d).seg.len (s.dom d).rampR) = true) ∧
(∃ (s : State) (t : Nat) (f : Nat) (n : Fin 24), (s.ck n).formFrom = some f ∧ (s.ck n).holdFrom = none ∧ (s.advance
    t).past f (2 * usU) = true) ∧
(∃ (s : State) (t : Nat) (f : Nat) (n : Fin 24), (s.ck n).holdFrom = some f ∧ s.mb.applying = false) ∧
(∃ (s : State) (t : Nat) (f : Nat) (n : Fin 16), (s.pl n).holdFrom = some f ∧ (s.advance t).past f (10 * usU) = true) ∧
(∃ (s : State) (t : Nat) (p : Fin 16), (s.dom (s.pl p).domain).running = true ∧ s.kettle.lost = false ∧ (s.pl p).high =
    true ∧ (s.pl p).fallAt ≤ (s.advance t).now) ∧
(∃ (s : State) (t : Nat) (p : Fin 16), (s.pl p).slewing = true ∧ (s.pl p).phi.natAbs * 1000 ≤ 5 * 65536) ∧
(∃ (s : State) (t : Nat) (f : Bool) (w : List Nat) (a : SyncArm), s.out.arm = some a ∧ s.out.released = true ∧ a.falling
    = f ∧ (s.advance t).now ≤ a.from_ + a.timeout * msU) ∧
(∃ (s : State) (t : Nat) (a : SyncArm), s.out.arm = some a ∧ (s.advance t).past a.from_ (a.timeout * msU) = true ∧
    (s.advance t).syncComing a = false) ∧
(∃ (s : State) (t : Nat) (n : Fin 24), (s.advance t).gates = false ∧ s.pair.hoDone = false ∧ (s.ck n).enable = true ∧
    (s.ck n).keep = true ∧ handOk ((s.advance t).domAt (s.ck n).domain (s.advance t).now) ((s.ck n).dphi + (((s.ck
    n).phaseAdj * (s.dom (s.ck n).domain).den * secU / ((s.dom (s.ck n).domain).k * (s.dom (s.ck n).domain).num) : Nat)
    : Int)) (periodOf (s.dom (s.ck n).domain).num ((s.dom (s.ck n).domain).den * (s.ck n).div) / 2 : Nat) (s.dom (s.ck
    n).domain).num ((s.dom (s.ck n).domain).den * (s.ck n).div) = true) :=
  ⟨⟨((((live).domMod 1 fun y => { y with enable := true }).domMod 1 fun y => { y with filling := true }).onRoot fun y =>
    { y with inLoss := false }).domMod 1 fun x => { x with num := 100000000, den := 1 }, 0, 1, List.replicate 128
    (9600000, 13500000), 0, by decide⟩,
⟨(((live).domMod 1 fun y => { y with enable := true }).domMod 1 fun y => { y with locked := true }).domMod 1 fun y =>
    { y with running := true }, 0, 1, by decide⟩,
⟨(((((live).domMod 1 fun y => { y with enable := true }).domMod 1 fun y => { y with locked := false }).domMod 1 fun y =>
    { y with filling := false }).domMod 1 fun y => { y with retuning := false }).domMod 1 fun y =>
    { y with noBand := false }, 0, 1, by decide⟩,
⟨((live).domMod 1 fun y => { y with enable := true }).domMod 1 fun y => { y with retuning := true }, 0, 1, by decide⟩,
⟨((live).domMod 1 fun y => { y with enable := true }).domMod 1 fun y => { y with locked := true }, 0, 0, 0, 1, by
    decide⟩,
⟨((live).domMod 1 fun y => { y with ramp := .running }).domMod 1 fun x => { x with rampLast := 1 }, 400000 * secU, 1, by
    decide⟩,
⟨((live).ckMod 4 fun y => { y with formFrom := some 0 }).ckMod 4 fun y => { y with holdFrom := none }, 400000 * secU, 0,
    4, by decide⟩,
⟨((live).ckMod 4 fun y => { y with holdFrom := some 0 }).onMb fun y => { y with applying := false }, 0, 0, 4, by decide⟩,
⟨((live).plMod 2 fun y => { y with holdFrom := some 0 }).domMod 0 fun x => { x with running := true }, 400000 * secU, 0,
    2, by decide⟩,
⟨(((live).onKettle fun y => { y with lost := false }).plMod 2 fun y => { y with high := true }).domMod 0 fun x =>
    { x with running := true }, 0, 2, by decide⟩,
⟨(live).plMod 2 fun y => { y with slewing := true }, 0, 2, by decide⟩,
⟨((live).onOut fun y => { y with arm := some SyncArm.init }).onOut fun y => { y with released := true }, 0, false, [],
    SyncArm.init, by decide⟩,
⟨(live).onOut fun y => { y with arm := some SyncArm.init }, 400000 * secU, SyncArm.init, by decide⟩,
⟨((((((live).onPair fun y => { y with hoDone := false }).ckMod 4 fun y => { y with enable := true }).ckMod 4 fun y =>
    { y with keep := true }).domMod 0 fun x => { x with num := 1000000, den := 1, k := 10000 }).ckMod 4 fun x =>
    { x with dphi := -10000000 }).onPair fun x => { x with en := false }, 0, 4, by decide⟩⟩

theorem test_witness_ChannelEvents :
(∃ (s : State) (t : Nat) (ch : Fin 66) (e : EdgeIn), ch.val < 16 ∧ (s.chan ch).enable = true ∧ (s.chan ch).mode ≠ 2 ∧
    ((s.chan ch).prescale e.falling).2 = true ∧ (s.chan ch).pairOk = true ∧ (s.chan ch).lastEdge = none ∧ (s.chan
    ch).lookback = []) ∧
(∃ (s : State) (t : Nat) (ch : Fin 66) (x : Stamp) (l : List Stamp), (((s.advance t).fifo ch).chan ch).lookback = x :: l
    ∧ x.edge + lookU ≤ (s.advance t).now ∧ ((s.advance t).fifo ch).inTurn ch = true) ∧
(∃ (s : State) (t : Nat) (ch : Fin 66), (s.chan ch).settling = true ∧ (s.advance t).past (s.chan ch).settleAt (2 * usU)
    = true) ∧
(∃ (s : State) (t : Nat) (ch : Fin 66), (s.chan ch).mode = 2 ∧ (s.chan ch).video = .frameLock ∧ (s.chan ch).lineSpan ≤
    (((s.advance t).now : Int) - (s.chan ch).syncDue) * 50 ∧ (s.chan ch).videoMiss + 1 < 3) ∧
(∃ (s : State) (t : Nat) (ch : Fin 66), (s.chan ch).mode = 2 ∧ (s.chan ch).video = .frameLock ∧ (s.chan ch).lineSpan ≤
    (((s.advance t).now : Int) - (s.chan ch).syncDue) * 50 ∧ 3 ≤ (s.chan ch).videoMiss + 1) ∧
(∃ (s : State) (t : Nat) (ch : Fin 66), ((s.chan ch).capture.st = .armed ∨ (s.chan ch).capture.st = .capturing) ∧
    (s.chan ch).capture.ended (s.advance t).mt (s.advance t).now = true) ∧
(∃ (s : State) (t : Nat) (ch : Fin 66) (dIn : Int) (p1 : Nat) (p2 : Nat) (q1 : Nat) (q2 : Nat), s.chanLive ch = true ∧
    (s.chan ch).pairOk = false ∧ (s.chan ch).cal = .lin ∧ (s.advance t).past (s.chan ch).upAt (20 * usU) = true ∧
    pairFits p1 p2 = true ∧ pairFits q1 q2 = true) ∧
(∃ (s : State) (t : Nat) (ch : Fin 66) (p1 : Nat) (p2 : Nat), s.chanLive ch = true ∧ (s.chan ch).pairOk = true ∧ (s.chan
    ch).cal ≠ .failed ∧ pairFits p1 p2 = true) ∧
(∃ (s : State) (t : Nat) (ch : Fin 66) (hits : List Nat), s.chanLive ch = true ∧ hits.length = 768 ∧ 20 * ((hits.foldl
    (· + ·) 0 : Nat) - 2 ^ 20 : Int).natAbs ≤ 2 ^ 20 ∧ s.quietFaults = true) ∧
(∃ (s : State) (t : Nat) (ch : Fin 66) (p1 : Nat) (p2 : Nat), s.chanLive ch = true ∧ (s.chan ch).cal = .failed ∧
    (s.advance t).past (s.chan ch).upAt secU = true ∧ pairFits p1 p2 = true) :=
  ⟨⟨((((live).chanMod 2 fun y => { y with enable := true }).chanMod 2 fun y => { y with pairOk := true }).chanMod 2 fun y
    => { y with lastEdge := none }).chanMod 2 fun y => { y with lookback := [] }, 0, 2, {}, by decide⟩,
⟨(live).chanMod 2 fun x => { x with enable := true, lookback := [Stamp.init] }, secU, 2, Stamp.init, [], by decide⟩,
⟨(live).chanMod 2 fun y => { y with settling := true }, 400000 * secU, 2, by decide⟩,
⟨((live).chanMod 2 fun y => { y with mode := 2 }).chanMod 2 fun y => { y with video := .frameLock }, 0, 2, by decide⟩,
⟨(((live).chanMod 2 fun y => { y with mode := 2 }).chanMod 2 fun y => { y with video := .frameLock }).chanMod 2 fun x =>
    { x with videoMiss := 2 }, 0, 2, by decide⟩,
⟨(live).chanMod 2 fun x => { x with capture := { Capture.init with st := .capturing, duration := 1 } }, 2 * secU, 2, by
    decide⟩,
⟨(((live).chanMod 2 fun y => { y with pairOk := false }).chanMod 2 fun y => { y with cal := .lin }).chanMod 2 fun x =>
    { x with enable := true }, 400000 * secU, 2, 0, 8192, 417792, 8192, 417792, by decide⟩,
⟨((live).chanMod 2 fun y => { y with pairOk := true }).chanMod 2 fun x => { x with enable := true, cal := .lin }, 0, 2,
    8192, 417792, by decide⟩,
⟨(live).chanMod 2 fun x => { x with enable := true }, 0, 2, List.replicate 767 1365 ++ [1621], by decide⟩,
⟨((live).chanMod 2 fun y => { y with cal := .failed }).chanMod 2 fun x => { x with enable := true }, 400000 * secU, 2,
    8192, 417792, by decide⟩⟩

theorem test_witness_DeferredMeasurementsEnd :
(∃ (s : State) (t : Nat) (i : Fin 48) (v : Interval), (s.advance t).ivOf i = some v ∧ v.cur = none ∧ v.done = 0 ∧
    (s.advance t).past v.waitFrom (v.startWait * msU + lookU) = true) ∧
(∃ (s : State) (t : Nat) (i : Fin 48) (v : Interval) (x : Stamp), (s.advance t).ivOf i = some v ∧ v.cur = some x ∧
    v.stepped = false ∧ (s.advance t).windowShut v x = true ∧ v.done + 1 < v.attempts) ∧
(∃ (s : State) (t : Nat) (i : Fin 48) (g : FreqGate), (s.advance t).meas.freqs.find? (fun g => decide (g.tag = i)) =
    some g ∧ (g.start + g.gate * msU + lookU : Nat) ≤ ((s.advance t).mt : Int) - g.stepSum) :=
  ⟨⟨(live).onMeas fun x => { x with ivs := [Interval.init] }, 400000 * secU, 0, Interval.init, by decide⟩,
⟨(live).onMeas fun x => { x with ivs := [{ Interval.init with cur := some Stamp.init, attempts := 2 }] }, secU, 0,
    { Interval.init with cur := some Stamp.init, attempts := 2 }, Stamp.init, by decide⟩,
⟨(live).onMeas fun x => { x with freqs := [FreqGate.init] }, secU, 0, FreqGate.init, by decide⟩⟩

theorem test_witness_QualificationEvents :
(∃ (s : State) (t : Nat) (p : Nat) (a : Nat) (r : Fin 66), (s.advance t).actSpan r = some p ∧ ((s.advance t).cand
    r).lastAt = some a ∧ ((s.advance t).cand r).act = true ∧ a + p ≤ (s.advance t).now) ∧
(∃ (s : State) (t : Nat) (f : Nat) (r : Fin 66), ((s.advance t).cand r).condFrom = some f ∧ ((s.advance t).cand r).act =
    false ∧ ((s.advance t).cand r).st ≠ .off ∧ (s.advance t).actByCond r = true ∧ (s.advance t).actCond r = true ∧
    (s.advance t).past f secU = true) ∧
(∃ (s : State) (t : Nat) (f : Nat) (r : Fin 66), ((s.advance t).cand r).winFrom = some f ∧ (s.advance t).past f
    ((s.advance t).fmLen r) = true ∧ ((s.advance t).cand r).act = true ∧ (s.advance t).windowOk r = false) ∧
(∃ (s : State) (t : Nat) (f : Nat) (r : Fin 66), ((s.advance t).cand r).discFrom = some f ∧ ((s.advance t).cand
    r).phaseDisc = true ∧ ((s.advance t).cand r).act = true ∧ (s.advance t).past f (((s.advance t).cand r).holdS * secU)
    = true) ∧
(∃ (s : State) (t : Nat) (f : Nat) (r : Fin 66), ((s.advance t).cand r).gapFrom = some f ∧ f + 86400 * secU < (s.advance
    t).now) ∧
(∃ (s : State) (t : Nat) (f : Nat) (r : Fin 66), ((s.advance t).cand r).wtrFrom = some f ∧ ((s.advance t).cand r).st =
    .restoring ∧ (s.advance t).past f (((s.advance t).cand r).wtrTime * secU) = true) :=
  ⟨⟨(((live).candMod 2 fun y => { y with lastAt := some 0 }).candMod 2 fun y => { y with act := true }).candMod 2 fun x =>
    { x with num := 1, den := 1 }, 400000 * secU, ((((((live).candMod 2 fun y => { y with lastAt := some 0 }).candMod 2
    fun y => { y with act := true }).candMod 2 fun x => { x with num := 1, den := 1 }).advance (400000 * secU)).actSpan
    2).getD 0, 0, 2, by decide⟩,
⟨((((live).candMod 2 fun y => { y with condFrom := some 0 }).candMod 2 fun y => { y with act := false }).candMod 2 fun x
    => { x with st := .qualifying, act := false }).chanMod 2 fun x => { x with mode := 2, video := .frameLock }, 400000
    * secU, 0, 2, by decide⟩,
⟨((live).candMod 2 fun y => { y with winFrom := some 0 }).candMod 2 fun y => { y with act := true }, 400000 * secU, 0,
    2, by decide⟩,
⟨(((live).candMod 2 fun y => { y with discFrom := some 0 }).candMod 2 fun y => { y with phaseDisc := true }).candMod 2
    fun y => { y with act := true }, 400000 * secU, 0, 2, by decide⟩,
⟨(live).candMod 2 fun y => { y with gapFrom := some 0 }, 400000 * secU, 0, 2, by decide⟩,
⟨((live).candMod 2 fun y => { y with wtrFrom := some 0 }).candMod 2 fun y => { y with st := .restoring }, 400000 * secU,
    0, 2, by decide⟩⟩

theorem test_witness_SwitchAndLoopEvents :
(∃ (s : State) (t : Nat) (d : Fin 8) (r : Fin 66), (s.dpll d).evalDue = true ∧ (s.advance t).canEval d = true ∧ (s.dpll
    d).sw = .none ∧ (s.advance t).want d none = some r) ∧
(∃ (s : State) (t : Nat) (d : Fin 8), (s.dpll d).evalDue = true ∧ (s.advance t).canEval d = true ∧ (s.dpll d).sw = .none
    ∧ (s.advance t).want d none = none ∧ (s.dpll d).cur ≠ none) ∧
(∃ (s : State) (t : Nat) (d : Fin 8), (s.dpll d).evalDue = true ∧ (s.advance t).canEval d = true ∧ (s.dpll d).sw ≠
    .none) ∧
(∃ (s : State) (t : Nat) (d : Fin 8) (r : Fin 66) (o : Int), (s.dpll d).sw = .measure ∧ (s.dpll d).target = some r ∧
    (s.dpll d).swLost = false ∧ (s.advance t).measured d r = some o ∧ (s.advance t).past (s.dpll d).phFrom (64 * msU) =
    true) ∧
(∃ (s : State) (t : Nat) (d : Fin 8) (r : Fin 66), (s.dpll d).sw = .measure ∧ (s.dpll d).target = some r ∧ (s.dpll
    d).swLost = true ∧ (s.advance t).past (s.dpll d).phFrom (64 * msU) = true) ∧
(∃ (s : State) (t : Nat) (d : Fin 8), (s.dpll d).sw = .handover ∧ (s.dpll d).swLost = false ∧ s.pair.role ≠ .standby ∧
    (s.advance t).past (s.dpll d).phFrom msU = true) ∧
(∃ (s : State) (t : Nat) (d : Fin 8), (s.dpll d).sw = .settle ∧ (s.dpll d).offDue = false ∧ (∀ r, (s.dpll d).cur = some
    r → ((s.advance t).cand r).st ≠ .off) ∧ (s.advance t).past (s.dpll d).phFrom (10 * secU) = true) ∧
(∃ (s : State) (t : Nat) (d : Fin 8), (((s.advance t).dpll d).steering = true ∨ ((s.advance t).dpll d).slewing = true) ∧
    ((s.advance t).dpll d).buildOut = 0) ∧
(∃ (s : State) (t : Nat) (d : Fin 8), ((s.advance t).dpll d).pullLimited = true ∧ (s.dpll d).dstate = .locked ∧ ((s.dpll
    d).sw = .none ∨ (s.dpll d).sw = .settle) ∧ (s.advance t).past ((s.advance t).dpll d).pullFrom secU = true) ∧
(∃ (s : State) (t : Nat) (bw : Nat) (w : Nat) (d : Fin 8), ((s.advance t).dpll d).steps[((s.advance t).dpll d).stepIdx]?
    = some (bw, w) ∧ w * secU ≤ ((s.advance t).dpll d).dwell) :=
  ⟨⟨((((live).dpllMod 1 fun y => { y with evalDue := true }).dpllMod 1 fun y => { y with sw := .none }).dpllMod 1 fun x =>
    { x with dstate := .locked, use := Vector.replicate 66 { Use.init with use := true } }).candMod 2 fun x =>
    { x with st := .qualified }, 0, 1, 2, by decide⟩,
⟨((((live).dpllMod 1 fun y => { y with evalDue := true }).dpllMod 1 fun y => { y with sw := .none }).dpllMod 1 fun x =>
    { x with dstate := .locked }).dpllMod 1 fun x => { x with cur := some 2 }, 0, 1, by decide⟩,
⟨(((live).dpllMod 1 fun y => { y with evalDue := true }).dpllMod 1 fun x => { x with dstate := .locked }).dpllMod 1 fun
    x => { x with sw := .measure }, 0, 1, by decide⟩,
⟨((((live).dpllMod 1 fun y => { y with sw := .measure }).dpllMod 1 fun y => { y with target := some 2 }).dpllMod 1 fun y
    => { y with swLost := false }).dpllMod 1 fun x => { x with swSamples := [0] }, 400000 * secU, 1, 2,
    (((((((live).dpllMod 1 fun y => { y with sw := .measure }).dpllMod 1 fun y => { y with target := some 2 }).dpllMod 1
    fun y => { y with swLost := false }).dpllMod 1 fun x => { x with swSamples := [0] }).advance (400000 *
    secU)).measured 1 2).getD 0, by decide⟩,
⟨(((live).dpllMod 1 fun y => { y with sw := .measure }).dpllMod 1 fun y => { y with target := some 2 }).dpllMod 1 fun y
    => { y with swLost := true }, 400000 * secU, 1, 2, by decide⟩,
⟨((live).dpllMod 1 fun y => { y with sw := .handover }).dpllMod 1 fun y => { y with swLost := false }, 400000 * secU, 1,
    by decide⟩,
⟨((live).dpllMod 1 fun y => { y with sw := .settle }).dpllMod 1 fun y => { y with offDue := false }, 400000 * secU, 1,
    by decide⟩,
⟨((live).dpllMod 1 fun y => { y with buildOut := 0 }).dpllMod 1 fun x => { x with slewing := true }, 0, 1, by decide⟩,
⟨((live).dpllMod 1 fun y => { y with pullLimited := true }).dpllMod 1 fun y => { y with dstate := .locked }, 400000 *
    secU, 1, by decide⟩,
⟨(live).dpllMod 1 fun x => { x with steps := [(10, 0)], stepIdx := 0 }, 0, 10, 0, 1, by decide⟩⟩

theorem test_witness_LaneEvents :
(∃ (s : State) (t : Nat) (tx : Nat) (rx : Nat) (l : Fin 48), (s.lane l).lstate = .measuring ∧ (s.lane l).held = none ∧
    (s.advance t).past (s.lane l).measFrom (3500 * usU) = true) ∧
(∃ (s : State) (t : Nat) (l : Fin 48), (s.lane l).lstate = .down) ∧
(∃ (s : State) (t : Nat) (l : Fin 48), (s.lane l).lstate = .up) ∧
(∃ (s : State) (t : Nat) (tx : Nat) (l : Fin 48), s.loopbackBusy = false ∧ s.rolls = true ∧ (s.lane l).lstate = .up ∧
    (s.advance t).past (s.lane l).checkAt (600 * secU) = true ∧ ((tx : Int) - (s.lane l).txDelay).natAbs ≤ 50) ∧
(∃ (s : State) (t : Nat) (m : Nat) (l : Fin 48), (s.lane l).lstate = .up ∧ s.rolls = true) ∧
(∃ (s : State) (t : Nat) (l : Fin 48) (vlan : Option Nat) (ql : BitVec 4), (s.lane l).lstate = .up ∧ (s.lane l).tagOk
    vlan = true ∧ (s.lane l).esmcRx = true) ∧
(∃ (s : State) (t : Nat) (l : Fin 48), (s.lane l).esmcRx = true ∧ (s.lane l).esmcTimeout = false ∧ (s.advance t).past
    (s.lane l).esmcAt (5 * secU) = true) ∧
(∃ (s : State) (t : Nat) (l : Fin 48) (b : List (BitVec 8)) (q : List (List (BitVec 8))), (s.lane l).lstate = .up ∧
    (s.lane l).sendQ = b :: q) ∧
(∃ (s : State) (r : State) (t : Nat) (l : Fin 48) (h : MsgHdr) (b : List (BitVec 8)), ((s.advance t).promote l).receive
    l h = (r, true) ∧ (s.lane l).hostCopy = true ∧ s.ptp.hostQ.length < 32) ∧
(∃ (s : State) (t : Nat) (l : Fin 48) (vlan : Option Nat) (ans : Option Nat) (b : List (BitVec 8)), (s.lane l).lstate =
    .up ∧ (s.lane l).tagOk vlan = true) ∧
(∃ (s : State) (t : Nat) (a : Nat) (l : Fin 48) (vlan : Option Nat) (b : List (BitVec 8)), (s.lane l).lstate = .up ∧
    (s.lane l).tagOk vlan = true ∧ a ∈ (s.lane l).resolving) ∧
(∃ (s : State) (t : Nat) (l : Fin 48) (vlan : Option Nat) (b : List (BitVec 8)), (s.lane l).lstate = .up ∧ (s.lane
    l).tagOk vlan = true ∧ (s.lane l).hostCopy = true ∧ s.ptp.hostQ.length < 32) ∧
(∃ (s : State) (t : Nat) (l : Fin 48) (vlan : Option Nat), (s.lane l).lstate = .up ∧ (s.lane l).tagOk vlan = true) ∧
(∃ (s : State) (t : Nat) (l : Fin 48), (s.lane l).lstate = .up) :=
  ⟨⟨((live).laneMod 3 fun y => { y with lstate := .measuring }).laneMod 3 fun y => { y with held := none }, 400000 * secU,
    0, 0, 3, by decide⟩,
⟨(live).laneMod 3 fun y => { y with lstate := .down }, 0, 3, by decide⟩,
⟨(live).laneMod 3 fun y => { y with lstate := .up }, 0, 3, by decide⟩,
⟨(((live).laneMod 3 fun y => { y with lstate := .up }).onOut fun x =>
    { x with doms := Vector.replicate 8 { Domain.init with filling := false } }).laneMod 3 fun x =>
    { x with txDelay := 20 }, 400000 * secU, 70, 3, by decide⟩,
⟨(live).laneMod 3 fun y => { y with lstate := .up }, 0, 0, 3, by decide⟩,
⟨((live).laneMod 3 fun y => { y with lstate := .up }).laneMod 3 fun y => { y with esmcRx := true }, 0, 3, none, 5, by
    decide⟩,
⟨((live).laneMod 3 fun y => { y with esmcRx := true }).laneMod 3 fun y => { y with esmcTimeout := false }, 400000 *
    secU, 3, by decide⟩,
⟨((live).laneMod 3 fun y => { y with lstate := .up }).laneMod 3 fun y => { y with sendQ := ([1, 2]) :: ([]) }, 0, 3, [1,
    2], [], by decide⟩,
⟨((porting live)).laneMod 3 fun y => { y with hostCopy := true }, heard (((porting live)).laneMod 3 fun y =>
    { y with hostCopy := true }) {}, 0, 3, {}, [1, 2], Prod.ext rfl (by decide), by decide⟩,
⟨(live).laneMod 3 fun y => { y with lstate := .up }, 0, 3, none, none, [1, 2], by decide⟩,
⟨((live).laneMod 3 fun y => { y with lstate := .up }).laneMod 3 fun x => { x with resolving := [5] }, 0, 5, 3, none, [1,
    2], by decide⟩,
⟨((live).laneMod 3 fun y => { y with lstate := .up }).laneMod 3 fun y => { y with hostCopy := true }, 0, 3, none, [1,
    2], by decide⟩,
⟨(live).laneMod 3 fun y => { y with lstate := .up }, 0, 3, none, by decide⟩,
⟨(live).laneMod 3 fun y => { y with lstate := .up }, 0, 3, by decide⟩⟩

theorem test_witness_SyncAndDelayMessages :
(∃ (s : State) (r : State) (t : Nat) (origin : Nat) (l : Fin 48) (h : MsgHdr) (e : Stamp), ((s.advance t).promote
    l).receive l h = (r, true) ∧ r.unsolicited l h .sync = false ∧ (s.lane l).fromParent h = true ∧ s.evAt l h.rx = some
    e ∧ e.invalid = false) ∧
(∃ (s : State) (r : State) (t : Nat) (origin : Nat) (l : Fin 48) (h : MsgHdr) (e : Stamp), ((s.advance t).promote
    l).receive l h = (r, true) ∧ r.unsolicited l h .sync = false ∧ (s.lane l).fromParent h = true ∧ s.evAt l h.rx = some
    e ∧ e.invalid = false) ∧
(∃ (s : State) (r : State) (t : Nat) (origin : Nat) (l : Fin 48) (h : MsgHdr) (e : Stamp), ((s.advance t).promote
    l).receive l h = (r, true) ∧ r.unsolicited l h .sync = false ∧ (s.lane l).fromParent h = true ∧ (s.lane l).fu = some
    e ∧ (s.lane l).syncSeq = h.seq) ∧
(∃ (s : State) (r : State) (t : Nat) (t4 : Nat) (id : Nat) (port : Nat) (l : Fin 48) (h : MsgHdr) (a : Int) (b : Int),
    ((s.advance t).promote l).receive l h = (r, true) ∧ s.peer l = false ∧ (s.lane l).fromParent h = true ∧ s.answers l
    h id port = true ∧ (s.lane l).t1 = some a ∧ (s.lane l).t3 = some b) ∧
(∃ (s : State) (r : State) (t : Nat) (t2 : Nat) (id : Nat) (port : Nat) (l : Fin 48) (h : MsgHdr) (a : Int) (e : Stamp),
    ((s.advance t).promote l).receive l h = (r, true) ∧ s.peer l = true ∧ s.answers l h id port = true ∧ (s.lane l).t3 =
    some a ∧ s.evAt l h.rx = some e ∧ e.invalid = false) ∧
(∃ (s : State) (r : State) (t : Nat) (t3 : Nat) (id : Nat) (port : Nat) (l : Fin 48) (h : MsgHdr) (a : Int) (b : Int),
    ((s.advance t).promote l).receive l h = (r, true) ∧ s.peer l = true ∧ s.answers l h id port = true ∧ (s.lane l).t3 =
    some a ∧ (s.lane l).pdT4 = some b) ∧
(∃ (s : State) (r : State) (t : Nat) (l : Fin 48) (h : MsgHdr) (e : Stamp), ((s.advance t).promote l).receive l h = (r,
    true) ∧ s.peer l = false ∧ (s.lane l).pstate = 6 ∧ h.unicast = false ∧ r.suspended l = false ∧ r.ptp.clients = [] ∧
    s.evAt l h.rx = some e ∧ e.invalid = false) ∧
(∃ (s : State) (r : State) (t : Nat) (l : Fin 48) (h : MsgHdr) (e : Stamp), ((s.advance t).promote l).receive l h = (r,
    true) ∧ s.peer l = true ∧ r.suspended l = false ∧ (s.lane l).twoStep = false ∧ s.evAt l h.rx = some e ∧ e.invalid =
    false) ∧
(∃ (s : State) (r : State) (t : Nat) (l : Fin 48) (h : MsgHdr) (e : Stamp), ((s.advance t).promote l).receive l h = (r,
    true) ∧ s.peer l = true ∧ r.suspended l = false ∧ (s.lane l).twoStep = true ∧ s.evAt l h.rx = some e ∧ e.invalid =
    false) :=
  ⟨⟨(((porting live)).laneMod 3 fun x => { x with pstate := 9, parentId := 0, parentPort := 1 }).laneMod 3 fun x =>
    { x with evs := [Stamp.init] }, heard ((((porting live)).laneMod 3 fun x =>
    { x with pstate := 9, parentId := 0, parentPort := 1 }).laneMod 3 fun x => { x with evs := [Stamp.init] }) {}, 0, 0,
    3, {}, Stamp.init, Prod.ext rfl (by decide), by decide⟩,
⟨(((porting live)).laneMod 3 fun x => { x with pstate := 9, parentId := 0, parentPort := 1 }).laneMod 3 fun x =>
    { x with evs := [Stamp.init] }, heard ((((porting live)).laneMod 3 fun x =>
    { x with pstate := 9, parentId := 0, parentPort := 1 }).laneMod 3 fun x => { x with evs := [Stamp.init] }) {}, 0, 0,
    3, {}, Stamp.init, Prod.ext rfl (by decide), by decide⟩,
⟨(((((porting live)).laneMod 3 fun y => { y with fu := some Stamp.init }).laneMod 3 fun y =>
    { y with syncSeq := ({} : MsgHdr).seq }).laneMod 3 fun x =>
    { x with pstate := 9, parentId := 0, parentPort := 1 }).laneMod 3 fun x => { x with fu := some Stamp.init }, heard
    ((((((porting live)).laneMod 3 fun y => { y with fu := some Stamp.init }).laneMod 3 fun y =>
    { y with syncSeq := ({} : MsgHdr).seq }).laneMod 3 fun x =>
    { x with pstate := 9, parentId := 0, parentPort := 1 }).laneMod 3 fun x => { x with fu := some Stamp.init }) {}, 0,
    0, 3, {}, Stamp.init, Prod.ext rfl (by decide), by decide⟩,
⟨((((porting live)).laneMod 3 fun y => { y with t1 := some 0 }).laneMod 3 fun y => { y with t3 := some 0 }).laneMod 3
    fun x => { x with pstate := 9, parentId := 0, parentPort := 1 }, heard (((((porting live)).laneMod 3 fun y =>
    { y with t1 := some 0 }).laneMod 3 fun y => { y with t3 := some 0 }).laneMod 3 fun x =>
    { x with pstate := 9, parentId := 0, parentPort := 1 }) {}, 0, 0, 9, 4, 3, {}, 0, 0, Prod.ext rfl (by decide), by
    decide⟩,
⟨((((porting live)).laneMod 3 fun y => { y with t3 := some 0 }).onPtp fun p => { p with profile := 1 }).laneMod 3 fun x
    => { x with evs := [Stamp.init] }, heard (((((porting live)).laneMod 3 fun y => { y with t3 := some 0 }).onPtp fun p
    => { p with profile := 1 }).laneMod 3 fun x => { x with evs := [Stamp.init] }) {}, 0, 0, 9, 4, 3, {}, 0, Stamp.init,
    Prod.ext rfl (by decide), by decide⟩,
⟨((((porting live)).laneMod 3 fun y => { y with t3 := some 0 }).laneMod 3 fun y => { y with pdT4 := some 0 }).onPtp fun
    p => { p with profile := 1 }, heard (((((porting live)).laneMod 3 fun y => { y with t3 := some 0 }).laneMod 3 fun y
    => { y with pdT4 := some 0 }).onPtp fun p => { p with profile := 1 }) {}, 0, 0, 9, 4, 3, {}, 0, 0, Prod.ext rfl (by
    decide), by decide⟩,
⟨((((porting live)).laneMod 3 fun y => { y with pstate := 6 }).onPtp fun p => { p with clients := [] }).laneMod 3 fun x
    => { x with evs := [Stamp.init] }, heard (((((porting live)).laneMod 3 fun y => { y with pstate := 6 }).onPtp fun p
    => { p with clients := [] }).laneMod 3 fun x => { x with evs := [Stamp.init] }) {}, 0, 3, {}, Stamp.init, Prod.ext
    rfl (by decide), by decide⟩,
⟨((((porting live)).laneMod 3 fun y => { y with twoStep := false }).onPtp fun p => { p with profile := 1 }).laneMod 3
    fun x => { x with evs := [Stamp.init] }, heard (((((porting live)).laneMod 3 fun y =>
    { y with twoStep := false }).onPtp fun p => { p with profile := 1 }).laneMod 3 fun x =>
    { x with evs := [Stamp.init] }) {}, 0, 3, {}, Stamp.init, Prod.ext rfl (by decide), by decide⟩,
⟨((((porting live)).laneMod 3 fun y => { y with twoStep := true }).onPtp fun p => { p with profile := 1 }).laneMod 3 fun
    x => { x with evs := [Stamp.init] }, heard (((((porting live)).laneMod 3 fun y => { y with twoStep := true }).onPtp
    fun p => { p with profile := 1 }).laneMod 3 fun x => { x with evs := [Stamp.init] }) {}, 0, 3, {}, Stamp.init,
    Prod.ext rfl (by decide), by decide⟩⟩

theorem test_witness_AnnounceMessages :
(∃ (s : State) (r : State) (t : Nat) (l : Fin 48) (h : MsgHdr) (a : AnnData), ((s.advance t).promote l).receive l h =
    (r, true) ∧ h.id = s.ptp.clockId) ∧
(∃ (s : State) (r : State) (t : Nat) (l : Fin 48) (h : MsgHdr) (a : AnnData), ((s.advance t).promote l).receive l h =
    (r, true) ∧ h.id ≠ s.ptp.clockId ∧ (s.lane l).acceptN = 0 ∧ h.unicast = false ∧ (s.lane l).role ≠ 2 ∧ (s.lane
    l).foreign = [] ∧ 0 < (s.lane l).fmMax) ∧
(∃ (s : State) (t : Nat) (l : Fin 48) (f : Foreign), (s.lane l).foreign = [f] ∧ (s.advance t).past f.last (4 * logU
    s.ptp.annLog) = true) ∧
(∃ (s : State) (t : Nat) (l : Fin 48), s.portUp l = true ∧ (s.lane l).pstate = 9 ∧ (s.lane l).role = 3 ∧ (s.lane
    l).foreign = [] ∧ (s.advance t).past (s.lane l).annAt (s.ptp.annTimeout * logU s.ptp.annLog) = true) ∧
(∃ (s : State) (t : Nat) (l : Fin 48), s.portUp l = true ∧ (s.lane l).pstate = 4 ∧ (s.lane l).role ≠ 3 ∧ (s.lane
    l).foreign = [] ∧ (s.advance t).past (s.lane l).annAt (s.ptp.annTimeout * logU s.ptp.annLog) = true) ∧
(∃ (s : State) (t : Nat) (l : Fin 48), (s.lane l).timeAct = true ∧ (s.advance t).timeActNow l = false) :=
  ⟨⟨((porting live)).onPtp fun p => { p with clockId := 0 }, heard (((porting live)).onPtp fun p =>
    { p with clockId := 0 }) {}, 0, 3, {}, {}, Prod.ext rfl (by decide), by decide⟩,
⟨((((porting live)).laneMod 3 fun y => { y with acceptN := 0 }).laneMod 3 fun y => { y with foreign := [] }).laneMod 3
    fun x => { x with fmMax := 1 }, heard (((((porting live)).laneMod 3 fun y => { y with acceptN := 0 }).laneMod 3 fun
    y => { y with foreign := [] }).laneMod 3 fun x => { x with fmMax := 1 }) {}, 0, 3, {}, {}, Prod.ext rfl (by decide),
    by decide⟩,
⟨(live).laneMod 3 fun y => { y with foreign := [Foreign.init] }, 400000 * secU, 3, Foreign.init, by decide⟩,
⟨((((porting live)).laneMod 3 fun y => { y with pstate := 9 }).laneMod 3 fun y => { y with role := 3 }).laneMod 3 fun y
    => { y with foreign := [] }, 400000 * secU, 3, by decide⟩,
⟨(((porting live)).laneMod 3 fun y => { y with pstate := 4 }).laneMod 3 fun y => { y with foreign := [] }, 400000 *
    secU, 3, by decide⟩,
⟨(live).laneMod 3 fun y => { y with timeAct := true }, 0, 3, by decide⟩⟩

theorem test_witness_UnicastNegotiation :
(∃ (s : State) (r : State) (t : Nat) (dur : Nat) (l : Fin 48) (h : MsgHdr) (k : GrantKind) (lg : Int), ((s.advance
    t).promote l).receive l h = (r, true) ∧ r.lapseAll.denies l h k lg = true) ∧
(∃ (s : State) (r : State) (t : Nat) (dur : Nat) (l : Fin 48) (h : MsgHdr) (k : GrantKind) (lg : Int), ((s.advance
    t).promote l).receive l h = (r, true) ∧ r.lapseAll.denies l h k lg = false) ∧
(∃ (s : State) (r : State) (t : Nat) (l : Fin 48) (h : MsgHdr) (k : GrantKind), ((s.advance t).promote l).receive l h =
    (r, true)) ∧
(∃ (s : State) (r : State) (t : Nat) (l : Fin 48) (h : MsgHdr) (k : GrantKind), ((s.advance t).promote l).receive l h =
    (r, true)) ∧
(∃ (s : State) (r : State) (t : Nat) (dur : Nat) (m : Nat) (l : Fin 48) (h : MsgHdr) (k : GrantKind) (lg : Int),
    ((s.advance t).promote l).receive l h = (r, true) ∧ (s.lane l).umOf h.addr = some m ∧ dur ≠ 0) ∧
(∃ (s : State) (t : Nat) (slot : Nat) (k : GrantKind) (c : Client), s.ptp.clients = [c] ∧ c.slot = slot ∧ (c.grant k).on
    = true ∧ (c.grant k).endsAt ≤ (s.advance t).now) :=
  ⟨⟨(porting live), heard ((porting live)) {}, 0, 0, 3, {}, .ann, 0, Prod.ext rfl (by decide), by decide⟩,
⟨((porting live)).laneMod 3 fun x => { x with unicast := true, pstate := 6, minLog := -7, maxClients := 8 }, heard
    (((porting live)).laneMod 3 fun x => { x with unicast := true, pstate := 6, minLog := -7, maxClients := 8 }) {}, 0,
    0, 3, {}, .ann, 0, Prod.ext rfl (by decide), by decide⟩,
⟨(porting live), heard ((porting live)) {}, 0, 3, {}, .ann, Prod.ext rfl (by decide)⟩,
⟨(porting live), heard ((porting live)) {}, 0, 3, {}, .ann, Prod.ext rfl (by decide)⟩,
⟨((porting live)).laneMod 3 fun x => { x with unicast := true, umN := 1, masters := [0] }, heard (((porting
    live)).laneMod 3 fun x => { x with unicast := true, umN := 1, masters := [0] }) {}, 0, 1, 0, 3, {}, .ann, 0,
    Prod.ext rfl (by decide), by decide⟩,
⟨((live).onPtp fun y => { y with clients := [({ Client.init with ann := { Client.init.ann with on := true } })] }).onPtp
    fun p => { p with clients := [{ Client.init with ann := { Client.init.ann with on := true } }] }, 0, 0, .ann,
    { Client.init with ann := { Client.init.ann with on := true } }, by decide⟩⟩

theorem test_witness_PortsSendAtTheirIntervals :
(∃ (s : State) (t : Nat) (l : Fin 48), s.portUp l = true ∧ (s.lane l).pstate = 6 ∧ (s.advance t).syncHeld l = false ∧
    (s.lane l).multicast = true ∧ (s.advance t).past (s.lane l).lastSync (logU s.ptp.syncLog) = true) ∧
(∃ (s : State) (t : Nat) (l : Fin 48), s.portUp l = true ∧ (s.lane l).pstate = 6 ∧ s.portQuiet l = false ∧ (s.lane
    l).multicast = true ∧ (s.advance t).past (s.lane l).lastAnn (logU s.ptp.annLog) = true) ∧
(∃ (s : State) (t : Nat) (l : Fin 48), s.portUp l = true ∧ s.peer l = false ∧ (s.lane l).pstate = 9 ∧ (s.advance t).past
    (s.lane l).lastReq (logU s.ptp.delayLog) = true ∧ (s.advance t).delayAllowed l = true) ∧
(∃ (s : State) (t : Nat) (l : Fin 48), s.portUp l = true ∧ s.peer l = true ∧ (s.advance t).past (s.lane l).lastReq (logU
    s.ptp.delayLog) = true) ∧
(∃ (s : State) (t : Nat) (l : Fin 48) (m : Fin 2) (k : GrantKind), s.portUp l = true ∧ m.val < (s.lane l).umUsed ∧
    (s.lane l).umGrant = [] ∧ (s.lane l).umRetry = [] ∧ (s.lane l).transport = 0) ∧
(∃ (s : State) (t : Nat) (l : Fin 48) (m : Fin 2) (k : GrantKind), s.portUp l = true ∧ m.val < (s.lane l).umUsed ∧
    (s.lane l).umGrant = [] ∧ (s.lane l).umRetry = [] ∧ (s.lane l).transport ≠ 0 ∧ (s.lane l).masters.getD m.val 0 ∉
    (s.lane l).resolved) ∧
(∃ (s : State) (t : Nat) (f : Nat) (l : Fin 48) (m : Fin 2) (k : GrantKind), s.portUp l = true ∧ m.val < (s.lane
    l).umUsed ∧ (s.lane l).umRetry = [(umKey m.val k, f)] ∧ (s.advance t).past f (16 * secU) = true ∧ (s.lane
    l).transport ≠ 0 ∧ (s.lane l).masters.getD m.val 0 ∈ (s.lane l).resolved) ∧
(∃ (s : State) (t : Nat) (l : Fin 48), s.portUp l = true ∧ s.ptp.profile = 2 ∧ s.ptp.smEn = true ∧ (s.lane l).pstate = 6
    ∧ (s.advance t).past (s.lane l).lastMeta (logU s.ptp.smLog) = true) ∧
(∃ (s : State) (t : Nat) (l : Fin 48), (s.lane l).lstate = .up ∧ (s.lane l).esmcTx = true ∧ (s.advance t).past (s.lane
    l).esmcSent secU = true) :=
  ⟨⟨(((porting live)).laneMod 3 fun y => { y with pstate := 6 }).laneMod 3 fun y => { y with multicast := true }, 400000 *
    secU, 3, by decide⟩,
⟨(((porting live)).laneMod 3 fun y => { y with pstate := 6 }).laneMod 3 fun y => { y with multicast := true }, 400000 *
    secU, 3, by decide⟩,
⟨((porting live)).laneMod 3 fun y => { y with pstate := 9 }, 400000 * secU, 3, by decide⟩,
⟨((porting live)).onPtp fun p => { p with profile := 1 }, 400000 * secU, 3, by decide⟩,
⟨(((((porting live)).laneMod 3 fun y => { y with umGrant := [] }).laneMod 3 fun y => { y with umRetry := [] }).laneMod 3
    fun y => { y with transport := 0 }).laneMod 3 fun x =>
    { x with unicast := true, umN := 1, masters := [0], umGrant := [], umRetry := [] }, 0, 3, 0, .ann, by decide⟩,
⟨(((((porting live)).laneMod 3 fun y => { y with umGrant := [] }).laneMod 3 fun y => { y with umRetry := [] }).laneMod 3
    fun x => { x with unicast := true, umN := 1, masters := [0], umGrant := [], umRetry := [] }).laneMod 3 fun x =>
    { x with transport := 1, resolved := [] }, 0, 3, 0, .ann, by decide⟩,
⟨((((porting live)).laneMod 3 fun y => { y with umRetry := [(umKey (0 : Fin 2).val .ann, 0)] }).laneMod 3 fun x =>
    { x with unicast := true, umN := 1, masters := [0], umGrant := [], umRetry := [(umKey 0 .ann, 0)] }).laneMod 3 fun x
    => { x with transport := 1, resolved := [0] }, 400000 * secU, 0, 3, 0, .ann, by decide⟩,
⟨((((porting live)).onPtp fun y => { y with profile := 2 }).onPtp fun y => { y with smEn := true }).laneMod 3 fun y =>
    { y with pstate := 6 }, 400000 * secU, 3, by decide⟩,
⟨((live).laneMod 3 fun y => { y with lstate := .up }).laneMod 3 fun y => { y with esmcTx := true }, 400000 * secU, 3, by
    decide⟩⟩

theorem test_witness_ReceiverEvents :
(∃ (s : State) (t : Nat) (g : GroupDelay), s.gnss.rstate = .start) ∧
(∃ (s : State) (t : Nat) (x : GnssTrack), s.gnss.rstate = .search ∧ (s.advance t).gnssSweep.canTrack x = true) ∧
(∃ (s : State) (t : Nat) (x : GnssTrack) (b : Bool), x.l5 = false ∧ x.sat.l1ca = false ∧ s.gnss.caFound = true ∧
    (s.advance t).gnssSweep.l1Recent x.sat = false ∧ ((s.advance t).gnssSweep.knowsTime && (s.advance
    t).gnssSweep.gnss.knowsPos) = false ∧ x ∉ s.gnss.tracks) ∧
(∃ (s : State) (t : Nat) (x : GnssTrack) (b : Bool), x.l5 = true ∧ s.gnss.hasL1 x.sat = false ∧ (s.advance t).l1Recent
    x.sat = false) ∧
(∃ (s : State) (t : Nat) (x : GnssTrack), x ∈ s.gnss.tracks) ∧
(∃ (s : State) (t : Nat) (f : Nat), s.gnss.rstate = .timing ∧ s.gnss.lostFrom = some f ∧ (s.advance t).past f (10 *
    secU) = true) ∧
(∃ (s : State) (t : Nat) (m : MarkIn), s.gnss.rstate = .search) ∧
(∃ (s : State) (t : Nat), s.gnss.spoof = true ∧ s.gnss.latch = false ∧ s.gnss.clearTime < s.gnss.clean) ∧
(∃ (s : State) (t : Nat), s.gnss.rstate = .search ∧ s.flt.recs = [] ∧ s.quietFaults = true) ∧
(∃ (s : State) (t : Nat) (ma : Nat), s.gnss.supervised = true ∧ s.gnss.biasOn = true ∧ ma < 2 ∧ s.gnss.ant ≠ .antOpen) ∧
(∃ (s : State) (t : Nat), s.gnss.supervised = true ∧ s.gnss.biasOn = true ∧ s.gnss.ant ≠ .short) ∧
(∃ (s : State) (t : Nat), s.gnss.supervised = true ∧ s.gnss.ant = .short ∧ s.gnss.biasOn = true ∧ (s.advance t).past
    s.gnss.antFrom (10 * msU) = true) ∧
(∃ (s : State) (t : Nat) (b : Bool), s.gnss.supervised = true ∧ s.gnss.ant = .short ∧ s.gnss.biasOn = false ∧ (s.advance
    t).past s.gnss.antFrom secU = true) ∧
(∃ (s : State) (t : Nat) (ma : Nat), s.gnss.supervised = true ∧ s.gnss.biasOn = true ∧ 2 ≤ ma ∧ ma ≤ 100) ∧
(∃ (s : State) (t : Nat) (v : Survey), s.gnss.survey = some v ∧ (s.advance t).past v.from_ (v.duration * secU) = true ∧
    v.n < 60) ∧
(∃ (s : State) (t : Nat) (v : Survey), s.gnss.survey = some v ∧ (s.advance t).past v.from_ (v.duration * secU) = true ∧
    60 ≤ v.n) ∧
(∃ (s : State) (t : Nat) (i : Fin 48) (k : Int), s.gnss.snap.capTag = some i ∧ (s.advance t).captureOver = true) ∧
(∃ (s : State) (t : Nat) (i : Fin 48) (f : Fix), s.gnss.snap.procTag = some i ∧ (s.advance t).now ≤ s.gnss.snap.procFrom
    + 20 * secU) ∧
(∃ (s : State) (t : Nat) (i : Fin 48), s.gnss.snap.procTag = some i ∧ (s.advance t).now ≤ s.gnss.snap.procFrom + 20 *
    secU) ∧
(∃ (s : State) (t : Nat) (i : Fin 48) (f : Option Fix), s.gnss.snap.procTag = some i ∧ s.gnss.snap.procFrom + 20 * secU
    < (s.advance t).now) :=
  ⟨⟨(live).onGnss fun y => { y with rstate := .start }, 0, { l1 := 0, l5 := 0 }, by decide⟩,
⟨((live).onGnss fun y => { y with rstate := .search }).onGnss fun x => { x with const := 15, bands := 3, tracks := [] },
    0, { sat := { const := 0, sv := 1 } }, by decide⟩,
⟨((live).onGnss fun y => { y with caFound := true }).onGnss fun x => { x with l1Gone := [] }, 0,
    { sat := { const := 1, sv := 1 } }, false, by decide⟩,
⟨(live).onGnss fun x => { x with l1Gone := [], tracks := [] }, 0, { sat := { const := 0, sv := 1 }, l5 := true }, false,
    by decide⟩,
⟨(live).onGnss fun x => { x with tracks := [{ sat := { const := 0, sv := 1 } }] }, 0,
    { sat := { const := 0, sv := 1 } }, by decide⟩,
⟨((live).onGnss fun y => { y with rstate := .timing }).onGnss fun y => { y with lostFrom := some 0 }, 400000 * secU, 0,
    by decide⟩,
⟨(live).onGnss fun y => { y with rstate := .search }, 0, {}, by decide⟩,
⟨(((live).onGnss fun y => { y with spoof := true }).onGnss fun y => { y with latch := false }).onGnss fun x =>
    { x with clean := x.clearTime + 1 }, 0, by decide⟩,
⟨((live).onGnss fun y => { y with rstate := .search }).onFlt fun y => { y with recs := [] }, 0, by decide⟩,
⟨((live).onGnss fun y => { y with biasOn := true }).onGnss fun x =>
    { x with en := true, biasEn := true, biasOn := true, ant := .normal }, 0, 1, by decide⟩,
⟨((live).onGnss fun y => { y with biasOn := true }).onGnss fun x =>
    { x with en := true, biasEn := true, biasOn := true, ant := .normal }, 0, by decide⟩,
⟨(((live).onGnss fun y => { y with ant := .short }).onGnss fun y => { y with biasOn := true }).onGnss fun x =>
    { x with en := true, biasEn := true }, 400000 * secU, by decide⟩,
⟨(((live).onGnss fun y => { y with ant := .short }).onGnss fun y => { y with biasOn := false }).onGnss fun x =>
    { x with en := true, biasEn := true }, 400000 * secU, false, by decide⟩,
⟨((live).onGnss fun y => { y with biasOn := true }).onGnss fun x =>
    { x with en := true, biasEn := true, biasOn := true, ant := .normal }, 0, 2, by decide⟩,
⟨(live).onGnss fun y => { y with survey := some Survey.init }, 400000 * secU, Survey.init, by decide⟩,
⟨((live).onGnss fun y => { y with survey := some ({ Survey.init with n := 60 }) }).onGnss fun x =>
    { x with survey := some { Survey.init with n := 60 } }, 400000 * secU, { Survey.init with n := 60 }, by decide⟩,
⟨(live).onGnss fun x => { x with snap := { x.snap with capTag := some 3, capLen := 1 } }, secU, 3, 0, by decide⟩,
⟨(live).onGnss fun x => { x with snap := { x.snap with procTag := some 3 } }, 0, 3, {}, by decide⟩,
⟨(live).onGnss fun x => { x with snap := { x.snap with procTag := some 3 } }, 0, 3, by decide⟩,
⟨(live).onGnss fun x => { x with snap := { x.snap with procTag := some 3 } }, 30 * secU, 3, none, by decide⟩⟩

theorem test_witness_InterlockAndClaims :
(∃ (s : State) (t : Nat), s.pair.ilkIn = false ∧ s.pair.role = .init ∧ s.sys.mstate ≠ .faultHold) ∧
(∃ (s : State) (t : Nat), s.pair.ilkIn = true ∧ s.pair.role = .claiming) ∧
(∃ (s : State) (t : Nat) (f : Nat), s.pair.bothFrom = some f ∧ s.pair.en = true ∧ f + usU < (s.advance t).now ∧
    s.sys.slotB = true ∧ s.quietFaults = true) ∧
(∃ (s : State) (t : Nat) (f : Nat), s.pair.bothFrom = some f ∧ s.pair.en = true ∧ f + usU < (s.advance t).now ∧
    s.sys.slotB = false) ∧
(∃ (s : State) (t : Nat) (f : Nat), s.pair.claimFirst = some f ∧ (s.advance t).past f (50 * usU) = true ∧ s.pair.ilkIn =
    false ∧ s.pair.slotConflict = false ∧ s.sys.mstate ≠ .faultHold ∧ s.pair.en = true) ∧
(∃ (s : State) (t : Nat) (f : Nat), s.pair.claimFirst = some f ∧ (s.advance t).past f (50 * usU) = true ∧ s.pair.ilkIn =
    true) ∧
(∃ (s : State) (t : Nat) (f : Nat), s.pair.role = .standby ∧ s.pair.ilkIn = false ∧ (s.advance t).past s.pair.ilkInFrom
    (50 * usU) = true ∧ s.pair.frameAt = some f ∧ s.pair.ilkInFrom ≤ f ∧ s.pair.partner.ilkOut = false ∧ s.pair.en =
    true ∧ s.pair.slotConflict = false ∧ s.sys.mstate ≠ .faultHold ∧ s.pair.claimFirst = none ∧ s.sys.slotB = false) ∧
(∃ (s : State) (t : Nat), s.pair.role = .init ∧ s.pair.ilkIn = false ∧ s.pair.frameAt = none ∧ s.pair.pinAt = none ∧
    (s.advance t).past s.pair.enFrom (s.pair.initWait * msU) = true ∧ s.pair.en = true ∧ s.pair.slotConflict = false ∧
    s.sys.mstate ≠ .faultHold ∧ s.pair.claimFirst = none ∧ s.sys.slotB = true) ∧
(∃ (s : State) (t : Nat), s.pair.alive = true ∧ (s.advance t).past (max (s.pair.frameAt.getD 0) (s.pair.pinAt.getD 0))
    silentU = true ∧ s.pair.role = .active) :=
  ⟨⟨((live).onPair fun y => { y with ilkIn := false }).onPair fun y => { y with role := .init }, 0, by decide⟩,
⟨((live).onPair fun y => { y with ilkIn := true }).onPair fun y => { y with role := .claiming }, 0, by decide⟩,
⟨(((live).onPair fun y => { y with bothFrom := some 0 }).onPair fun y => { y with en := true }).onSys fun y =>
    { y with slotB := true }, secU, 0, by decide⟩,
⟨(((live).onPair fun y => { y with bothFrom := some 0 }).onPair fun y => { y with en := true }).onSys fun y =>
    { y with slotB := false }, secU, 0, by decide⟩,
⟨((((live).onPair fun y => { y with claimFirst := some 0 }).onPair fun y => { y with ilkIn := false }).onPair fun y =>
    { y with slotConflict := false }).onPair fun y => { y with en := true }, 400000 * secU, 0, by decide⟩,
⟨((live).onPair fun y => { y with claimFirst := some 0 }).onPair fun y => { y with ilkIn := true }, 400000 * secU, 0, by
    decide⟩,
⟨(((((((live).onPair fun y => { y with role := .standby }).onPair fun y => { y with ilkIn := false }).onPair fun y =>
    { y with frameAt := some 0 }).onPair fun y => { y with en := true }).onPair fun y =>
    { y with slotConflict := false }).onPair fun y => { y with claimFirst := none }).onSys fun y =>
    { y with slotB := false }, 400000 * secU, 0, by decide⟩,
⟨((((((((live).onPair fun y => { y with role := .init }).onPair fun y => { y with ilkIn := false }).onPair fun y =>
    { y with frameAt := none }).onPair fun y => { y with pinAt := none }).onPair fun y => { y with en := true }).onPair
    fun y => { y with slotConflict := false }).onPair fun y => { y with claimFirst := none }).onSys fun y =>
    { y with slotB := true }, 400000 * secU, by decide⟩,
⟨((live).onPair fun y => { y with alive := true }).onPair fun y => { y with role := .active }, 400000 * secU, by decide⟩⟩

theorem test_witness_HeartbeatAndHandover :
(∃ (s : State) (t : Nat), s.pair.en = true ∧ s.pair.measured = true ∧ (s.advance t).past s.pair.hbTxAt msU = true) ∧
(∃ (s : State) (t : Nat) (f : HbFrame) (e : Stamp), s.pair.en = true ∧ s.pair.measured = true ∧ s.pair.hoDone = false ∧
    s.pair.role = .standby ∧ f.slotB ≠ s.sys.slotB ∧ (s.pair.evs.find? fun x => x.latch = f.rx) = some e) ∧
(∃ (s : State) (t : Nat), s.pair.en = true) ∧
(∃ (s : State) (t : Nat) (f : Nat), s.pair.bothOkFrom = some f ∧ s.pair.pathFault = true ∧ (s.advance t).past f secU =
    true ∧ (s.advance t).pathOk s.pair.frameAt = true ∧ (s.advance t).pathOk s.pair.pinAt = true) ∧
(∃ (s : State) (t : Nat) (p : Nat), s.pair.en = true ∧ s.pair.alive = true ∧ s.pair.pathFault = false ∧ s.pair.frameAt =
    some p ∧ (s.advance t).past p silentU = true ∧ (s.advance t).pathOk s.pair.frameAt = false ∧ (s.advance t).pathOk
    s.pair.pinAt = true ∧ s.quietFaults = true) ∧
(∃ (s : State) (t : Nat) (f : Nat), s.pair.ilkDisFrom = some f ∧ s.pair.alive = true ∧ s.pair.ilkFault = false ∧
    (s.advance t).past f (10 * msU) = true ∧ s.quietFaults = true) ∧
(∃ (s : State) (t : Nat) (tx : Nat) (rx : Nat), s.pair.en = true ∧ s.pair.measured = false ∧ (s.advance t).past
    s.pair.measFrom (3500 * usU) = true) ∧
(∃ (s : State) (t : Nat), s.pair.role = .active ∧ s.pair.measured = true ∧ (s.advance t).past s.pair.snapTxAt (100 *
    msU) = true) ∧
(∃ (s : State) (t : Nat) (seq : Nat) (n : Nat) (i : Fin 16) (b : List (BitVec 8)), s.pair.en = true ∧ s.pair.measured =
    true ∧ s.pair.role ≠ .active ∧ s.pair.asmSeq = seq) ∧
(∃ (s : State) (t : Nat) (seq : Nat) (n : Nat) (d : List (BitVec 8)) (c : SnapIn), s.pair.en = true ∧ s.pair.measured =
    true ∧ s.pair.role ≠ .active ∧ s.pair.asmSeq = seq ∧ 1 ≤ n ∧ n ≤ 16 ∧ s.pair.assembled n = some d) ∧
(∃ (s : State) (t : Nat) (seq : Nat) (n : Nat) (w : Word) (c : SnapIn), s.pair.en = true ∧ s.pair.measured = true ∧
    s.pair.role ≠ .active ∧ (∀ d, s.pair.assembled n = some d → crc32c d ≠ w)) ∧
(∃ (s : State) (t : Nat) (h : Nat), s.pair.hoT = some h ∧ s.pair.hoAccepted = true ∧ h ≤ (s.advance t).msec ∧
    s.pair.role = .active ∧ s.pair.hoPropose = true ∧ s.pair.hoDone = false) ∧
(∃ (s : State) (t : Nat) (i : Fin 48), s.pair.hoTag = some i ∧ s.pair.hoAccepted = false ∧ s.pair.hoDone = false ∧
    (s.advance t).past s.pair.hoFrom (10 * msU) = true) :=
  ⟨⟨((live).onPair fun y => { y with en := true }).onPair fun y => { y with measured := true }, 400000 * secU, by decide⟩,
⟨(((((live).onPair fun y => { y with en := true }).onPair fun y => { y with measured := true }).onPair fun y =>
    { y with hoDone := false }).onPair fun y => { y with role := .standby }).onPair fun x =>
    { x with evs := [Stamp.init] }, 0, { slotB := true }, Stamp.init, by decide⟩,
⟨(live).onPair fun y => { y with en := true }, 0, by decide⟩,
⟨(((live).onPair fun y => { y with bothOkFrom := some 0 }).onPair fun y => { y with pathFault := true }).onPair fun x =>
    { x with frameAt := some (2 * secU), pinAt := some (2 * secU) }, 2 * secU, 0, by decide⟩,
⟨(((((live).onPair fun y => { y with en := true }).onPair fun y => { y with alive := true }).onPair fun y =>
    { y with pathFault := false }).onPair fun y => { y with frameAt := some 0 }).onPair fun x =>
    { x with pinAt := some (2 * secU) }, 2 * secU, 0, by decide⟩,
⟨(((live).onPair fun y => { y with ilkDisFrom := some 0 }).onPair fun y => { y with alive := true }).onPair fun y =>
    { y with ilkFault := false }, 400000 * secU, 0, by decide⟩,
⟨((live).onPair fun y => { y with en := true }).onPair fun y => { y with measured := false }, 400000 * secU, 0, 0, by
    decide⟩,
⟨((live).onPair fun y => { y with role := .active }).onPair fun y => { y with measured := true }, 400000 * secU, by
    decide⟩,
⟨(((live).onPair fun y => { y with en := true }).onPair fun y => { y with measured := true }).onPair fun y =>
    { y with asmSeq := 0 }, 0, 0, 0, 2, [1, 2], by decide⟩,
⟨((((live).onPair fun y => { y with en := true }).onPair fun y => { y with measured := true }).onPair fun y =>
    { y with asmSeq := 0 }).onPair fun x => { x with role := .standby, asmChunks := [(0, [1, 2])] }, 0, 0, 1, [1, 2],
    {}, by decide⟩,
⟨(((live).onPair fun y => { y with en := true }).onPair fun y => { y with measured := true }).onPair fun x =>
    { x with role := .standby, asmChunks := [(1, [1, 2])] }, 0, 0, 2, 0, {}, by decide⟩,
⟨(((((live).onPair fun y => { y with hoT := some 0 }).onPair fun y => { y with hoAccepted := true }).onPair fun y =>
    { y with role := .active }).onPair fun y => { y with hoPropose := true }).onPair fun y =>
    { y with hoDone := false }, 0, 0, by decide⟩,
⟨(((live).onPair fun y => { y with hoTag := some 3 }).onPair fun y => { y with hoAccepted := false }).onPair fun y =>
    { y with hoDone := false }, 400000 * secU, 3, by decide⟩⟩

theorem test_witness_ReportsAndBlockResets :
(∃ (s : State) (t : Nat) (r : Report) (c : CodeInfo), s.quietFaults = true ∧ s.flt.recs = [] ∧ codeInfo r.code = some c
    ∧ r.code ≠ 0x0A ∧ c.cls = .corrected) ∧
(∃ (s : State) (t : Nat) (n : Nat) (src : BitVec 10), s.quietFaults = true ∧ 2 < n) ∧
(∃ (s : State) (t : Nat), s.pair.en = true ∧ s.quietFaults = true ∧ s.flt.gong = false) ∧
(∃ (s : State) (t : Nat) (base : Nat) (f : Nat) (src : BitVec 10) (b : Block), blockOf src.toNat = some (base, b) ∧
    s.flt.shadows = [(base, f, none)] ∧ f + b.resetLen ≤ (s.advance t).now) ∧
(∃ (s : State) (t : Nat) (base : Nat) (f : Nat) (r : Nat) (src : BitVec 10) (b : Block), blockOf src.toNat = some (base,
    b) ∧ s.flt.shadows = [(base, f, some r)] ∧ r + shadowTail ≤ (s.advance t).now ∧ s.sys.resetBlocks = []) ∧
(∃ (s : State) (t : Nat) (base : Nat) (f : Nat) (r : Nat) (src : BitVec 10) (b : Block) (i : Fin 48), blockOf src.toNat
    = some (base, b) ∧ s.flt.shadows = [(base, f, some r)] ∧ r + shadowTail ≤ (s.advance t).now ∧ s.sys.resetBlocks =
    [(base, i)]) :=
  ⟨⟨(live).onFlt fun y => { y with recs := [] }, 0, { source := 0x020, code := 0x01 }, (codeInfo 0x01).get (by decide), by
    decide, by decide, rfl, by decide⟩,
⟨live, 0, 3, 0x020, by decide⟩,
⟨((live).onPair fun y => { y with en := true }).onFlt fun y => { y with gong := false }, 0, by decide⟩,
⟨(live).onFlt fun y => { y with shadows := [(0x200, 0, none)] }, secU, 0x200, 0, 0x200, .dpll 0, by decide⟩,
⟨((live).onFlt fun y => { y with shadows := [(0x200, 0, some 0)] }).onSys fun y => { y with resetBlocks := [] }, secU,
    0x200, 0, 0, 0x200, .dpll 0, by decide⟩,
⟨((live).onFlt fun y => { y with shadows := [(0x200, 0, some 0)] }).onSys fun y =>
    { y with resetBlocks := [(0x200, 3)] }, secU, 0x200, 0, 0, 0x200, .dpll 0, 3, by decide⟩⟩

theorem test_witness_RecordStoreEvents :
(∃ (s : State) (t : Nat) (id : Nat) (w : NvWrite) (i : Fin 48) (g : Nat × Nat × Nat), s.nvs.queue = [w] ∧ w.id = id ∧
    nvGeom id = some g ∧ s.sys.wp = false ∧ s.sys.inReset = false ∧ w.host = some i ∧ s.nvsBarred = false ∧ (s.advance
    t).now ≤ (s.tag i).busy + 5 * msU) ∧
(∃ (s : State) (t : Nat) (id : Nat) (w : NvWrite) (i : Fin 48) (g : Nat × Nat × Nat) (a : Bool) (b : Bool), s.nvs.queue
    = [w] ∧ w.id = id ∧ nvGeom id = some g ∧ s.sys.wp = false ∧ s.sys.inReset = false ∧ s.nvsBarred = false ∧ w.host =
    some i ∧ (s.tag i).busy + 5 * msU < (s.advance t).now) ∧
(∃ (s : State) (t : Nat) (k : Nat) (w : NvWrite) (g : Nat × Nat × Nat), s.sys.wp = false ∧ s.nvs.queue = [w] ∧ w.host =
    none ∧ nvGeom w.id = some g) ∧
(∃ (s : State) (t : Nat) (k : Nat), s.sys.wp = false ∧ s.nvs.queue = []) ∧
(∃ (s : State) (t : Nat), s.sys.wp = true) ∧
(∃ (s : State) (t : Nat) (a : Nat), s.rolls = true ∧ s.quietFaults = true ∧ s.flt.recs = []) ∧
(∃ (s : State) (t : Nat) (a : Nat), s.rolls = true ∧ s.quietFaults = true ∧ s.flt.recs = []) ∧
(∃ (s : State) (t : Nat) (r : Nat) (w : List Nat), s.nvs.marginPass = false ∧ s.rolls = true ∧ (s.advance t).past
    s.nvs.marginAt (s.age.plan.marginDays * dayU) = true) ∧
(∃ (s : State) (t : Nat) (r : Nat), s.nvs.marginPass = true ∧ s.rolls = true ∧ (s.advance t).past s.nvs.marginAt (512 *
    secU) = true) ∧
(∃ (s : State) (t : Nat), s.nvs.refreshing = false ∧ s.sys.wp = false ∧ s.rolls = true ∧ (s.advance t).past
    s.nvs.refreshAt (s.age.plan.refreshDays * dayU) = true) ∧
(∃ (s : State) (t : Nat), s.nvs.refreshing = true ∧ s.sys.wp = false ∧ s.rolls = true ∧ (s.advance t).past
    s.nvs.refreshAt (180 * secU) = true) ∧
(∃ (s : State) (t : Nat), s.rolls = true ∧ (s.advance t).past s.nvs.wearAt (3600 * secU) = true) ∧
(∃ (s : State) (t : Nat) (e : ArcEnt), s.rolls = true ∧ s.timeValid = true ∧ s.arc.pendEnt = some e) :=
  ⟨⟨((((live).onNvs fun y => { y with queue := [({ NvWrite.init with id := 0x10, host := some 3 })] }).onSys fun y =>
    { y with wp := false }).onSys fun y => { y with inReset := false }).onNvs fun x =>
    { x with queue := [{ NvWrite.init with id := 0x10, host := some 3 }] }, 0, 0x10,
    { NvWrite.init with id := 0x10, host := some 3 }, 3, (64, 0x004, 0x044), by decide⟩,
⟨((((live).onNvs fun y => { y with queue := [({ NvWrite.init with id := 0x10, host := some 3 })] }).onSys fun y =>
    { y with wp := false }).onSys fun y => { y with inReset := false }).onNvs fun x =>
    { x with queue := [{ NvWrite.init with id := 0x10, host := some 3 }] }, secU, 0x10,
    { NvWrite.init with id := 0x10, host := some 3 }, 3, (64, 0x004, 0x044), false, false, by decide⟩,
⟨((live).onSys fun y => { y with wp := false }).onNvs fun y => { y with queue := [({ NvWrite.init with id := 0x10 })] },
    0, 1, { NvWrite.init with id := 0x10 }, (64, 0x004, 0x044), by decide⟩,
⟨((live).onSys fun y => { y with wp := false }).onNvs fun y => { y with queue := [] }, 0, 0, by decide⟩,
⟨(live).onSys fun y => { y with wp := true }, 0, by decide⟩,
⟨(live).onFlt fun y => { y with recs := [] }, 0, 0, by decide⟩,
⟨(live).onFlt fun y => { y with recs := [] }, 0, 0, by decide⟩,
⟨(live).onNvs fun y => { y with marginPass := false }, 100000000 * secU, 0, [], by decide⟩,
⟨(live).onNvs fun y => { y with marginPass := true }, 400000 * secU, 0, by decide⟩,
⟨((live).onNvs fun y => { y with refreshing := false }).onSys fun y => { y with wp := false }, 100000000 * secU, by
    decide⟩,
⟨((live).onNvs fun y => { y with refreshing := true }).onSys fun y => { y with wp := false }, 400000 * secU, by decide⟩,
⟨live, 400000 * secU, by decide⟩,
⟨((live).onArc fun y => { y with pendEnt := some ArcEnt.init }).onTime fun x =>
    { x with valid := true, invalid := false }, 0, ArcEnt.init, by decide⟩⟩

theorem test_witness_AgeingEvents :
(∃ (s : State) (t : Nat) (q : Nat) (l : Nat) (m : Int), s.rolls = true ∧ 0 ≤ m) ∧
(∃ (s : State) (t : Nat) (q : Nat) (l : Nat) (m : Int), s.rolls = true ∧ m < 0 ∧ s.age.plan.vcore < 7400 ∧ s.age.lowerAt
    ≠ some (s.advance t).now) ∧
(∃ (s : State) (t : Nat) (q : Nat) (l : Nat) (m : Int), s.rolls = true ∧ m < 0 ∧ 7400 ≤ s.age.plan.vcore ∧ s.age.lowerAt
    ≠ some (s.advance t).now) ∧
(∃ (s : State) (t : Nat), s.root.onRing = false ∧ (s.advance t).past s.age.vcoreRow (10 * msU) = true) ∧
(∃ (s : State) (t : Nat) (v : Sensors), s.rolls = true) ∧
(∃ (s : State) (t : Nat) (k : Fin 13), s.age.late.getLsbD k.val = false ∧ s.rolls = true ∧ (s.advance t).past (vget
    s.age.taskAt k) (s.age.plan.taskLimit k.val) = true) ∧
(∃ (s : State) (t : Nat) (v : DayIn), s.rolls = true ∧ s.timeValid = true ∧ (s.advance t).msec % 86400 = 600 ∧
    s.age.planDay ≠ some (s.advance t).ageDay) :=
  ⟨⟨live, 0, 0, 0, 0, by decide⟩,
⟨(live).onAge fun x => { x with plan := { x.plan with vcore := 7000 } }, 0, 0, 0, -1, by decide⟩,
⟨(live).onAge fun x => { x with plan := { x.plan with vcore := 7400 } }, 0, 0, 0, -1, by decide⟩,
⟨(live).onRoot fun y => { y with onRing := false }, 400000 * secU, by decide⟩,
⟨live, 0, {}, by decide⟩,
⟨live, 400000 * secU, 2, by decide⟩,
⟨(live).onTime fun x => { x with valid := true, invalid := false }, 600 * secU, {}, by decide⟩⟩

end Sys2Proof.Machine
end

/-!
SUPPORT. The end of every step (`State.commit`) meets the invariant from whatever state: the module state comes to rest,
traceability is held as R278 says, and the level sources are latched.
-/

namespace Sys2Proof.Machine

/-! ### The module state comes to rest (R9, R268) -/

@[simp] theorem State.toState_mstate (s : State) (m : ModState) : (s.toState m).sys.mstate = m := by
  unfold State.toState
  dsimp only
  split
  · assumption
  · (repeat' split) <;> simp

theorem State.toState_self (s : State) : s.toState s.sys.mstate = s := by simp [State.toState]

@[simp] theorem Dpll.onState_dstate (m n : ModState) (d : Dpll) : (Dpll.onState m n d).dstate = d.dstate :=
  Dpll.onState_keep (·.dstate) (fun _ => rfl) (fun _ => rfl) (fun _ => rfl) m n d

@[simp] theorem Dpll.onState_hoCause (m n : ModState) (d : Dpll) : (Dpll.onState m n d).hoCause = d.hoCause :=
  Dpll.onState_keep (·.hoCause) (fun _ => rfl) (fun _ => rfl) (fun _ => rfl) m n d

@[simp] theorem Dpll.onState_use (m n : ModState) (d : Dpll) : (Dpll.onState m n d).use = d.use :=
  Dpll.onState_keep (·.use) (fun _ => rfl) (fun _ => rfl) (fun _ => rfl) m n d

/-- What a change of module state does to the DPLLs leaves the conditions of R268 as they are. -/
theorem State.slewed_conditions (s : State) (m n : ModState) (u : State)
    (hu : u = s.onLoop fun l => { l with dplls := vmap l.dplls (Dpll.onState m n) }) :
    u.hoForced = s.hoForced ∧ u.hoNoRef = s.hoNoRef ∧ (u.dpll 0).dstate = (s.dpll 0).dstate := by
  have hd : u.dpll 0 = Dpll.onState m n (s.dpll 0) := by subst hu; exact vget_vmap _ _ _
  have hq (r : Fin 66) : u.eligible 0 r = s.eligible 0 r := by
    simp only [State.eligible, hd, Dpll.onState_use]
    subst hu
    rfl
  have he : u.anyEligible 0 = s.anyEligible 0 := congrArg (List.finRange 66).any (funext hq)
  refine ⟨?_, ?_, ?_⟩
  · rw [State.hoForced, hd, Dpll.onState_dstate, Dpll.onState_hoCause, State.hoForced]
  · rw [State.hoNoRef, hd, he, Dpll.onState_dstate, Dpll.onState_hoCause, State.hoNoRef]
  · rw [hd, Dpll.onState_dstate]

/-- The condition for leaving RECOVERY alone reads what a change of module state writes, the slews of DPLL0; every other
state's successor is the same before and after such a change. -/
theorem State.toState_nextMode (s : State) (m : ModState) {k : ModState} (hk : k ≠ .recovery) :
    (s.toState m).nextMode k = s.nextMode k := by
  refine toState_keep (fun x => x.nextMode k) ?_ ?_ ?_ ?_ ?_ ?_ ?_ s m
  case refine_4 =>
    intro s m n
    obtain ⟨hf, hn, hd⟩ := s.slewed_conditions m n _ rfl
    cases k
    case recovery => exact absurd rfl hk
    case acquire | locked | holdover => simp only [State.nextMode, hf, hn, hd]
    all_goals rfl
  all_goals
    intros
    cases k
    case recovery => exact absurd rfl hk
    all_goals rfl

/-- No state but RECOVERY leads to RECOVERY. -/
theorem State.eq_recovery_of_nextMode {s : State} {m : ModState} (h : s.nextMode m = .recovery) : m = .recovery := by
  cases m
  case recovery => rfl
  all_goals
    simp only [State.nextMode] at h
    (repeat' split at h) <;> cases h

theorem State.not_locked_of_hoForced {s : State} (h : s.hoForced = true) : (s.dpll 0).dstate ≠ .locked := by
  intro hl
  simp [State.hoForced, hl] at h

theorem State.not_locked_of_hoNoRef {s : State} (h : s.hoNoRef = true) : (s.dpll 0).dstate ≠ .locked := by
  intro hl
  simp [State.hoNoRef, hl] at h

/-- Two changes at one edge are all there are: the longest chain is COLD, ACQUIRE, LOCKED or HOLDOVER (R268, R538). -/
theorem State.nextMode_twice (s : State) (m : ModState) :
    s.nextMode (s.nextMode (s.nextMode m)) = s.nextMode (s.nextMode m) := by
  have hf := @State.not_locked_of_hoForced s
  have hn := @State.not_locked_of_hoNoRef s
  have hr : s.recovered = true → (s.dpll 0).dstate = .locked := by
    intro h
    simp only [State.recovered, Bool.and_eq_true, decide_eq_true_eq] at h
    obtain ⟨⟨hl, -⟩, -⟩ := h
    exact hl
  cases m <;> simp only [State.nextMode] <;> grind

/-- From a state that is at rest nothing changes. -/
theorem State.settle1_of_settled {s : State} (h : s.settled = true) : s.settle1 = s := by
  rw [State.settle1, of_decide_eq_true h, State.toState_self]

theorem State.settle_of_settled {s : State} (h : s.settled = true) : s.settle = s := by
  simp only [State.settle, State.settle1_of_settled h]

@[simp] theorem State.settle1_mstate (s : State) : s.settle1.sys.mstate = s.nextMode s.sys.mstate := s.toState_mstate _

theorem State.settle_settled (s : State) : s.settle.settled = true := by
  by_cases hm : s.sys.mstate = .recovery ∧ s.nextMode .recovery = .recovery
  · have hs : s.settled = true := by simp [State.settled, hm]
    rw [State.settle_of_settled hs, hs]
  · have h1 : s.nextMode s.sys.mstate ≠ .recovery := fun h =>
      have hr := State.eq_recovery_of_nextMode h
      hm ⟨hr, hr ▸ h⟩
    have h2 : s.nextMode (s.nextMode s.sys.mstate) ≠ .recovery := fun h => h1 (State.eq_recovery_of_nextMode h)
    have hk {k : ModState} (h : k ≠ .recovery) : s.settle1.settle1.settle1.nextMode k = s.nextMode k := by
      simp only [State.settle1, State.toState_nextMode _ _ h]
    have e2 : s.settle1.nextMode (s.nextMode s.sys.mstate) = s.nextMode (s.nextMode s.sys.mstate) :=
      s.toState_nextMode _ h1
    have e3 : s.settle1.settle1.nextMode (s.nextMode (s.nextMode s.sys.mstate)) =
        s.nextMode (s.nextMode s.sys.mstate) := by
      rw [State.settle1, State.toState_nextMode _ _ h2, State.settle1, State.toState_nextMode _ _ h2,
        State.nextMode_twice]
    simp only [State.settled, State.settle, State.settle1_mstate, e2, e3, hk h2, State.nextMode_twice, decide_true]

/-! ### Traceability (R278) and the level sources (R78) -/

/-- All that `trace` can write are the two flags of traceability. -/
theorem State.trace_eq (s : State) :
    ∃ a b, s.trace = s.onLoop fun l => { l with traceHeld := a, fTraceHeld := b } := by
  unfold State.trace
  split
  · exact ⟨_, _, rfl⟩
  · split
    · dsimp only
      split
      · exact ⟨_, _, rfl⟩
      · split <;> exact ⟨_, _, rfl⟩
    · exact ⟨s.loop.traceHeld, s.loop.fTraceHeld, rfl⟩

@[simp] theorem State.trace_settled (s : State) : s.trace.settled = s.settled := by
  obtain ⟨a, b, h⟩ := s.trace_eq
  rw [h]
  rfl

@[simp] theorem State.trace_traceNow (s : State) : s.trace.traceNow = s.traceNow := by
  obtain ⟨a, b, h⟩ := s.trace_eq
  rw [h]
  rfl

@[simp] theorem State.trace_chimeRaw (s : State) : s.trace.chimeRaw = s.chimeRaw := by
  obtain ⟨a, b, h⟩ := s.trace_eq
  rw [h]
  rfl

theorem State.trace_traced (s : State) : s.trace.traced = true := by
  unfold State.traced
  rw [State.trace_traceNow, State.trace_sys]
  by_cases hm : s.sys.mstate = .faultHold
  · have ht : s.trace.loop.traceHeld = false := by simp [State.trace, hm]
    simp [ht, hm, State.traceNow]
  · cases hc : (s.dpll 0).cur with
    | none => simp [hm, State.traceNow, hc]
    | some r =>
      cases hq : (s.refTrace r).1 with
      | false => simp [hm, State.traceNow, hc, hq]
      | true =>
        cases hn : s.traceNow with
        | false => simp [hm]
        | true => simp [hm, State.trace, hc, hq, hn]

@[simp] theorem State.latch_settled (s : State) : s.latch.settled = s.settled := rfl

@[simp] theorem State.latch_traced (s : State) : s.latch.traced = s.traced := rfl

theorem State.latch_latched (s : State) : s.latch.latched = true := by
  have h : (s.hif.chimeStatus ||| s.chimeRaw) &&& s.chimeRaw = s.chimeRaw := by
    ext i hi
    simp only [BitVec.getElem_and, BitVec.getElem_or]
    cases s.chimeRaw[i] <;> simp
  exact decide_eq_true h

/-- What every step ends with meets the invariant, whatever came before. -/
theorem State.commit_inv (s : State) : s.commit.Inv := by
  refine ⟨State.latch_latched _, ?_, ?_⟩
  · rw [State.commit, State.latch_settled, State.trace_settled, State.settle_settled]
  · rw [State.commit, State.latch_traced, State.trace_traced]

theorem State.commit_of_settled {s : State} (h : s.settled = true) : s.commit = s.trace.latch := by
  rw [State.commit, State.settle_of_settled h]

end Sys2Proof.Machine

/-!
SUPPORT. Every command completes: whatever the command and the state, its outcome is the end of a step.
-/

namespace Sys2Proof.Machine

/-- The outcome is the end of a step. -/
def Ends (r : Res) : Prop := ∃ v, r = done v

theorem done_ends (s : State) : Ends (done s) := ⟨s, rfl⟩

/-- A mailbox command ends the step whether it runs, fails its checks, is staged, waits or defers. -/
theorem runCmd_ends (c : Cmd) (i : Fin 48) (ch : Bool → Args → State → Checks)
    (body : Fin 48 → Args → State → State × Reply) (s : State) : Ends (runCmd c i ch body s) := by
  unfold runCmd
  dsimp only
  (repeat' split) <;> exact done_ends _

/-- A received message ends the step whether it is let in or not. -/
theorem rxWith_ends (t : Nat) (l : Fin 48) (h : MsgHdr) (f : State → State) (s : State) :
    Ends (rxWith t l h f s) := by
  unfold rxWith
  split <;> exact done_ends _

theorem execNvsWriteDone_ends (t id : Nat) (ok1 ok2 : Bool) (s : State) :
    Ends (execNvsWriteDone t id ok1 ok2 s) := by
  unfold execNvsWriteDone
  dsimp only
  (repeat' split) <;> exact done_ends _

theorem execRoMeasure_ends (t required : Nat) (m : Int) (load : Nat) (s : State) :
    Ends (execRoMeasure t required m load s) := by
  unfold execRoMeasure
  dsimp only
  (repeat' split) <;> exact done_ends _

theorem execOutputHandoff_ends (t : Nat) (out : OutId) (s : State) :
    Ends (execOutputHandoff t out s) := by
  unfold execOutputHandoff
  dsimp only
  (repeat' split) <;> exact done_ends _

theorem execBinTableComplete_ends (t : Nat) (ch : Fin 66) (line1 : Bool) (hits : List Nat) (s : State) :
    Ends (execBinTableComplete t ch line1 hits s) := by
  unfold execBinTableComplete
  dsimp only
  (repeat' split) <;> exact done_ends _

/-- Every command ends the step: a mailbox command as `runCmd` does, a received message as `rxWith` does, and of every
other row each branch. -/
theorem exec_ends (c : Instr) (s : State) : Ends (exec c s) := by
  cases c with
  -- Mailbox commands
  | sysIdentify | sysStatus | sysApply | sysResetBlock | sysFwStage | sysFwCommit | sysAbort | timeGet | timeSet |
    timeLeap | timeAlignQuery | measConfigCh | measArm | measRead | measInterval | measFreq | measCalStatus |
    refConfig | refLimits | refStatus | refSelect | refPriority | refWtr | loopBwSchedule | loopStatus |
    loopHoldoverConfig | loopForceHoldover | synConfig | synRampLoad | synRampRun | synBandTable | synRootStatus |
    outConfig | outPulseConfig | outRealign | outSlew | outSyncArm | outStatus | ptpPortConfig | ptpProfile |
    ptpPortStatus | ptpClientTable | ptpSecurity | ptpFrameTx | ptpFrameRx | ptpSynceConfig | gnssConfig | gnssStatus |
    gnssPosition | gnssCableDelay | gnssSnapshot | gnssSurvey | pairConfig | pairStatus | pairHandover | fltRead |
    fltInject | fltReaction | fltClear | nvsRecordRead | nvsRecordWrite | nvsStatus | arcQuery | arcLogRead |
    ageStatus | ageMarginPlan | agePolicy | telSnapshot =>
    dsimp only [exec]
    exact runCmd_ends _ _ _ _ _
  | loopConfig =>
    dsimp only [exec, execLoopConfig]
    exact runCmd_ends _ _ _ _ _
  -- Received PTP messages
  | rxSync | rxFollowUp | rxDelayReq | rxDelayResp | rxAnnounce | rxPdelayReq | rxPdelayResp | rxPdelayRespFollowUp |
    rxRequestUnicast | rxCancelUnicast | rxAcknowledgeCancel | rxManagement | rxGrantUnicast =>
    dsimp only [exec]
    exact rxWith_ends _ _ _ _ _
  -- Rows without branches
  | mbPost | mbRespTag | mbRespHdr | mbRespData | mbRespAck | wvSel | updStrobeGo | indAddressWrite | indDataRead |
    indDataWrite | fltCountWrite | softReset | fwCtlNext | fwCtlFallback | keySlotErase | testEnter | testLeave |
    referenceEdge | kettleSensor | kettleOven | vddOvenFall | phaseHistoryDiscard | rxEsmc | rxArpNdp | rxIgmpMld |
    rxOtherFrame | partnerLoss | vddOvenReturn =>
    exact done_ends _
  -- Rows with the most branches
  | nvsWriteDone => exact execNvsWriteDone_ends _ _ _ _ _
  | roMeasure => exact execRoMeasure_ends _ _ _ _ _
  | outputHandoff => exact execOutputHandoff_ends _ _ _
  | binTableComplete => exact execBinTableComplete_ends _ _ _ _ _
  -- Leap seconds
  | leapFlagSet | leapEvent =>
    dsimp only [exec, execLeapFlagSet, execLeapEvent]
    (repeat' split) <;> exact done_ends _
  -- Selection and switching
  | evaluation | measureEnd | settleTimeout | steeringEnd | pullLimitedTimeout | scheduleStepEnd =>
    dsimp only [exec, execEvaluation, execMeasureEnd, execSettleTimeout, execSteeringEnd, execPullLimitedTimeout,
      execScheduleStepEnd]
    (repeat' split) <;> exact done_ends _
  -- Reference qualification
  | activityLoss | activityConditionHeld | freqWindowEnd | phaseDiscClear | wtrEnd =>
    dsimp only [exec, execActivityLoss, execActivityConditionHeld, execFreqWindowEnd, execPhaseDiscClear, execWtrEnd]
    (repeat' split) <;> exact done_ends _
  -- Faults
  | faultReport | reportPath | blockResetDone | resetShadowEnd | clapperStuck =>
    dsimp only [exec, execFaultReport, execReportPath, execBlockResetDone, execResetShadowEnd, execClapperStuck]
    (repeat' split) <;> exact done_ends _
  -- NVS and SRAM
  | wpNAssert | wpNDeassert | nvsMargin | nvsRefresh | wear | sramScrub =>
    dsimp only [exec, execWpNAssert, execWpNDeassert, execNvsMargin, execNvsRefresh, execWear, execSramScrub]
    (repeat' split) <;> exact done_ends _
  -- Archive
  | rollup | dramScrub =>
    dsimp only [exec, execRollup, execDramScrub]
    (repeat' split) <;> exact done_ends _
  -- Ageing
  | ageUpdate | vcoreRamp | telemetry | taskLate =>
    dsimp only [exec, execAgeUpdate, execVcoreRamp, execTelemetry, execTaskLate]
    (repeat' split) <;> exact done_ends _
  -- Synthesis and outputs
  | rootLoss | rootRelock | rootRelockRetry | domainBandFillDone | domainLock | domainRelock | domainRetuneDone |
    bandCheck | rampSegmentEnd | outputHoldEnd | pulseEdge | slewEnd | syncInEdge | syncArmTimeout | handoverEnd =>
    dsimp only [exec, execRootLoss, execRootRelock, execRootRelockRetry, execDomainBandFillDone, execDomainLock,
      execDomainRelock, execDomainRetuneDone, execBandCheck, execRampSegmentEnd, execOutputHoldEnd, execPulseEdge,
      execSlewEnd, execSyncInEdge, execSyncArmTimeout, execHandoverEnd]
    (repeat' split) <;> exact done_ends _
  -- Firmware store
  | fwStagedCheck | firmwareSlotWritten =>
    dsimp only [exec, execFwStagedCheck, execFirmwareSlotWritten]
    (repeat' split) <;> exact done_ends _
  -- Receiver
  | receiverStartDone | acquisitionFound | signalLoss | satellitesLost | gnssFrontEnd | antOpen | antShort |
    antShortOff | antShortRetry | antNormal | spoofAlarmClear | gnssMark | surveyEnd | snapshotCaptureEnd |
    snapshotProcessEnd =>
    dsimp only [exec, execReceiverStartDone, execAcquisitionFound, execSignalLoss, execSatellitesLost, execGnssFrontEnd,
      execAntOpen, execAntShort, execAntShortOff, execAntShortRetry, execAntNormal, execSpoofAlarmClear, execGnssMark,
      execSurveyEnd, execSnapshotCaptureEnd, execSnapshotProcessEnd]
    (repeat' split) <;> exact done_ends _
  -- Measurement
  | stampRelease | comparatorSettled | videoSyncMissing | captureDurationEnd | intervalStartTimeout |
    intervalWindowClose | freqGateEnd =>
    dsimp only [exec, execStampRelease, execComparatorSettled, execVideoSyncMissing, execCaptureDurationEnd,
      execIntervalStartTimeout, execIntervalWindowClose, execFreqGateEnd]
    (repeat' split) <;> exact done_ends _
  -- PTP links
  | laneMeasuringEnd | blockLockGained | blockLockLost | laneDelay | serdesAdapt | announceReceiptTimeout |
    foreignMasterAgeout | timeActivityTimeout | grantExpiry | grantRenewal | grantDenialRetry | syncTx | announceTx |
    delayReqTx | pdelayReqTx | metadataTlvTx | hostFrameSend | esmcTimeout | esmcInfoTx =>
    dsimp only [exec, execLaneMeasuringEnd, execBlockLockGained, execBlockLockLost, execLaneDelay, execSerdesAdapt,
      execAnnounceReceiptTimeout, execForeignMasterAgeout, execTimeActivityTimeout, execGrantExpiry, execGrantRenewal,
      execGrantDenialRetry, execSyncTx, execAnnounceTx, execDelayReqTx, execPdelayReqTx, execMetadataTlvTx,
      execHostFrameSend, execEsmcTimeout, execEsmcInfoTx]
    (repeat' split) <;> exact done_ends _
  -- Redundant pair
  | claimSecondSample | releaseDetect | initWait | ilkInAssert | ilkInDeassert | pairContest | hbInEdge | pathFault |
    pathFaultClear | pairIlk | heartbeatTx | heartbeatRx | partnerLaneMeasured | snapshotTx | snapshotChunkRx |
    snapshotCommitRx | handoverInstant | hoAcceptTimeout =>
    dsimp only [exec, execClaimSecondSample, execReleaseDetect, execInitWait, execIlkInAssert, execIlkInDeassert,
      execPairContest, execHbInEdge, execPathFault, execPathFaultClear, execPairIlk, execHeartbeatTx, execHeartbeatRx,
      execPartnerLaneMeasured, execSnapshotTx, execSnapshotChunkRx, execSnapshotCommitRx, execHandoverInstant,
      execHoAcceptTimeout]
    (repeat' split) <;> exact done_ends _
  -- Strobe, acceptance, dispatch
  | strobeApply | commandAcceptance | commandDispatch =>
    dsimp only [exec, execStrobeApply, execCommandAcceptance, execCommandDispatch]
    (repeat' split) <;> exact done_ends _
  -- The Metronome second
  | metronomeSecond =>
    dsimp only [exec, execMetronomeSecond]
    (repeat' split) <;> exact done_ends _
  -- Frames, wide values, prefetch
  | spiStatusFrame | badOp | csConflict | shortFrame | wvCaptureDone | indPrefetch =>
    dsimp only [exec, execSpiStatusFrame, execBadOp, execCsConflict, execShortFrame, execWvCaptureDone, execIndPrefetch]
    (repeat' split) <;> exact done_ends _
  -- Boot and resets
  | powerOn | resetN | resetNRelease | brownOut | resetAfter | nvsRecallDone | firmwareLoaded | processorRestartDone =>
    dsimp only [exec, execPowerOn, execResetN, execResetNRelease, execBrownOut, execResetAfter, execNvsRecallDone,
      execFirmwareLoaded, execProcessorRestartDone]
    (repeat' split) <;> exact done_ends _
  -- Calibration of channels, Kettle
  | lineSwap | periodPairRetry | channelReady | kettleWarmSet | kettleLoss =>
    dsimp only [exec, execLineSwap, execPeriodPairRetry, execChannelReady, execKettleWarmSet, execKettleLoss]
    (repeat' split) <;> exact done_ends _
  -- Registers and transactions
  | registerWrite | refusedRead | mbCmdWindow | shortTransaction =>
    dsimp only [exec, execRegisterWrite, execRefusedRead, execMbCmdWindow, execShortTransaction]
    (repeat' split) <;> exact done_ends _

end Sys2Proof.Machine

/-!
The invariant: O3, O4, O5.
-/

namespace Sys2Proof.Machine

theorem exec_completes_inv (c : Instr) (s : State) : Completes (exec c s) State.Inv := by
  obtain ⟨v, hv⟩ := exec_ends c s
  exact ⟨v.commit, hv, v.commit_inv⟩

/-- Settles O4: whatever the command did, its outcome is the end of a step, which meets the invariant. -/
theorem everyCommandCompletesIntoTheInvariant : Obligations.EveryCommandCompletesIntoTheInvariant := exec_completes_inv

/-- Settles O3: the idle step changes nothing, and any other runs a command, which completes into the invariant. -/
theorem stepKeepsTheInvariant : Obligations.StepKeepsTheInvariant := by
  intro s u hs hu
  unfold step at hu
  split at hu
  · cases hu
    exact hs
  next c l _ =>
    obtain ⟨v, hv, hi⟩ := exec_completes_inv c (s.queue l)
    rw [hv] at hu
    cases hu
    exact hi

/-- Settles O5: after reset no level source holds, the module is COLD with no firmware up, no traceability is held, and
both memories are blank. -/
theorem resetMeetsTheInvariant : Obligations.ResetMeetsTheInvariant :=
  ⟨⟨by decide, by decide, by decide⟩, by decide, rfl⟩

end Sys2Proof.Machine

/-!
SUPPORT. What a word written to or read from a live port does (R38, R41, R45, R49), as equations of the shared
operations; then the statements about register writes.
-/

namespace Sys2Proof.Machine

theorem completes_done {s : State} {P : State → Prop} : Completes (done s) P ↔ P s.commit :=
  ⟨fun ⟨_, hu, h⟩ => by cases hu; exact h, fun h => ⟨_, rfl, h⟩⟩

/-- The port has taken the word written at `a`: the frame goes on at the next address (R41). -/
def State.tookWord (s : State) (p : Fin 2) (a : BitVec 16) : State :=
  s.portMod p fun x => { x with addr := nextAddr a, sdoAt := none }

/-- No write of the service port has run in the present cycle (R49). -/
def State.noSvc (s : State) : Prop := ∀ v, s.mb.svc = some v → v.at_ ≠ s.now

theorem noSvc_of_noSvcAt {s : State} {t : Nat} (h : s.noSvcAt t = true) : (s.advance t).noSvc := by
  intro v hv
  rw [State.advance_mb] at hv
  simpa [State.noSvcAt, hv] using h

@[simp] theorem State.advance_portDead (t : Nat) (s : State) (p : Fin 2) : (s.advance t).portDead p = s.portDead p := by
  simp [State.portDead]

section
variable (s : State) (p : Fin 2) (f : Port → Port)

@[simp] theorem State.portMod_portDead (q : Fin 2) : (s.portMod p f).portDead q = s.portDead q := rfl
@[simp] theorem State.portMod_err : (s.portMod p f).hif.err = s.hif.err := rfl
@[simp] theorem State.portMod_scratch : (s.portMod p f).hif.scratch = s.hif.scratch := rfl
@[simp] theorem State.portMod_inRecall : (s.portMod p f).hif.inRecall = s.hif.inRecall := rfl
@[simp] theorem State.portMod_ind : (s.portMod p f).hif.ind = s.hif.ind := rfl
@[simp] theorem State.portMod_lastClr : (s.portMod p f).hif.lastClr = s.hif.lastClr := rfl
@[simp] theorem State.portMod_chimeStatus : (s.portMod p f).hif.chimeStatus = s.hif.chimeStatus := rfl
@[simp] theorem State.portMod_chimeEnable : (s.portMod p f).hif.chimeEnable = s.hif.chimeEnable := rfl
@[simp] theorem State.portMod_now : (s.portMod p f).now = s.now := rfl
@[simp] theorem State.portMod_dpll (d : Fin 8) : (s.portMod p f).dpll d = s.dpll d := rfl
@[simp] theorem State.portMod_cyc : (s.portMod p f).cyc = s.cyc := rfl
@[simp] theorem State.portMod_chimeRaw : (s.portMod p f).chimeRaw = s.chimeRaw := rfl
@[simp] theorem State.portMod_settled : (s.portMod p f).settled = s.settled := rfl

end

theorem State.tookWord_addr (s : State) (p : Fin 2) (a : BitVec 16) : ((s.tookWord p a).port p).addr = nextAddr a := by
  simp [State.tookWord, State.port, State.portMod, vget_vmod_same]

@[simp] theorem State.hifErr_err (s : State) (b : Nat) :
    (s.hifErr b).hif.err = s.hif.err ||| BitVec.ofNat 8 (2 ^ b) := rfl
@[simp] theorem State.hifErr_scratch (s : State) (b : Nat) : (s.hifErr b).hif.scratch = s.hif.scratch := rfl

theorem State.writeChime_chimeStatus (s : State) (w : Word) :
    (s.writeChime w).hif.chimeStatus = s.hif.chimeStatus &&& (~~~ w.setWidth 18 ||| s.cyc.chime) := rfl
@[simp] theorem State.writeChime_chimeEnable (s : State) (w : Word) :
    (s.writeChime w).hif.chimeEnable = s.hif.chimeEnable := rfl
@[simp] theorem State.writeChime_chimeRaw (s : State) (w : Word) : (s.writeChime w).chimeRaw = s.chimeRaw := rfl
@[simp] theorem State.writeChime_settled (s : State) (w : Word) : (s.writeChime w).settled = s.settled := rfl
@[simp] theorem State.onMb_settled (s : State) (f : Mb → Mb) : (s.onMb f).settled = s.settled := rfl
theorem State.svc_chimeRaw (s : State) (v : Option SvcAct) :
    (s.onMb fun m => { m with svc := v }).chimeRaw = s.chimeRaw := rfl

@[simp] theorem State.onSys_dpll (s : State) (f : Sys → Sys) (d : Fin 8) : (s.onSys f).dpll d = s.dpll d := rfl

/-! ### One word written -/

section
variable {s : State} {p : Fin 2} {a : BitVec 16} {f : State → State}

theorem hostWrite_live (hd : s.portDead p = false) (hr : s.hif.inRecall = false) :
    s.hostWrite p a f = f (s.tookWord p a) := by
  simp [State.hostWrite, State.tookWord, State.portMod, hd, hr]

theorem hostWrite_recall (hd : s.portDead p = false) (hr : s.hif.inRecall = true) :
    s.hostWrite p a f = (s.tookWord p a).hifErr 5 := by
  simp [State.hostWrite, State.tookWord, State.portMod, hd, hr]

theorem guarded_privileged (hd : s.portDead 0 = false) (hr : s.hif.inRecall = false) :
    s.guarded 0 true a f = f (s.tookWord 0 a) :=
  hostWrite_live hd hr

theorem guarded_unprivileged (hd : s.portDead p = false) (hr : s.hif.inRecall = false) :
    s.guarded p false a f = (s.tookWord p a).hifErr 0 :=
  hostWrite_live hd hr

theorem portWrite_recall {priv : Bool} {w : Word} (hd : s.portDead p = false) (hr : s.hif.inRecall = true) :
    s.portWrite p priv a w = (s.tookWord p a).hifErr 5 := by
  unfold State.portWrite State.guarded
  split <;> exact hostWrite_recall hd hr

theorem svcMet_none {w : Word} (h : s.noSvc) : s.svcMet a w = none := by
  unfold State.svcMet State.svcWrote
  cases hv : s.mb.svc with
  | none => rfl
  | some v => cases hw : wordTag w <;> simp [h v hv]

/-- With no write of the service port before it in its cycle, a write acts as the register's own; beside that the
service port's is noted (R49). -/
theorem busWrite_first {priv : Bool} {w : Word} (h : p = 0 → s.noSvc) :
    ∃ v, s.busWrite p priv a w = (s.writeAt p priv a.toNat w).onMb fun m => { m with svc := v } := by
  unfold State.busWrite
  split
  · exact ⟨_, rfl⟩
  · next hp =>
    rw [svcMet_none (h (by omega))]
    exact ⟨_, rfl⟩

/-- A write to an unguarded register of a live port. -/
theorem portWrite_first {priv : Bool} {w : Word} (hd : s.portDead p = false) (hr : s.hif.inRecall = false)
    (hg : guardedAddr a.toNat = false) (h : p = 0 → s.noSvc) :
    ∃ v, s.portWrite p priv a w =
      ((s.tookWord p a).writeAt p (framePriv p priv) a.toNat w).onMb fun m => { m with svc := v } := by
  rw [State.portWrite, hg, if_neg Bool.false_ne_true, hostWrite_live hd hr]
  exact busWrite_first h

end

/-! ### One word read -/

@[simp] theorem State.shiftOut_out (s : State) (p : Fin 2) (w : Word) : ((s.shiftOut p w).port p).out = [w] := by
  simp [State.shiftOut, State.port, State.portMod, vget_vmod_same]

/-- HIF_SCRATCH is unguarded: a live port delivers what it holds (R55). -/
theorem portRead_scratch {s : State} {p : Fin 2} {priv : Bool} {e : EccIn} (hd : s.portDead p = false)
    (hr : s.hif.inRecall = false) : ((s.portRead p priv e 0x0004).port p).out = [s.hif.scratch] := by
  have h : s.portRead p priv e 0x0004 =
      (s.portMod p fun x => { x with addr := nextAddr 0x0004 }).shiftOut p s.hif.scratch := by
    simp only [State.portRead, State.hostRead, hd, State.portMod, State.onHif_hif, hr]
    rfl
  rw [h, State.shiftOut_out]

/-! ### The rows -/

theorem exec_registerWrite {s : State} {t : Nat} {p : Fin 2} {priv : Bool} {a : BitVec 16} {w : Word}
    (hd : s.portDead p = false) :
    exec (.registerWrite t p priv (some a) w) s = done (((s.advance t).startAt p a).portWrite p priv a w) := by
  have h : (s.advance t).portDead p = false := by simpa using hd
  exact if_neg (ne_true_of_eq_false h)

theorem exec_refusedRead {s : State} {t : Nat} {p : Fin 2} {priv : Bool} {a : BitVec 16} {e : EccIn}
    (hd : s.portDead p = false) :
    exec (.refusedRead t p priv (some a) e) s = done (((s.advance t).startAt p a).portRead p priv e a) := by
  have h : (s.advance t).portDead p = false := by simpa using hd
  exact if_neg (ne_true_of_eq_false h)

section
variable {s : State} {t : Nat} {p : Fin 2} {a : BitVec 16} {f : State → State} {P : State → Prop}

theorem guarded_completes_privileged (hd : s.portDead 0 = false) (hr : s.hif.inRecall = false)
    (h : P (f ((s.advance t).tookWord 0 a)).commit) : Completes (done ((s.advance t).guarded 0 true a f)) P := by
  rw [completes_done, guarded_privileged (by simpa using hd) (by simpa using hr)]
  exact h

theorem guarded_completes_unprivileged (hd : s.portDead p = false) (hr : s.hif.inRecall = false)
    (h : P (((s.advance t).tookWord p a).hifErr 0).commit) :
    Completes (done ((s.advance t).guarded p false a f)) P := by
  rw [completes_done, guarded_unprivileged (by simpa using hd) (by simpa using hr)]
  exact h

end

/-! ### The end of a step at rest -/

theorem commit_sys_of_settled {s : State} (h : s.settled = true) : s.commit.sys = s.sys := by
  rw [State.commit_of_settled h, State.latch_sys, State.trace_sys]

/-- Where no change of module state is due, the level sources alone add to CHIME_STATUS (R78). -/
theorem commit_chimeStatus_of_settled {s : State} (h : s.settled = true) :
    s.commit.hif.chimeStatus = s.hif.chimeStatus ||| s.chimeRaw := by
  rw [State.commit_of_settled h, State.latch, State.onHif_hif, State.trace_hif, State.trace_chimeRaw]

@[simp] theorem State.toState_sys_test (s : State) (m : ModState) : (s.toState m).sys.test = s.sys.test :=
  toState_keep (fun x => x.sys.test) (fun _ _ _ => rfl) (fun _ _ => rfl) (fun _ => rfl) (fun _ _ _ => rfl)
    (fun _ _ => rfl) (fun _ _ => rfl) (fun _ _ => rfl) s m

theorem settled_of_test {s : State} (h : s.sys.mstate = .test) : s.settled = true := by
  simp [State.settled, h, State.nextMode]

theorem nextMode_acquire_of_acquiring {s : State} (h : (s.dpll 0).dstate = .acquiring) :
    s.nextMode .acquire = .acquire := by
  simp [State.nextMode, State.hoForced, h]

/-! ### Guarded registers (R9, R38, R82, R83) -/

section
variable {s : State} {t : Nat} (hd : s.portDead 0 = false) (hr : s.hif.inRecall = false)
include hd hr

theorem fwCtlNext_privileged (v : Bool) :
    Completes (exec (.fwCtlNext t 0 true v) s) fun u => u.sys.nextB = v ∧ u.sys.fallback = s.sys.fallback :=
  guarded_completes_privileged hd hr (by simp [State.tookWord])

theorem fwCtlFallback_privileged (v : Bool) :
    Completes (exec (.fwCtlFallback t 0 true v) s) fun u => u.sys.fallback = v ∧ u.sys.nextB = s.sys.nextB :=
  guarded_completes_privileged hd hr (by simp [State.tookWord])

theorem keySlotErase_privileged (m : BitVec 16) :
    Completes (exec (.keySlotErase t 0 true m) s) fun u =>
      ∀ k : Fin 16, vget u.ptp.keys k = if m.getLsbD k.val then Key.init else vget s.ptp.keys k :=
  guarded_completes_privileged hd hr (by simp [State.tookWord, State.eraseKeys, vget_vmapIdx])

/-- TEST is entered and stays: nothing leads out of it but TEST_CTL (R9). -/
theorem testEnter_privileged (hc : vget s.hif.lastClr 3 ≠ some (s.advance t).now) (hm : s.sys.mstate ≠ .faultHold)
    (hl : s.sys.loader = false) :
    Completes (exec (.testEnter t 0 true) s) fun u => u.sys.mstate = .test ∧ u.sys.test = true := by
  refine guarded_completes_privileged hd hr ?_
  obtain ⟨hs, ht⟩ : (((s.advance t).tookWord 0 0x0804).writeTest true).sys.mstate = .test ∧
      (((s.advance t).tookWord 0 0x0804).writeTest true).sys.test = true := by
    simp [State.writeTest, State.hostSet, State.tookWord, hc, hm, hl]
  rw [commit_sys_of_settled (settled_of_test hs)]
  exact ⟨hs, ht⟩

/-- TEST is left for ACQUIRE, where DPLL0 acquiring keeps the module (R9). -/
theorem testLeave_privileged (hm : s.sys.mstate = .test) (ha : (s.dpll 0).dstate = .acquiring) :
    Completes (exec (.testLeave t 0 true) s) fun u => u.sys.mstate = .acquire ∧ u.sys.test = false := by
  refine guarded_completes_privileged hd hr ?_
  have hw : ((s.advance t).tookWord 0 0x0804).writeTest false =
      (((s.advance t).tookWord 0 0x0804).onSys fun y => { y with test := false }).toState .acquire := by
    simp [State.writeTest, State.tookWord, hm]
  have hs : (((s.advance t).tookWord 0 0x0804).writeTest false).settled = true := by
    rw [hw, State.settled, State.toState_mstate, State.toState_nextMode _ _ (by decide),
      nextMode_acquire_of_acquiring (by simpa [State.tookWord] using ha)]
    rfl
  rw [commit_sys_of_settled hs, hw]
  simp

end

theorem unprivileged_refused {s : State} {t : Nat} {p : Fin 2} (hd : s.portDead p = false)
    (hr : s.hif.inRecall = false) (v : Bool) (m : BitVec 16) :
    Completes (exec (.softReset t p false) s)
      (fun u => u.hif.err = s.hif.err ||| 0x01 ∧ u.mb = s.mb ∧ u.sys.resetCause = s.sys.resetCause) ∧
    Completes (exec (.fwCtlNext t p false v) s) (fun u => u.hif.err = s.hif.err ||| 0x01 ∧ u.sys.nextB = s.sys.nextB) ∧
    Completes (exec (.fwCtlFallback t p false v) s)
      (fun u => u.hif.err = s.hif.err ||| 0x01 ∧ u.sys.fallback = s.sys.fallback) ∧
    Completes (exec (.keySlotErase t p false m) s) (fun u => u.hif.err = s.hif.err ||| 0x01 ∧ u.ptp.keys = s.ptp.keys) ∧
    Completes (exec (.testEnter t p false) s) (fun u => u.hif.err = s.hif.err ||| 0x01 ∧ u.sys.test = s.sys.test) ∧
    Completes (exec (.testLeave t p false) s) (fun u => u.hif.err = s.hif.err ||| 0x01 ∧ u.sys.test = s.sys.test) := by
  refine ⟨?_, ?_, ?_, ?_, ?_, ?_⟩ <;>
    exact guarded_completes_unprivileged hd hr (by simp [State.tookWord])

/-! ### Registers by address (R41, R45, R49, R55, R78, R84) -/

/-- A complete read of HIF_SCRATCH delivers what it holds (R55). -/
theorem scratch_read {s : State} {t : Nat} {p : Fin 2} {priv : Bool} {e : EccIn} {w : Word}
    (hd : s.portDead p = false) (hr : s.hif.inRecall = false) (hw : s.hif.scratch = w) :
    Completes (exec (.refusedRead t p priv (some 0x0004) e) s) fun v => (v.port p).out = [w] := by
  rw [exec_refusedRead hd, completes_done, State.commit_port,
    portRead_scratch (by simpa [State.startAt] using hd) (by simpa [State.startAt] using hr)]
  simpa [State.startAt] using hw

/-- During the recall a write is refused, guarded register or not (R45). -/
theorem registerWrite_recall {s : State} {t : Nat} {priv : Bool} {a : BitVec 16} {w : Word} (hd : s.portDead 0 = false)
    (hr : s.hif.inRecall = true) :
    Completes (exec (.registerWrite t 0 priv (some a) w) s) fun u =>
      u.hif.err = s.hif.err ||| 0x20 ∧ u.hif.scratch = s.hif.scratch := by
  rw [exec_registerWrite hd, completes_done,
    portWrite_recall (by simpa [State.startAt] using hd) (by simpa [State.startAt] using hr)]
  simp [State.tookWord, State.startAt]

section
variable {s : State} {t : Nat} {p : Fin 2} {priv : Bool} {a : BitVec 16} {w : Word} (hd : s.portDead p = false)
  (hr : s.hif.inRecall = false) (hv : p = 0 → s.noSvcAt t = true)
include hd hr hv

/-- A write to an unguarded register is the register's own write, on the state at the command's instant. -/
theorem registerWrite_unguarded (hg : guardedAddr a.toNat = false) :
    ∃ v, exec (.registerWrite t p priv (some a) w) s =
      done (((((s.advance t).startAt p a).tookWord p a).writeAt p (framePriv p priv) a.toNat w).onMb
        fun m => { m with svc := v }) := by
  rw [exec_registerWrite hd]
  obtain ⟨v, h⟩ := portWrite_first (s := (s.advance t).startAt p a) (priv := priv) (w := w)
    (by simpa [State.startAt] using hd) (by simpa [State.startAt] using hr) hg (fun hp => noSvc_of_noSvcAt (hv hp))
  exact ⟨v, by rw [h]⟩

theorem scratch_write_then_read (t' : Nat) (e : EccIn) :
    Completes (exec (.registerWrite t p priv (some 0x0004) w) s) fun u =>
      u.hif.scratch = w ∧ u.mb.tags = s.mb.tags ∧ u.hif.ind = s.hif.ind ∧ (u.port p).addr = 0x0005 ∧
      Completes (exec (.refusedRead t' p priv (some 0x0004) e) u) fun v => (v.port p).out = [w] := by
  obtain ⟨v, h⟩ := registerWrite_unguarded (priv := priv) (a := 0x0004) (w := w) hd hr hv rfl
  have hw (x : State) : x.writeAt p (framePriv p priv) (0x0004 : BitVec 16).toNat w =
      x.onHif fun h => { h with scratch := w } := rfl
  rw [h, hw, completes_done]
  refine ⟨?_, ?_, ?_, ?_, ?_⟩
  · simp
  · simp [State.tookWord, State.startAt]
  · simp [State.tookWord, State.startAt]
  · rw [State.commit_port]
    exact State.tookWord_addr _ p 0x0004
  · refine scratch_read ?_ ?_ ?_
    · simpa [State.portDead, State.tookWord, State.startAt] using hd
    · simpa [State.tookWord, State.startAt] using hr
    · simp

theorem chimeStatus_write (hs : (s.advance t).settled = true) :
    Completes (exec (.registerWrite t p priv (some 0x0601) w) s) fun u =>
      u.hif.chimeStatus =
        (s.hif.chimeStatus &&& (~~~ w.setWidth 18 ||| (s.advance t).cyc.chime)) ||| (s.advance t).chimeRaw ∧
      u.hif.chimeEnable = s.hif.chimeEnable := by
  obtain ⟨v, h⟩ := registerWrite_unguarded (priv := priv) (a := 0x0601) (w := w) hd hr hv rfl
  have hw (x : State) : x.writeAt p (framePriv p priv) (0x0601 : BitVec 16).toNat w = x.writeChime w := rfl
  have hs' : ((((s.advance t).startAt p 0x0601).tookWord p 0x0601).writeChime w).settled = true := by
    simpa [State.tookWord, State.startAt] using hs
  rw [h, hw, completes_done, commit_chimeStatus_of_settled (by rwa [State.onMb_settled]), State.svc_chimeRaw]
  simp [State.tookWord, State.startAt, State.writeChime_chimeStatus]

end

theorem fltCount_write {s : State} {t : Nat} (which : Cls) (w : Word) (hd : s.portDead 0 = false)
    (hr : s.hif.inRecall = false) (hv : s.noSvcAt t = true) :
    Completes (exec (.fltCountWrite t 0 which w) s) fun u =>
      (which = .corrected → u.flt.cntCor = cntLoad w (s.advance t).cyc.cor) ∧
      (which = .contained → u.flt.cntCon = cntLoad w (s.advance t).cyc.con) ∧
      (which = .fatal → u.flt.cntFat = cntLoad w (s.advance t).cyc.fat) := by
  obtain ⟨v, h⟩ := portWrite_first (s := s.advance t) (p := 0) (a := which.cntAddr) (priv := false) (w := w)
    (by simpa using hd) (by simpa using hr) (by cases which <;> rfl) (fun _ => noSvc_of_noSvcAt hv)
  have hw (x : State) : x.writeAt 0 (framePriv 0 false) which.cntAddr.toNat w = x.setCount which w := by
    cases which <;> rfl
  refine completes_done.mpr ?_
  rw [h, hw]
  cases which <;> simp [State.setCount, State.tookWord]

/-- Settles O23: guarded registers by the rule of `guarded`, the others by the register's own write. -/
theorem registerWrites : Obligations.RegisterWrites :=
  ⟨fun _ _ v hd hr => fwCtlNext_privileged hd hr v,
   fun _ _ v hd hr => fwCtlFallback_privileged hd hr v,
   fun _ _ m hd hr => keySlotErase_privileged hd hr m,
   fun _ _ hd hr hc hm hl => testEnter_privileged hd hr hc hm hl,
   fun _ _ hd hr hm ha => testLeave_privileged hd hr hm ha,
   fun _ _ _ v m hd hr => unprivileged_refused hd hr v m,
   fun _ _ _ _ _ hd hr => registerWrite_recall hd hr,
   fun _ _ t' _ _ _ e hd hr hv => scratch_write_then_read hd hr hv t' e,
   fun _ _ _ _ _ hd hr hv hs => chimeStatus_write hd hr hv hs,
   fun _ _ which w hd hr hv => fltCount_write which w hd hr hv⟩

end Sys2Proof.Machine

/-!
SUPPORT. What the operations of selection, of the time properties, of the BMCA and of the fault collector leave alone. A
projection `p` of the state that a handful of elementary updates keep is kept by each of these operations: one lemma per
operation, whatever the projection.
-/

namespace Sys2Proof.Machine

/-! ### The elementary updates -/

/-- The Metronome's part of the time unit: all of it but the UTC offset, its sources and its schedule (R118 to R128). -/
def Time.clock (x : Time) : Time :=
  { x with offset := 0, offSource := 0, confirmed := false, event := 0, leap := 0, leap61 := false, leap59 := false,
           host := TimeSrc.init, gnss := TimeSrc.init, partner := TimeSrc.init, recalled := TimeSrc.init,
           taken := TimeSrc.init }

/-- `p` reads none of what the time properties write when they follow their sources (R126 to R128): the properties
themselves, the ports' copies, the log, the record writes, and Chime bits other than that of the second. -/
structure UtcKeeps {α : Type} (p : State → α) : Prop where
  time : ∀ (s : State) (f : Time → Time), (∀ x, (f x).clock = x.clock) → p (s.onTime f) = p s
  ptp : ∀ (s : State) (f : Ptp → Ptp), p (s.onPtp f) = p s
  arc : ∀ (s : State) (f : Arc → Arc), p (s.onArc f) = p s
  nvs : ∀ (s : State) (f : Nvs → Nvs), p (s.onNvs f) = p s
  count : ∀ (s : State) (i n : Nat), p (s.count i n) = p s
  draw : ∀ s : State, p s.draw.2 = p s
  chime : ∀ (s : State) (b : Nat), b ≠ 9 → p (s.chime b) = p s

/-- `p` reads none of what selection writes either: the DPLLs and the candidates. -/
structure SelectionKeeps {α : Type} (p : State → α) : Prop extends UtcKeeps p where
  loop : ∀ (s : State) (f : LoopU → LoopU), p (s.onLoop f) = p s
  ref : ∀ (s : State) (f : RefU → RefU), p (s.onRef f) = p s

/-- `p` reads, of what the fault collector and the end of commands in flight write, at most the module state and the
Gong. -/
structure FaultKeeps {α : Type} (p : State → α) : Prop extends SelectionKeeps p where
  hif : ∀ (s : State) (f : Hif → Hif), p (s.onHif f) = p s
  mb : ∀ (s : State) (f : Mb → Mb), p (s.onMb f) = p s
  out : ∀ (s : State) (f : Out → Out), p (s.onOut f) = p s
  meas : ∀ (s : State) (f : MeasU → MeasU), p (s.onMeas f) = p s
  gnss : ∀ (s : State) (f : Gnss → Gnss), p (s.onGnss f) = p s
  pair : ∀ (s : State) (f : Pair → Pair), p (s.onPair f) = p s
  sys : ∀ (s : State) (f : Sys → Sys), (∀ y, (f y).mstate = y.mstate) → p (s.onSys f) = p s
  flt : ∀ (s : State) (f : Flt → Flt), (∀ x, (f x).gong = x.gong) → p (s.onFlt f) = p s

/-- `p` reads neither the module state nor the Gong: the Gong's sounding keeps it too. -/
structure GongKeeps {α : Type} (p : State → α) : Prop extends FaultKeeps p where
  anySys : ∀ (s : State) (f : Sys → Sys), p (s.onSys f) = p s
  anyFlt : ∀ (s : State) (f : Flt → Flt), p (s.onFlt f) = p s

/-! ### The time properties (R126 to R128) -/

namespace UtcKeeps
variable {α : Type} {p : State → α} (h : UtcKeeps p)
include h

theorem lane (s : State) (l : Fin 48) (f : Lane → Lane) : p (s.laneMod l f) = p s := h.ptp s _

theorem log (s : State) (g e u : Nat) (l : List Word) : p (s.log g e u l) = p s :=
  log_keep s g e u l p (fun s i => h.count s i 1) h.arc

theorem nvWrite (s : State) (w : NvWrite) : p (s.nvWrite w) = p s := by
  unfold State.nvWrite State.nvsEvent
  split
  · rw [h.chime _ 15 (by decide), h.log, h.count, h.nvs]
  · exact h.nvs s _

theorem fwWrite (s : State) (id : Nat) : p (s.fwWrite id) = p s := (h.nvWrite _ _).trans (h.draw s)

theorem rollSrcs (s : State) : p s.rollSrcs = p s := by
  unfold State.rollSrcs
  rw [h.ptp]
  exact h.time s _ fun _ => rfl

theorem utcUpdate (s : State) : p (utcUpdate s) = p s := by
  have ht (u : State) (f : Time → Time) (hf : ∀ x, (f x).clock = x.clock) (hu : p u = p s) : p (u.onTime f) = p s :=
    (h.time u f hf).trans hu
  unfold Machine.utcUpdate State.logUtc
  dsimp only
  split
  · exact ht _ _ (fun _ => rfl) (h.rollSrcs s)
  · rw [h.fwWrite]
    split
    · exact ht _ _ (fun _ => rfl) (h.rollSrcs s)
    · rw [h.log]
      exact ht _ _ (fun _ => rfl) (h.rollSrcs s)

end UtcKeeps

/-! ### Selection and switching (R226 to R294) -/

namespace SelectionKeeps
variable {α : Type} {p : State → α} (h : SelectionKeeps p)
include h

theorem dpll (s : State) (d : Fin 8) (f : Dpll → Dpll) : p (s.dpllMod d f) = p s := h.loop s _

theorem cand (s : State) (r : Fin 66) (f : Cand → Cand) : p (s.candMod r f) = p s := h.ref s _

theorem setDState (s : State) (d : Fin 8) (n : DState) : p (s.setDState d n) = p s := by
  unfold State.setDState
  dsimp only
  split
  · rfl
  · simp only [h.log, h.dpll, apply_ite p, h.count, ite_self]

theorem refreshTe (s : State) (d : Fin 8) : p (s.refreshTe d) = p s := by
  simp only [State.refreshTe, h.dpll, apply_ite p, h.count, ite_self]

theorem budgetAll (s : State) : p (budgetAll s) = p s := forFin_keep _ _ _ p fun d s => h.refreshTe s d

theorem prepare (s : State) (d : Fin 8) : p (s.prepare d) = p s := h.dpll s d _

theorem loadHold (s : State) (d : Fin 8) : p (s.loadHold d) = p s := by
  unfold State.loadHold
  dsimp only
  split
  · rfl
  · rw [h.dpll, h.prepare, h.dpll]

theorem holdStart (s : State) (d : Fin 8) : p (s.holdStart d) = p s := by
  simp only [State.holdStart, State.utcFollow, State.feedStop, apply_ite p, h.utcUpdate, h.dpll, ite_self]

theorem enterHold (s : State) (d : Fin 8) (c : HoCause) : p (s.enterHold d c) = p s := by
  simp only [State.enterHold, State.entryEdge, State.freerunHold, apply_ite p, h.refreshTe, h.setDState, h.dpll,
    h.holdStart, ite_self]

theorem startSwitch (s : State) (d : Fin 8) (r : Fin 66) : p (s.startSwitch d r) = p s := by
  unfold State.startSwitch
  dsimp only
  split
  · rfl
  · rw [h.log, h.chime _ 7 (by decide)]
    simp only [h.dpll, apply_ite p, h.count, ite_self]

theorem disable (s : State) (d : Fin 8) : p (s.disable d) = p s := by
  simp only [State.disable, h.setDState, h.dpll, h.holdStart]

theorem endSwitch (s : State) (d : Fin 8) (n : Nat) : p (s.endSwitch d n) = p s := by
  unfold State.endSwitch
  dsimp only
  split
  · rfl
  · simp only [apply_ite p, h.disable, ite_self]
    rw [h.log, h.chime _ 7 (by decide)]
    simp only [apply_ite p, h.count, h.dpll, ite_self]

theorem fallback (s : State) (d : Fin 8) : p (s.fallback d) = p s := by
  unfold State.fallback
  dsimp only
  split
  · rfl
  · split <;> simp only [apply_ite p, h.startSwitch, h.dpll, h.enterHold, ite_self]

theorem lostOne (s : State) (r : Fin 66) (d : Fin 8) : p (s.lostOne r d) = p s := by
  unfold State.lostOne
  dsimp only
  split
  · rfl
  · (repeat' split) <;> simp only [h.fallback, h.holdStart, h.endSwitch, h.count, h.dpll]

theorem lostAct (s : State) (r : Fin 66) : p (s.lostAct r) = p s := forFin_keep _ _ _ p fun d s => h.lostOne s r d

theorem unqualified (s : State) (r : Fin 66) : p (s.unqualified r) = p s :=
  forFin_keep _ _ _ p fun d s => by
    simp only [State.unqualOne, apply_ite p, h.dpll, h.holdStart, h.endSwitch, ite_self]

theorem removed (s : State) (r : Fin 66) : p (s.removed r) = p s :=
  forFin_keep _ _ _ p fun d s => ite_keep p _ _ s (h.lostOne s r d)

theorem evalAll (s : State) : p (evalAll s) = p s := forFin_keep _ _ _ p fun d s => h.dpll s d _

theorem loopsRootLost (s : State) : p (loopsRootLost s) = p s :=
  forFin_keep _ _ _ p fun d s => by rw [h.enterHold, h.endSwitch]

/-! ### Candidates (R199 to R216) -/

theorem disAll (s : State) : p s.disAll = p s :=
  forFin_keep _ _ _ p fun d s => by
    unfold State.disOne
    dsimp only
    split
    · rfl
    · rw [h.chime _ 6 (by decide), h.log, h.ref]

theorem dropPairs (s : State) (r : Fin 66) : p (s.dropPairs r) = p s := (h.disAll _).trans (h.ref s _)

theorem candSet (s : State) (r : Fin 66) (f : Cand → Cand) (b : Bool) : p (s.candSet r f b) = p s := by
  have hc (u : State) : p (u.chime 6) = p u := h.chime u 6 (by decide)
  simp only [State.candSet, apply_ite p, h.evalAll, h.unqualified, h.dropPairs, hc, h.log, h.cand, ite_self]

theorem refLoss (s : State) (r : Fin 66) : p (refLoss r s) = p s := by
  simp only [Machine.refLoss, apply_ite p, h.lostAct, h.candSet, h.cand, ite_self]

theorem refOff (s : State) (r : Fin 66) : p (refOff r s) = p s := by
  simp only [Machine.refOff, apply_ite p, h.removed, h.candSet, ite_self]

theorem refCond (s : State) (r : Fin 66) : p (refCond r s) = p s := by
  simp only [Machine.refCond, apply_ite p, h.refLoss, h.cand, ite_self]

theorem refOn (s : State) (r : Fin 66) : p (refOn r s) = p s := (h.refCond _ r).trans (h.candSet s r _ _)

/-! ### Ports and the BMCA (R349, R353) -/

theorem setPort (s : State) (l : Fin 48) (n : Nat) : p (s.setPort l n) = p s := by
  unfold State.setPort
  split
  · rfl
  · rw [h.chime _ 12 (by decide), h.lane]

theorem timeActOff (s : State) (l : Fin 48) : p (s.timeActOff l) = p s :=
  ite_keep p _ _ s ((h.refCond _ _).trans (h.lane s l _))

theorem leaveSlave (s : State) (l : Fin 48) : p (s.leaveSlave l) = p s :=
  ite_keep p _ _ s ((h.lane _ l _).trans (h.timeActOff s l))

theorem toSlave (s : State) (l : Fin 48) (m : DataSet) : p (s.toSlave l m) = p s := by
  simp only [State.toSlave, apply_ite p, h.setPort, h.lane, h.timeActOff, ite_self]

theorem toMaster (s : State) (l : Fin 48) (n : Nat) : p (s.toMaster l n) = p s := by
  simp only [State.toMaster, apply_ite p, h.setPort, h.lane, ite_self]

theorem bmcaOne (s : State) (d0 : DataSet × Bool) (eb : Option DataSet) (l : Fin 48) :
    p (s.bmcaOne d0 eb l) = p s := by
  unfold State.bmcaOne
  dsimp only
  (repeat' split) <;> simp only [h.toMaster, h.toSlave, h.leaveSlave, h.setPort]

theorem bmcaAll (s : State) : p (bmcaAll s) = p s := by
  unfold Machine.bmcaAll
  split
  · rfl
  · rw [h.utcUpdate]
    exact forFin_keep _ _ _ p fun l s => h.bmcaOne s _ _ l

end SelectionKeeps

/-! ### The fault collector and the Gong (R443 to R453) -/

theorem Flt.order_gong (now : Nat) (f : Flt) : (f.order now).gong = f.gong := by
  unfold Flt.order
  dsimp only
  (repeat' split) <;> rfl

namespace FaultKeeps
variable {α : Type} {p : State → α} (h : FaultKeeps p)
include h

theorem holdFail (s : State) (i : Fin 48) (f : Fail) : p (s.holdFail i f) = p s := by
  unfold State.holdFail State.hold
  exact h.mb s _

theorem dropSurvey (s : State) (i : Fin 48) : p (s.dropSurvey i) = p s := by
  unfold State.dropSurvey
  split
  · exact ite_keep p _ _ s ((h.gnss _ _).trans (h.gnss s _))
  · rfl

theorem dropWork (s : State) (i : Fin 48) : p (s.dropWork i) = p s := by
  unfold State.dropWork
  dsimp only
  rw [h.hif, h.nvs, h.sys, h.pair, h.gnss, h.dropSurvey, h.meas]
  exact fun _ => rfl

theorem endFail (s : State) (i : Fin 48) (f : Fail) : p (s.endFail i f) = p s :=
  (h.holdFail _ i f).trans (h.dropWork s i)

theorem handoverEnd (s : State) : p s.handoverEnd = p s := by
  unfold State.handoverEnd
  dsimp only
  rw [h.pair]
  split
  · exact h.endFail s _ _
  · rfl

theorem failInFlight (s : State) (b : Bool) (i : Fin 48) : p (s.failInFlight b i) = p s := by
  unfold State.failInFlight
  exact ite_keep p _ _ s (h.endFail s _ _)

theorem outGate (s : State) : p (outGate s) = p s := by
  unfold Machine.outGate
  exact h.out s _

theorem roleTo (s : State) (r : PairRole) : p (s.roleTo r) = p s := by
  have hc (u : State) : p (u.chime 11) = p u := h.chime u 11 (by decide)
  simp only [State.roleTo, apply_ite p, h.evalAll, h.outGate, h.refOff, h.refOn, h.refLoss, hc, h.log, h.pair, ite_self]

theorem hwClear (s : State) (k : Fin 4) : p (s.hwClear k) = p s := by
  have he (u : State) (b : Nat) : p (u.hifErr b) = p u := h.hif u _
  simp only [State.hwClear, apply_ite p, he, h.hif, ite_self]

theorem cntCls (s : State) (c : Cls) : p (s.cntCls c) = p s := by
  cases c
  case none => rfl
  all_goals
    unfold State.cntCls
    dsimp only
    rw [h.hif, h.flt]
    exact fun _ => rfl

theorem nvsClear (s : State) (k : Taken) (b : Bool) : p (s.nvsClear k b) = p s := by
  have hc (u : State) : p (u.chime 15) = p u := h.chime u 15 (by decide)
  simp only [State.nvsClear, apply_ite p, hc, h.hwClear, h.hif, ite_self]

/-- A record made in the ring: the Chime of its class aside, `ch`. -/
theorem freshRec {ch : State → State} (hc : ∀ u, p (ch u) = p u) (s : State) (k : Taken) (t l : Bool) (n : Nat)
    (g : Bool) : p (State.putRec.fresh k t l n g ch s) = p s := by
  unfold State.putRec.fresh
  dsimp only
  rw [hc, h.flt]
  · exact ite_keep p _ _ s (h.fwWrite s _)
  · exact fun _ => Flt.order_gong _ _

theorem putRec (s : State) (k : Taken) (t l : Bool) (n : Nat) (g : Bool) : p (s.putRec k t l n g) = p s := by
  have h2 (u : State) : p (u.chime 2) = p u := h.chime u 2 (by decide)
  have h3 (u : State) : p (u.chime 3) = p u := h.chime u 3 (by decide)
  have hr (f : Flt → Flt) (hg : ∀ x, (f x).gong = x.gong) :
      p ((if g && !s.flt.nvsTaken then s.fwWrite 0x0030 else s).onFlt f) = p s :=
    (h.flt _ f hg).trans (ite_keep p _ _ s (h.fwWrite s _))
  obtain ⟨⟨src, cls, code, tr, det⟩, inj, real, react⟩ := k
  unfold State.putRec
  cases cls
  case corrected =>
    dsimp only
    split
    · split
      · exact (h2 _).trans (hr _ fun _ => rfl)
      · exact h.freshRec h2 ..
    · exact h.freshRec h2 ..
  case contained =>
    dsimp only
    split
    · split
      · exact (h3 _).trans (hr _ fun _ => rfl)
      · exact h.freshRec h3 ..
    · exact h.freshRec h3 ..
  all_goals
    dsimp only
    split
    · split
      · exact hr _ fun _ => rfl
      · exact h.freshRec (fun _ => rfl) ..
    · exact h.freshRec (fun _ => rfl) ..

end FaultKeeps

/-- The Gong's flag and what the hardware clears with it (R82, R448). -/
def State.gongFlags (s : State) (injectedOnly : Bool) : State :=
  let s := ((s.onFlt fun f => { f with gong := true }).onHif fun h =>
    { h with loadEn := 0, injEnable := h.injEnable && injectedOnly }).onSys fun y => { y with test := false }
  ((if injectedOnly then s else s.hwClear 1).hwClear 0).hwClear 3

/-- What the Gong ends once the module is in FAULT_HOLD: handovers, commands in flight, the pair role or the outputs'
drive (R104, R414, R416). -/
def State.gongEnds (s : State) : State :=
  let s := forFin 48 (fun i s => s.failInFlight false i) s.handoverEnd
  if s.pair.en then (s.onPair fun p => { p with ilkOut := false, bothFrom := none }).roleTo .init else outGate s

/-- The Gong begins to sound in three steps. -/
theorem soundGong_of_silent {s : State} (b : Bool) (hg : s.flt.gong = false) :
    s.soundGong b = ((s.gongFlags b).toState .faultHold).gongEnds := by
  unfold State.soundGong
  rw [if_neg (ne_true_of_eq_false hg)]
  rfl

theorem soundGong_of_sounding {s : State} (b : Bool) (hg : s.flt.gong = true) : s.soundGong b = s := by
  rw [State.soundGong, if_pos hg]

theorem FaultKeeps.gongEnds {α : Type} {p : State → α} (h : FaultKeeps p) (s : State) : p s.gongEnds = p s := by
  have hi : p (forFin 48 (fun i s => s.failInFlight false i) s.handoverEnd) = p s :=
    (forFin_keep _ _ _ p fun i s => h.failInFlight s false i).trans (h.handoverEnd s)
  simp only [State.gongEnds, apply_ite p, h.roleTo, h.pair, h.outGate, ite_self, hi]

namespace GongKeeps
variable {α : Type} {p : State → α} (h : GongKeeps p)
include h

theorem toState (s : State) (m : ModState) : p (s.toState m) = p s :=
  toState_keep p (fun _ _ _ => h.anySys _ _) (fun _ _ => h.out _ _) (fun _ => h.out _ _) (fun _ _ _ => h.loop _ _)
    (fun _ _ => h.count _ _ _) h.arc (fun _ _ => h.hif _ _) s m

theorem gongFlags (s : State) (b : Bool) : p (s.gongFlags b) = p s := by
  simp only [State.gongFlags, h.hwClear, apply_ite p, ite_self, h.anySys, h.hif, h.anyFlt]

theorem soundGong (s : State) (b : Bool) : p (s.soundGong b) = p s := by
  cases hg : s.flt.gong with
  | true => rw [soundGong_of_sounding b hg]
  | false => rw [soundGong_of_silent b hg, h.gongEnds, h.toState, h.gongFlags]

end GongKeeps

/-! ### Projections that are kept -/

/-- What selection, the BMCA and the time properties spare: the Metronome, the Chime bit of the second and the
fault collector. -/
def State.besideSelection (s : State) : Time × Bool × Flt := (s.time.clock, s.hif.chimeStatus.getLsbD 9, s.flt)

/-- What the fault collector spares whatever it reacts with, a block reset aside: the Metronome, the Kettle, the root. -/
def State.besideFaults (s : State) : Time × Kettle × Root := (s.time.clock, s.kettle, s.root)

theorem besideSelection_parts {s u : State} (h : u.besideSelection = s.besideSelection) :
    u.time.clock = s.time.clock ∧ u.hif.chimeStatus.getLsbD 9 = s.hif.chimeStatus.getLsbD 9 ∧ u.flt = s.flt := by
  simpa only [State.besideSelection, Prod.mk.injEq] using h

theorem besideFaults_parts {s u : State} (h : u.besideFaults = s.besideFaults) :
    u.time.clock = s.time.clock ∧ u.kettle = s.kettle ∧ u.root = s.root := by
  simpa only [State.besideFaults, Prod.mk.injEq] using h

/-- The Gong and the module state, which the Gong's sounding alone moves. -/
def State.alarm (s : State) : Bool × ModState := (s.flt.gong, s.sys.mstate)

theorem besideSelection_keeps : SelectionKeeps State.besideSelection where
  time s f hf := by rw [State.besideSelection, State.onTime_time, hf]; rfl
  ptp _ _ := rfl
  arc _ _ := rfl
  nvs _ _ := rfl
  count _ _ _ := rfl
  draw _ := rfl
  chime s b hb := by
    have hz : (BitVec.ofNat 18 (2 ^ b)).getLsbD 9 = false := by
      rw [BitVec.getLsbD_ofNat, Nat.testBit_two_pow_of_ne hb, Bool.and_false]
    have h9 : (s.chime b).hif.chimeStatus.getLsbD 9 = s.hif.chimeStatus.getLsbD 9 := by
      rw [State.chime, State.onHif_hif, BitVec.getLsbD_or, hz, Bool.or_false]
    rw [State.besideSelection, h9]
    rfl
  loop _ _ := rfl
  ref _ _ := rfl

theorem besideFaults_keeps : GongKeeps State.besideFaults where
  time s f hf := by rw [State.besideFaults, State.onTime_time, hf]; rfl
  ptp _ _ := rfl
  arc _ _ := rfl
  nvs _ _ := rfl
  count _ _ _ := rfl
  draw _ := rfl
  chime _ _ _ := rfl
  loop _ _ := rfl
  ref _ _ := rfl
  hif _ _ := rfl
  mb _ _ := rfl
  out _ _ := rfl
  meas _ _ := rfl
  gnss _ _ := rfl
  pair _ _ := rfl
  sys _ _ _ := rfl
  flt _ _ _ := rfl
  anySys _ _ := rfl
  anyFlt _ _ := rfl

theorem alarm_keeps : FaultKeeps State.alarm where
  time _ _ _ := rfl
  ptp _ _ := rfl
  arc _ _ := rfl
  nvs _ _ := rfl
  count _ _ _ := rfl
  draw _ := rfl
  chime _ _ _ := rfl
  loop _ _ := rfl
  ref _ _ := rfl
  hif _ _ := rfl
  mb _ _ := rfl
  out _ _ := rfl
  meas _ _ := rfl
  gnss _ _ := rfl
  pair _ _ := rfl
  sys s f hf := by rw [State.alarm, State.onSys_sys, hf]; rfl
  flt s f hf := by rw [State.alarm, State.onFlt_flt, hf]; rfl

/-- A Gong that does not sound yet sounds, and the module is in FAULT_HOLD (R448). -/
theorem soundGong_alarm {s : State} (b : Bool) (hg : s.flt.gong = false) :
    (s.soundGong b).alarm = (true, .faultHold) := by
  have hf : (s.gongFlags b).flt.gong = true := by
    cases b <;> simp [State.gongFlags, State.hwClear, State.hifErr, apply_ite State.flt]
  rw [soundGong_of_silent b hg, alarm_keeps.gongEnds, State.alarm, State.toState_flt, State.toState_mstate, hf]

/-! ### What a report does (R443 to R453) -/

/-- A report that is neither dropped nor masked is counted before it is recorded (R457, R459). -/
def State.noted (s : State) (k : Taken) : State := (s.cntCls k.r.cls).nvsClear k false

theorem FaultKeeps.noted {α : Type} {p : State → α} (h : FaultKeeps p) (s : State) (k : Taken) : p (s.noted k) = p s :=
  (h.nvsClear _ k false).trans (h.cntCls s _)

theorem noted_react (s : State) (k : Taken) : (s.noted k).flt.react = s.flt.react := by
  have hn (u : State) : (u.nvsClear k false).flt = u.flt := by
    simp only [State.nvsClear, State.hwClear, State.hifErr, State.chime, apply_ite State.flt, State.onHif_flt, ite_self]
  rw [State.noted, hn]
  cases h : k.r.cls <;> rfl

/-- All that a report not marked transient can lead to: it is dropped, masked, recorded, or recorded with the Gong, with
the consequences of its cause, with an escalation or with a reset of its block (R444, R452, R453, R458). -/
inductive Took (s : State) (k : Taken) : State → Prop
  | dropped : Took s k s
  | masked : Took s k ((s.cntCls k.r.cls).count 0x1A00)
  | recorded (m : Nat) (hn : (s.noted k).reactionOf k false ≠ 4) : Took s k ((s.noted k).putRec k false false m false)
  | fatal (hn : (s.noted k).reactionOf k false = 4) :
      Took s k ((((s.noted k).putRec k false false 4 true).soundGong (k.injected && !k.real)).consequence k.r.code)
  | gong (hn : (s.noted k).reactionOf k false = 5) :
      Took s k (((s.noted k).putRec k false false 5 true).soundGong (k.injected && !k.real))
  | escalated (base : Nat) (b : Block) (hn : (s.noted k).reactionOf k false = 2)
      (hb : blockOf k.r.source = some (base, b)) (hr : b.resettable = true) :
      Took s k (((s.noted k).putRec k false false 5 false).cascade k.r.source)
  | reset (base : Nat) (b : Block) (hn : (s.noted k).reactionOf k false = 2)
      (hb : blockOf k.r.source = some (base, b)) (hr : b.resettable = true) :
      Took s k (((s.noted k).putRec k false false 2 false).startReset base b)

theorem take_took (s : State) (k : Taken) (ht : k.r.transient = false) : Took s k (s.take k) := by
  unfold State.take
  dsimp only
  split
  · exact .dropped
  split
  · exact .masked
  simp only [ht, Bool.false_and, Bool.false_eq_true, if_false]
  split
  next base b hn hb =>
    split
    · exact .recorded 3 (by rw [State.noted, hn]; decide)
    next hr =>
      have hr' : b.resettable = true := by
        simp only [Bool.or_eq_true, Bool.not_eq_true', not_or, Bool.not_eq_false] at hr
        obtain ⟨h, -⟩ := hr
        exact h
      split
      · exact .escalated base b hn hb hr'
      · exact .reset base b hn hb hr'
  next hn => exact .fatal hn
  next hn => exact .gong hn
  next hn4 _ _ => exact .recorded _ hn4

/-! The reaction taken, REACTION of R458, to a report of a block's own. -/

theorem reactionOf_fatal (s : State) {k : Taken} (hi : k.injected = false) (hc : k.r.cls = .fatal) :
    s.reactionOf k false = 4 := by
  simp [State.reactionOf, hi, hc]

theorem reactionOf_contained (s : State) {k : Taken} (hc : k.r.cls = .contained) : s.reactionOf k false ≠ 4 := by
  simp only [State.reactionOf, hc]
  (repeat' split) <;> decide

theorem reactionOf_default (s : State) {k : Taken} (hi : k.injected = false) (hc : k.r.cls = .contained)
    (hr : s.flt.react = []) (hk : codeResets k.r.code = false) : s.reactionOf k false = 3 := by
  simp [State.reactionOf, Flt.reactOf, hi, hc, hr, hk]

/-- A contained report of a block that cannot be reset at most sounds the Gong. -/
theorem GongKeeps.take_contained {α : Type} {p : State → α} (h : GongKeeps p) (s : State) {k : Taken} {base : Nat}
    {b : Block} (ht : k.r.transient = false) (hc : k.r.cls = .contained) (hb : blockOf k.r.source = some (base, b))
    (hr : b.resettable = false) : p (s.take k) = p s := by
  generalize hu : s.take k = u
  have hk : Took s k u := hu ▸ take_took s k ht
  cases hk with
  | dropped => rfl
  | masked => rw [h.count, h.cntCls]
  | recorded => rw [h.putRec, h.noted]
  | fatal hn => exact absurd hn (reactionOf_contained _ hc)
  | gong => rw [h.soundGong, h.putRec, h.noted]
  | escalated _ _ _ hb' hr' | reset _ _ _ hb' hr' =>
    cases hb.symm.trans hb'
    exact absurd hr' (ne_true_of_eq_false hr)

/-- A contained report with the default reaction, of a code that resets nothing, is at most recorded. -/
theorem FaultKeeps.take_default {α : Type} {p : State → α} (h : FaultKeeps p) (s : State) {k : Taken}
    (ht : k.r.transient = false) (hi : k.injected = false) (hc : k.r.cls = .contained) (hr : s.flt.react = [])
    (hk : codeResets k.r.code = false) : p (s.take k) = p s := by
  have hn : (s.noted k).reactionOf k false = 3 := reactionOf_default _ hi hc ((noted_react s k).trans hr) hk
  generalize hu : s.take k = u
  have hk : Took s k u := hu ▸ take_took s k ht
  cases hk with
  | dropped => rfl
  | masked => rw [h.count, h.cntCls]
  | recorded => rw [h.putRec, h.noted]
  | fatal h' | gong h' | escalated _ _ h' | reset _ _ h' => cases hn.symm.trans h'

/-! ### The end of a step -/

theorem toState_chimeStatus_mono (s : State) (m : ModState) {b : Nat} (h : s.hif.chimeStatus.getLsbD b = true) :
    (s.toState m).hif.chimeStatus.getLsbD b = true := by
  unfold State.toState
  dsimp only
  split
  · exact h
  · (repeat' split) <;> simp [State.chime, h]

/-- No Chime bit is cleared by the end of a step (R78). -/
theorem commit_chimeStatus_mono (s : State) {b : Nat} (h : s.hif.chimeStatus.getLsbD b = true) :
    s.commit.hif.chimeStatus.getLsbD b = true := by
  have hs : s.settle.hif.chimeStatus.getLsbD b = true :=
    toState_chimeStatus_mono _ _ (toState_chimeStatus_mono _ _ (toState_chimeStatus_mono _ _ h))
  simp [State.commit, State.latch, hs]

theorem commit_faultHold {s : State} (h : s.sys.mstate = .faultHold) : s.commit.sys.mstate = .faultHold := by
  have hs : s.settled = true := by simp [State.settled, State.nextMode, h]
  rw [commit_sys_of_settled hs, h]

theorem commit_ck (s : State) : s.commit.out.ck = s.out.ck :=
  commit_keep (fun x => x.out.ck) (fun _ _ _ => rfl) (fun _ _ => rfl) (fun _ => rfl) (fun _ _ _ => rfl)
    (fun _ _ _ => rfl) (fun _ _ => rfl) (fun _ _ => rfl) (fun _ _ => rfl) (fun _ => rfl) s

theorem commit_doms (s : State) : s.commit.out.doms = s.out.doms :=
  commit_keep (fun x => x.out.doms) (fun _ _ _ => rfl) (fun _ _ => rfl) (fun _ => rfl) (fun _ _ _ => rfl)
    (fun _ _ _ => rfl) (fun _ _ => rfl) (fun _ _ => rfl) (fun _ _ => rfl) (fun _ => rfl) s

theorem Time.clock_metro (x : Time) : x.clock.metro = x.metro := rfl

/-- The Metronome's reading lies in the part of the time unit that the time properties spare. -/
theorem mt_of_clock {s u : State} (h : u.time.clock = s.time.clock) : u.mt = s.mt := by
  have hm := congrArg Time.metro h
  rw [Time.clock_metro, Time.clock_metro] at hm
  rw [State.mt, hm, State.mt]

end Sys2Proof.Machine

/-!
SUPPORT and SETTLING. The seconds of the Metronome and the leap seconds (O43).
-/

namespace Sys2Proof.Machine

/-! ### A second of the Metronome (R18, R78) -/

theorem besideSelection_ringCount (s : State) : s.ringCount.besideSelection = s.besideSelection := by
  have hr (u : State) (f : Root → Root) : (u.onRoot f).besideSelection = u.besideSelection := rfl
  simp only [State.ringCount, apply_ite State.besideSelection, hr, besideSelection_keeps.count, ite_self]

theorem besideSelection_slewSeconds (s : State) : s.slewSeconds.besideSelection = s.besideSelection :=
  forFin_keep _ _ _ _ fun _ s => ite_keep _ _ _ s (besideSelection_keeps.count s _ _)

theorem besideSelection_slewBegin (s : State) : s.slewBegin.besideSelection = s.besideSelection := by
  unfold State.slewBegin
  exact ite_keep _ _ _ s rfl

theorem besideSelection_offsetNow (s : State) : s.offsetNow.besideSelection = s.besideSelection := by
  have ha (u : State) (f : Age → Age) : (u.onAge f).besideSelection = u.besideSelection := rfl
  simp only [State.offsetNow, State.takeHour, apply_ite State.besideSelection, ha, ite_self]

theorem besideSelection_secHold (d : Fin 8) (s : State) : (s.secHold d).besideSelection = s.besideSelection := by
  simp only [State.secHold, apply_ite State.besideSelection, besideSelection_keeps.loadHold, besideSelection_keeps.dpll,
    ite_self]

/-- A second not taken yet is taken, with its Chime, and the rest of the second's work leaves both and the Metronome. -/
theorem metronomeSecond_ends {s : State} {t : Nat} (hn : s.time.lastSec < (s.advance t).msec)
    (hl : s.kettle.lost = false) :
    ∃ v, execMetronomeSecond t s = done v ∧ v.besideSelection =
      (((s.advance t).onTime fun x => { x with lastSec := (s.advance t).msec }).chime 9).besideSelection := by
  have hg : ((s.advance t).msec ≤ (s.advance t).time.lastSec || (s.advance t).kettle.lost) = false := by
    simpa [hl] using hn
  unfold execMetronomeSecond
  dsimp only
  rw [hg, if_neg Bool.false_ne_true]
  refine ⟨_, rfl, ?_⟩
  have hh (u : State) (f : Option StrobeReq → Option StrobeReq) :
      (u.onHif fun h => { h with pend := f h.pend, queued := f h.queued }).besideSelection = u.besideSelection := rfl
  have hp (u : State) (f : Pair → Pair) : (u.onPair f).besideSelection = u.besideSelection := rfl
  rw [hh, besideSelection_keeps.bmcaAll, hp, besideSelection_keeps.ptp, besideSelection_keeps.budgetAll,
    forFin_keep _ _ _ _ besideSelection_secHold, besideSelection_offsetNow, besideSelection_keeps.loop,
    besideSelection_keeps.arc, besideSelection_slewBegin, besideSelection_slewSeconds, besideSelection_ringCount]

theorem metronomeSecond_taken {s : State} {t : Nat} (hn : s.time.lastSec < (s.advance t).msec)
    (hl : s.kettle.lost = false) :
    Completes (exec (.metronomeSecond t) s) fun u =>
      u.time.lastSec = (s.advance t).msec ∧ u.hif.chimeStatus.getLsbD 9 = true ∧ u.mt = (s.advance t).mt := by
  obtain ⟨v, hv, hk⟩ := metronomeSecond_ends hn hl
  obtain ⟨hc, hb, -⟩ := besideSelection_parts hk
  show Completes (execMetronomeSecond t s) _
  rw [hv, completes_done, mt_of_clock (congrArg Time.clock v.commit_time), State.commit_time]
  refine ⟨congrArg Time.lastSec hc, commit_chimeStatus_mono _ (hb.trans ?_), ?_⟩
  · simp [State.chime]
  · exact (mt_of_clock hc).trans rfl

/-! ### Leap seconds (R128, R129) -/

theorem out_keeps : UtcKeeps State.out where
  time _ _ _ := rfl
  ptp _ _ := rfl
  arc _ _ := rfl
  nvs _ _ := rfl
  count _ _ _ := rfl
  draw _ := rfl
  chime _ _ _ := rfl

theorem leapFlagSet_due {s : State} {t : Nat} (he : s.time.event ≠ 0)
    (hd : s.time.event ≤ (s.advance t).msec + 43200) :
    Completes (exec (.leapFlagSet t) s) fun u =>
      u.time.leap61 = decide (s.time.leap = 1) ∧ u.time.leap59 = decide (s.time.leap = -1) ∧
      u.time.offset = s.time.offset := by
  show Completes (execLeapFlagSet t s) _
  unfold execLeapFlagSet
  dsimp only
  rw [if_pos (by simpa using ⟨he, hd⟩), completes_done]
  simp [leapDue, he, hd]

theorem leapEvent_due {s : State} {t : Nat} (he : s.time.event ≠ 0) (hd : s.time.event ≤ (s.advance t).msec) :
    exec (.leapEvent t) s = done (utcUpdate (s.advance t)) := by
  show execLeapEvent t s = _
  unfold execLeapEvent
  dsimp only
  rw [if_pos (by simpa using ⟨he, hd⟩)]

theorem utcUpdate_mt (s : State) : (utcUpdate s).mt = s.mt :=
  mt_of_clock (congrArg Prod.fst (besideSelection_keeps.utcUpdate s))

/-- Settles O43: each row's effect on the state at its instant, and what the end of the step keeps of it. -/
theorem secondsAndLeapEvents : Obligations.SecondsAndLeapEvents := by
  refine ⟨fun _ _ hn hl => metronomeSecond_taken hn hl, fun _ _ he hd => leapFlagSet_due he hd, fun s t he hd => ?_⟩
  rw [leapEvent_due he hd]
  refine ⟨rfl, completes_done.mpr ⟨?_, ?_, ?_⟩⟩
  · rw [mt_of_clock (congrArg Time.clock (State.commit_time _)), utcUpdate_mt]
  · rw [commit_ck, out_keeps.utcUpdate, State.advance_out]
  · rw [commit_doms, out_keeps.utcUpdate, State.advance_out]

end Sys2Proof.Machine

/-!
SUPPORT and SETTLING. The Kettle, its oven and the root PLL (O44).
-/

namespace Sys2Proof.Machine

/-! ### The Kettle and its oven (R20, R179 to R181) -/

/-- A contained report of the Kettle's, whose block cannot be reset, leaves the Kettle's own state. -/
theorem report_kettle (s : State) (code : Nat) : (s.report 0x000 .contained code).kettle = s.kettle :=
  congrArg (·.2.1) (besideFaults_keeps.take_contained s (b := .kettle) rfl rfl rfl rfl)

theorem goCold_kettle (s : State) :
    s.goCold.kettle.warm = false ∧ (s.kettle.warm = true → s.goCold.kettle.ovenFault = true) ∧
    s.goCold.kettle.heaterOn = s.kettle.heaterOn := by
  unfold State.goCold
  split
  · simp [report_kettle]
  next hw => simp [hw]

theorem kettleOven_clears {s : State} {t : Nat} (hw : s.kettle.warm = true) :
    Completes (exec (.kettleOven t) s) fun u => u.kettle.warm = false ∧ u.kettle.ovenFault = true := by
  obtain ⟨hc, hf, -⟩ := goCold_kettle (s.advance t)
  refine completes_done.mpr ?_
  rw [State.commit_kettle]
  exact ⟨hc, hf (by rwa [State.advance_kettle])⟩

theorem vddOvenFall_kettle (s : State) (t : Nat) :
    Completes (exec (.vddOvenFall t) s) fun u => u.kettle.heaterOn = false ∧ u.kettle.warm = false := by
  obtain ⟨hc, -, hh⟩ := goCold_kettle ((s.advance t).onKettle fun k => { k with heaterOn := false })
  refine completes_done.mpr ?_
  rw [State.commit_kettle]
  exact ⟨hh, hc⟩

theorem vddOvenReturn_kettle (s : State) (t : Nat) :
    Completes (exec (.vddOvenReturn t) s) fun u => u.kettle.heaterOn = true ∧ u.kettle.warm = s.kettle.warm :=
  completes_done.mpr (by simp)

theorem kettleWarmSet_kettle {s : State} {t : Nat} (hw : s.kettle.warm = false) (hh : s.kettle.heaterOn = true)
    (hl : s.kettle.lost = false) :
    Completes (exec (.kettleWarmSet t) s) fun u => u.kettle.warm = true ∧ u.kettle.ovenFault = false := by
  show Completes (execKettleWarmSet t s) _
  unfold execKettleWarmSet
  dsimp only
  rw [if_neg (by simp [hw, hh, hl]), completes_done]
  simp

theorem kettleSensor_kettle (s : State) (t : Nat) (b : Bool) :
    Completes (exec (.kettleSensor t b) s) fun u => u.kettle.sensorFault = true ∧ u.kettle.thermB = b :=
  completes_done.mpr (by simp [report_kettle])

/-! ### A loss of the Kettle (R20, R451) -/

/-- What a Kettle loss is to the module. -/
def State.kettleDead (s : State) : Prop :=
  s.kettle.lost = true ∧ s.time.invalid = true ∧ s.flt.gong = true ∧ s.sys.mstate = .faultHold

theorem consequence_kettleLoss (s : State) :
    (s.consequence 0x06).kettle.lost = true ∧ (s.consequence 0x06).time.invalid = true ∧
    (s.consequence 0x06).alarm = s.alarm :=
  ⟨rfl, rfl, rfl⟩

/-- The Gong and the loss's consequences act in either order. -/
theorem kettleDead_of_gong_first {s : State} (hg : s.flt.gong = false) :
    ((s.soundGong false).consequence 0x06).kettleDead := by
  obtain ⟨hl, hi, ha⟩ := consequence_kettleLoss (s.soundGong false)
  obtain ⟨hs, hm⟩ := Prod.mk.inj (ha.trans (soundGong_alarm false hg))
  exact ⟨hl, hi, hs, hm⟩

theorem kettleDead_of_gong_last {s : State} (hg : s.flt.gong = false) :
    ((s.consequence 0x06).soundGong false).kettleDead := by
  obtain ⟨hl, hi, ha⟩ := consequence_kettleLoss s
  obtain ⟨hs, hm⟩ := Prod.mk.inj (soundGong_alarm (s := s.consequence 0x06) false ((congrArg Prod.fst ha).trans hg))
  have hk := besideFaults_keeps.soundGong (s.consequence 0x06) false
  refine ⟨?_, ?_, hs, hm⟩
  · exact (congrArg (·.2.1.lost) hk).trans hl
  · exact (congrArg (·.1.invalid) hk).trans hi

theorem State.kettleDead.commit {s : State} (h : s.kettleDead) : s.commit.kettleDead := by
  obtain ⟨hl, hi, hg, hm⟩ := h
  refine ⟨?_, ?_, ?_, commit_faultHold hm⟩
  · rwa [State.commit_kettle]
  · rwa [State.commit_time]
  · rwa [State.commit_flt]

/-- The Kettle's loss of its own, as the collector takes it. -/
def kettleLossReport : Taken := { r := { source := 0x000, cls := .fatal, code := 0x06, detail := wd 0 } }

/-- Dropped or masked, the report leaves the loss to act by itself; taken, it brings the loss along. -/
theorem take_kettleLoss {s : State} (hl : s.kettle.lost = false) (hg : s.flt.gong = false) :
    ((s.take kettleLossReport).kettle.lost = false ∧ (s.take kettleLossReport).flt.gong = false) ∨
    (s.take kettleLossReport).kettleDead := by
  have hn : (s.noted kettleLossReport).reactionOf kettleLossReport false = 4 := reactionOf_fatal _ rfl rfl
  generalize hu : s.take kettleLossReport = u
  have hk : Took s kettleLossReport u := hu ▸ take_took _ _ rfl
  cases hk with
  | dropped | masked => exact .inl ⟨hl, hg⟩
  | fatal =>
    have ha := (alarm_keeps.putRec _ kettleLossReport false false 4 true).trans (alarm_keeps.noted s kettleLossReport)
    exact .inr (kettleDead_of_gong_first ((congrArg Prod.fst ha).trans hg))
  | recorded _ h => exact absurd hn h
  | gong h | escalated _ _ h | reset _ _ h => cases hn.symm.trans h

theorem kettleLoss_dead {s : State} {t : Nat} (hl : s.kettle.lost = false) (hg : s.flt.gong = false) :
    Completes (exec (.kettleLoss t) s) State.kettleDead := by
  have hl' : (s.advance t).kettle.lost = false := by rwa [State.advance_kettle]
  have hr : (s.advance t).report 0x000 .fatal 0x06 = (s.advance t).take kettleLossReport := rfl
  show Completes (execKettleLoss t s) _
  unfold execKettleLoss
  dsimp only
  rw [hr, if_neg (ne_true_of_eq_false hl'), completes_done]
  refine State.kettleDead.commit ?_
  obtain ⟨hl'', hg''⟩ | hd := take_kettleLoss hl' (by rwa [State.advance_flt])
  · rw [if_neg (ne_true_of_eq_false hl'')]
    exact kettleDead_of_gong_last hg''
  · have ⟨hlost, _⟩ := hd
    rwa [if_pos hlost]

/-! ### The root PLL (R298 to R300) -/

/-- A contained report of the root's with the default reaction leaves the root's own state. -/
theorem report_root {s : State} (hr : s.flt.react = []) : (s.report 0x010 .contained 0x09).root = s.root :=
  congrArg (·.2.2) (besideFaults_keeps.take_default s rfl rfl rfl hr rfl)

theorem loopsRootLost_root (s : State) : (loopsRootLost s).root = s.root := by
  obtain ⟨-, -, h⟩ := besideFaults_parts (besideFaults_keeps.loopsRootLost s)
  exact h

theorem loopsRootLost_flt (s : State) : (loopsRootLost s).flt = s.flt := by
  obtain ⟨-, -, h⟩ := besideSelection_parts (besideSelection_keeps.loopsRootLost s)
  exact h

theorem evalAll_root (s : State) : (evalAll s).root = s.root := congrArg (·.2.2) (besideFaults_keeps.evalAll s)

theorem rootDeclare_root (s : State) (khz : Nat) :
    (s.rootDeclare khz).root =
      { s.root with st := .search, onRing := true, losses := satU 32 (s.root.losses + 1), lastLoss := s.mt,
                    lossAt := s.now, ringKhz := khz, inLoss := true, invalidSpan := true, waitFrom := none,
                    seqFrom := s.now, ringMs := s.now } := by
  have hr (u : State) : (refsRootLost (measRootLost u)).root = u.root := rfl
  unfold State.rootDeclare
  rw [loopsRootLost_root, hr]
  rfl

theorem rootDeclare_flt (s : State) (khz : Nat) : (s.rootDeclare khz).flt = s.flt := by
  unfold State.rootDeclare
  rw [loopsRootLost_flt]
  rfl

theorem react_of_quietFaults {s : State} (h : s.quietFaults = true) : s.flt.react = [] := by
  simp only [State.quietFaults, Bool.and_eq_true, List.isEmpty_iff] at h
  obtain ⟨-, hr⟩ := h
  exact hr

theorem rootLoss_root {s : State} {t khz : Nat} (hl : s.root.inLoss = false) (hq : s.quietFaults = true) :
    Completes (exec (.rootLoss t khz) s) fun u =>
      u.root.inLoss = true ∧ u.root.onRing = true ∧ u.root.st = .search ∧ u.root.invalidSpan = true ∧
      u.root.losses = satU 32 (s.root.losses + 1) ∧ u.root.ringKhz = khz ∧ u.root.lastLoss = (s.advance t).mt := by
  have hr : ((s.advance t).rootDeclare khz).flt.react = [] := by
    rw [rootDeclare_flt, State.advance_flt, react_of_quietFaults hq]
  show Completes (execRootLoss t khz s) _
  unfold execRootLoss
  dsimp only
  rw [if_neg (by simp [hl]), completes_done, State.commit_root, report_root hr, rootDeclare_root, State.advance_root]
  exact ⟨rfl, rfl, rfl, rfl, rfl, rfl, rfl⟩

/-- Of finitely many things one has the least measure. -/
theorem exists_least {α : Type} (f : α → Nat) : ∀ {l : List α}, l ≠ [] → ∃ b ∈ l, ∀ c ∈ l, f b ≤ f c
  | [], h => absurd rfl h
  | [a], _ => ⟨a, List.mem_singleton_self a, fun _ hc => Nat.le_of_eq (congrArg f (List.mem_singleton.mp hc).symm)⟩
  | a :: x :: l, _ => by
    obtain ⟨b, hb, hl⟩ := exists_least f (List.cons_ne_nil x l)
    by_cases hab : f a ≤ f b
    · refine ⟨a, List.mem_cons_self, fun c hc => ?_⟩
      obtain rfl | hc := List.mem_cons.mp hc
      · exact Nat.le_refl _
      · exact Nat.le_trans hab (hl c hc)
    · refine ⟨b, List.mem_cons_of_mem a hb, fun c hc => ?_⟩
      obtain rfl | hc := List.mem_cons.mp hc
      · exact Nat.le_of_not_le hab
      · exact hl c hc

/-- Some band's count is nearest (R299). -/
theorem nearestBands_ne_nil (l : List Nat) : nearestBands l ≠ [] := by
  obtain ⟨b, -, hb⟩ := exists_least (fun b : Fin 32 => ((l.getD b.val 0 : Int) - 1280).natAbs)
    (List.ne_nil_of_mem (List.mem_finRange 0))
  have hm : b ∈ nearestBands l := by
    simp only [nearestBands, List.mem_filter, List.mem_finRange, List.all_eq_true, decide_eq_true_eq, true_and]
    exact fun c _ => hb c (List.mem_finRange c)
  exact List.ne_nil_of_mem hm

theorem chooseBand_mem (s : State) (l : List Nat) : (s.chooseBand l).1 ∈ nearestBands l := by
  unfold State.chooseBand
  split
  next h => exact absurd h (nearestBands_ne_nil l)
  next b h => rw [h]; exact List.mem_singleton_self b
  next b r _ h =>
    have hi (n : Nat) : n % (r.length + 1) < (b :: r).length := Nat.mod_lt _ (Nat.succ_pos _)
    rw [h, List.getD_eq_getElem?_getD, List.getElem?_eq_getElem (hi _), Option.getD_some]
    exact List.getElem_mem _

section
variable {s : State} {t : Nat} {l : List Nat} (hl : s.root.inLoss = true) (hw : s.root.waitFrom = none)
  (hr : s.sys.inReset = false) (hp : (s.advance t).past s.root.seqFrom searchU = true)
include hl hw hr hp

/-- A relock is due once the search's time has passed in a loss. -/
theorem relock_due :
    ((!(s.advance t).root.inLoss && decide ((s.advance t).root.st = .locked)) || (s.advance t).root.waitFrom.isSome ||
      (s.advance t).sys.inReset || !(s.advance t).past (s.advance t).root.seqFrom searchU) = false := by
  simp [hl, hw, hr, hp]

theorem rootRelock_locks :
    Completes (exec (.rootRelock t l true) s) fun u =>
      u.root.inLoss = false ∧ u.root.onRing = false ∧ u.root.st = .locked ∧ u.root.band ∈ nearestBands l ∧
      u.root.invalidSpan = false := by
  show Completes (execRootRelock t l true s) _
  unfold execRootRelock
  dsimp only
  rw [relock_due hl hw hr hp, if_neg Bool.false_ne_true, if_pos rfl, completes_done, State.commit_root, evalAll_root]
  exact ⟨rfl, rfl, rfl, chooseBand_mem _ l, rfl⟩

theorem rootRelock_fails (hq : s.quietFaults = true) :
    Completes (exec (.rootRelock t l false) s) fun u =>
      u.root.fails = satU 32 (s.root.fails + 1) ∧ u.root.waitFrom = some (s.advance t).now ∧ u.root.inLoss = true := by
  have hf : (s.advance t).flt.react = [] := by rw [State.advance_flt, react_of_quietFaults hq]
  show Completes (execRootRelock t l false s) _
  unfold execRootRelock
  dsimp only
  rw [relock_due hl hw hr hp, if_neg Bool.false_ne_true, if_neg Bool.false_ne_true, completes_done, State.commit_root,
    report_root (by exact hf)]
  simp [hl]

end

theorem rootRelockRetry_starts {s : State} {t w : Nat} (hw : s.root.waitFrom = some w)
    (hp : (s.advance t).past w secU = true) :
    Completes (exec (.rootRelockRetry t) s) fun u => u.root.waitFrom = none ∧ u.root.seqFrom = (s.advance t).now := by
  have h : execRootRelockRetry t s = done (s.advance t).rootSearch := by
    unfold execRootRelockRetry
    dsimp only
    rw [State.advance_root, hw]
    exact if_pos hp
  show Completes (execRootRelockRetry t s) _
  rw [h, completes_done, State.commit_root]
  exact ⟨rfl, rfl⟩

/-- Settles O44: the Kettle's loss with the Gong's rule, its oven and the root field by field, through what each report
leaves alone. -/
theorem kettleAndRootEvents : Obligations.KettleAndRootEvents :=
  ⟨fun _ _ hl hg => kettleLoss_dead hl hg,
   fun _ _ hw => kettleOven_clears hw,
   vddOvenFall_kettle,
   vddOvenReturn_kettle,
   fun _ _ hw hh hl => kettleWarmSet_kettle hw hh hl,
   kettleSensor_kettle,
   fun _ _ _ hl hq => rootLoss_root hl hq,
   fun _ _ _ hl hw hr hp => rootRelock_locks hl hw hr hp,
   fun _ _ _ hl hw hr hp hq => rootRelock_fails hl hw hr hp hq,
   fun _ _ _ hw hp => rootRelockRetry_starts hw hp⟩

end Sys2Proof.Machine

/-!
SUPPORT. The turn of an unstaged mailbox command that passes its checks (R92, R94, R98): it answers, or goes on in its
deferred part.
-/

namespace Sys2Proof.Machine

/-- No check fails just when none of them holds its condition (R92). -/
theorem firstFail_eq_none {l : Checks} : firstFail l = none ↔ ∀ p ∈ l, p.1 = false := by
  simp [firstFail]

section
variable {u s' : State} {i : Fin 48} {c : Cmd} {st : Bool} {ch : Bool → Args → State → Checks}
  {body : Fin 48 → Args → State → State × Reply}

theorem State.ready_iff :
    u.ready i c st = true ↔ u.runs i c = true ∧ hdrStaged (u.tag i).hdr = st ∧
      firstFail (c.checks i (u.tag i).priv st (u.tag i).args u) = none := by
  simp only [State.ready, Bool.and_eq_true, beq_iff_eq, Option.isNone_iff_eq_none, and_assoc]

theorem State.readyTurn_iff :
    u.readyTurn i c ch = true ↔ u.runs i c = true ∧ hdrStaged (u.tag i).hdr = false ∧
      firstFail (ch (u.tag i).priv (u.tag i).args u) = none := by
  simp only [State.readyTurn, Bool.and_eq_true, Bool.not_eq_true', Option.isNone_iff_eq_none, and_assoc]

/-- A command that is judged in its turn by the checks of its acceptance. -/
theorem readyTurn_of_ready (h : u.ready i c false = true)
    (hc : ch (u.tag i).priv (u.tag i).args u = c.checks i (u.tag i).priv (hdrStaged (u.tag i).hdr) (u.tag i).args u) :
    u.readyTurn i c ch = true := by
  obtain ⟨hr, hs, hf⟩ := State.ready_iff.1 h
  exact State.readyTurn_iff.2 ⟨hr, hs, by rw [hc, hs, hf]⟩

theorem runCmd_answers {d : List Word} (h : u.readyTurn i c ch = true) (hb : body i (u.tag i).args u = (s', .ok d)) :
    runCmd c i ch body u = done (s'.holdOk i d) := by
  obtain ⟨hr, hs, hf⟩ := State.readyTurn_iff.1 h
  exact runCmd_ok hr hf hs hb

theorem State.running_of_readyTurn (h : u.readyTurn i c ch = true) : (u.tag i).st = .running := by
  obtain ⟨hr, -, -⟩ := State.readyTurn_iff.1 h
  simp only [State.runs, Bool.and_eq_true, decide_eq_true_eq] at hr
  obtain ⟨⟨⟨hr, -⟩, -⟩, -⟩ := hr
  exact hr

/-- A command whose body leaves its tag alone and goes on is in its deferred part afterwards (R94). -/
theorem runCmd_goesOn (h : u.readyTurn i c ch = true) (hb : body i (u.tag i).args u = (s', .deferred))
    (ht : s'.tag i = u.tag i) : runCmd c i ch body u = done (s'.defer i) ∧ (s'.defer i).commit.inDeferred i := by
  have hst : (s'.tag i).st = .running := by rw [ht, State.running_of_readyTurn h]
  obtain ⟨hr, hs, hf⟩ := State.readyTurn_iff.1 h
  refine ⟨by rw [runCmd_defers hr hf hs hb, if_pos hst], ?_⟩
  rw [State.inDeferred, State.commit_tag, State.defer, State.tag_tagMod_same]
  exact ⟨hst, rfl⟩

/-- The response OK of a command that has ended (R98). -/
theorem holdOk_heldOk (s : State) (i : Fin 48) (d : List Word) : (s.holdOk i d).commit.heldOk i d := by
  rw [State.heldOk, State.commit_tag, State.holdOk, State.tag_hold_same]
  exact ⟨rfl, rfl, rfl, rfl⟩

theorem State.tag_holdOk_ne {s : State} {i k : Fin 48} {d : List Word} (h : k ≠ i) : (s.holdOk i d).tag k = s.tag k :=
  s.tag_hold_ne i k _ _ _ h.symm

end

end Sys2Proof.Machine

/-!
SUPPORT and SETTLING. Acknowledgements, acceptance and dispatch (O14, O24).
-/

namespace Sys2Proof.Machine

/-- An acknowledgement of a tag that holds no response is ignored (R101). -/
theorem ack_not_held {s : State} {w : Word} {i : Fin 48} (hw : wordTag w = some i) (h : (s.tag i).st ≠ .held) :
    s.ack w = s := by
  simp [State.ack, hw, h]

/-- Settles O14: the register's write finds no response held and leaves the state as the port's frame left it. -/
theorem acknowledgementNeverAborts : Obligations.AcknowledgementNeverAborts := by
  intro s t p w i hd hr hw hs hh
  obtain ⟨v, hv⟩ := portWrite_first (s := s.advance t) (p := p) (a := 0x0209) (priv := false) (w := w)
    (by simpa using hd) (by simpa using hr) (by decide) fun hp => noSvc_of_noSvcAt (hs hp)
  have hack : ((s.advance t).tookWord p 0x0209).writeAt p (framePriv p false) (0x0209 : BitVec 16).toNat w =
      (s.advance t).tookWord p 0x0209 :=
    ack_not_held hw (by simpa [State.tookWord, State.tag] using hh)
  refine completes_done.2 ?_
  rw [hv, hack]
  simp [State.tookWord, State.portMod]

/-- Waking the aborts leaves a tag that does not run as it is (R117). -/
theorem wakeAborts_tag {s : State} {k j : Fin 48} (h : (s.tag j).st ≠ .running) :
    (s.wakeAborts k).tag j = s.tag j := by
  unfold State.wakeAborts forFin
  generalize List.finRange 48 = l
  induction l generalizing s with
  | nil => rfl
  | cons i l ih =>
    have hi : (if (s.tag i).st = .running ∧ (s.tag i).cmd = some .sysAbort ∧ (s.tag i).note = 1 ∧
        abortTarget (s.tag i).args = some k then s.tagMod i fun y => { y with note := 0 } else s).tag j = s.tag j := by
      split
      next hr =>
        obtain ⟨hr, -⟩ := hr
        exact s.tag_tagMod_ne i j _ (by rintro rfl; exact h hr)
      next => rfl
    rw [List.foldl_cons, ih (by rw [hi]; exact h), hi]

/-- The place of a post in its group's queue does not move with time (R93). -/
theorem behind_advance (t : Nat) (s : State) (i k : Fin 48) : (s.advance t).behind i k = s.behind i k := by
  simp [State.behind]

section
variable {s : State} {t : Nat} {i : Fin 48}

/-- COMMAND_ACCEPTANCE of a post that passes its checks (R92). -/
theorem commandAcceptance_passes (hp : (s.tag i).st = .posted) (hr : s.hif.fwReady = true)
    (hf : (s.advance t).acceptFail i = none) :
    Completes (exec (.commandAcceptance t i) s) fun u => u.tag i = { s.tag i with st := .queued } := by
  have he : exec (.commandAcceptance t i) s =
      done (((s.advance t).tagMod i fun x => { x with st := .queued }).wakeAborts i) := by
    simp [exec, execCommandAcceptance, hp, hr, hf]
  have ht : ((s.advance t).tagMod i fun x => { x with st := .queued }).tag i = { s.tag i with st := .queued } := by
    rw [State.tag_tagMod_same, State.advance_tag]
  rw [he, completes_done, State.commit_tag, wakeAborts_tag (by simp [ht]), ht]

/-- COMMAND_ACCEPTANCE of a post whose first failing check is `f` (R92, R102). -/
theorem commandAcceptance_refuses {f : Fail} (hp : (s.tag i).st = .posted) (hr : s.hif.fwReady = true)
    (hf : (s.advance t).acceptFail i = some f) :
    Completes (exec (.commandAcceptance t i) s) fun u => u.heldFail i f := by
  have he : exec (.commandAcceptance t i) s = done (((s.advance t).holdFail i f).wakeAborts i) := by
    simp [exec, execCommandAcceptance, hp, hr, hf]
  have ht : ((s.advance t).holdFail i f).tag i =
      { s.tag i with st := .held, deferred := false, status := f.status, staged := false, reads := 0, data := [f.data],
                     note := 0 } := by
    rw [State.holdFail, State.tag_hold_same, State.advance_tag]
    simp [Tag.acceptedStaged, hp]
  rw [he, completes_done, State.heldFail, State.commit_tag, wakeAborts_tag (by simp [ht]), ht]
  exact ⟨rfl, rfl, rfl, rfl⟩

theorem acceptFail_of_empty (hw : (s.tag i).win = []) : s.acceptFail i = some { status := stBadLength } := by
  simp [State.acceptFail, hw]

theorem acceptFail_of_unknown (hw : (s.tag i).win ≠ []) (hc : (s.tag i).cmd = none) :
    s.acceptFail i = some { status := stBadOpcode } := by
  simp [State.acceptFail, hw, hc]

theorem injectStart_tag (i k : Fin 48) : (s.injectStart i).tag k = s.tag k := by
  unfold State.injectStart
  split <;> rfl

/-- COMMAND_DISPATCH of a queued command at the head of its group's queue (R93, R94). -/
theorem commandDispatch_begins (hq : (s.tag i).st = .queued) (hr : s.hif.fwReady = true)
    (hb : ∀ k, s.behind i k = false) :
    Completes (exec (.commandDispatch t i) s) fun u =>
      u.tag i = { s.tag i with st := .running } ∧ ∀ k, k ≠ i → u.tag k = s.tag k := by
  have he : exec (.commandDispatch t i) s =
      done (((s.advance t).injectStart i).tagMod i fun x => { x with st := .running }) := by
    simp [exec, execCommandDispatch, hq, hr, hb, behind_advance]
  rw [he, completes_done]
  refine ⟨?_, fun k hk => ?_⟩
  · rw [State.commit_tag, State.tag_tagMod_same, injectStart_tag, State.advance_tag]
  · rw [State.commit_tag, State.tag_tagMod_ne _ _ _ _ hk.symm, injectStart_tag, State.advance_tag]

theorem commandDispatch_waits {k : Fin 48} (hb : s.behind i k = true) :
    exec (.commandDispatch t i) s = .next (s.advance t).commit := by
  have hn : (List.finRange 48).all (fun k => !(s.advance t).behind i k) = false := by
    rw [List.all_eq_false]
    exact ⟨k, List.mem_finRange k, by simp [behind_advance, hb]⟩
  simp [exec, execCommandDispatch, hn, done]

end

/-- Settles O24: acceptance answers its first failing check, or queues; dispatch begins what is behind nothing. -/
theorem acceptanceAndDispatch : Obligations.AcceptanceAndDispatch := by
  refine ⟨fun s t i hp hr hf => ?_, fun _ _ _ _ hp hr hf => commandAcceptance_refuses hp hr hf,
    fun s t i hp hr hw => ?_, fun s t i hp hr hw hc => ?_,
    fun _ _ _ hq hr hb => commandDispatch_begins hq hr hb, fun _ _ _ _ hb => commandDispatch_waits hb⟩
  · obtain ⟨u, hu, ht⟩ := commandAcceptance_passes hp hr hf
    exact ⟨u, hu, by rw [ht], by rw [ht]⟩
  · exact commandAcceptance_refuses hp hr (acceptFail_of_empty (by rw [State.advance_tag, hw]))
  · exact commandAcceptance_refuses hp hr
      (acceptFail_of_unknown (by rw [State.advance_tag]; exact hw) (by rw [State.advance_tag, hc]))

end Sys2Proof.Machine

/-!
SUPPORT and SETTLING. Unstaged commands, the SYS commands, and the commands that are refused or only report (O27, O29,
O25, O28).
-/

namespace Sys2Proof.Machine

/-! ### Commands that can be staged (R96, R97) -/

/-- An unstaged command whose body is its value's effect. -/
theorem runCmd_applies {u : State} {i : Fin 48} {c : Cmd} {ch : Bool → Args → State → Checks}
    {body : Fin 48 → Args → State → State × Reply} {d : List Word} (h : u.ready i c false = true)
    (hc : ch (u.tag i).priv (u.tag i).args u = c.checks i (u.tag i).priv (hdrStaged (u.tag i).hdr) (u.tag i).args u)
    (hb : body i (u.tag i).args u = (applyStaged { cmd := c, args := (u.tag i).args } u, .ok d)) :
    ∃ d, runCmd c i ch body u = done ((applyStaged { cmd := c, args := (u.tag i).args } u).holdOk i d) :=
  ⟨d, runCmd_answers (readyTurn_of_ready h hc) hb⟩

/-- An OUT_CONFIG that passes its checks names an output (R313). -/
theorem outConfig_output {p : Bool} {a : Args} {u : State} (h : firstFail (outConfigChecks p a u) = none) :
    ∃ n, argCk a = some n := by
  have hc : (cond (argCk a).isNone (badArg 0 0 0x0001)).1 = false :=
    firstFail_eq_none.1 h _ (by simp [outConfigChecks])
  exact Option.isSome_iff_exists.1 (by simpa [cond] using hc)

/-- Settles O27: the body of each of these commands is its value's effect, with words that answer it. -/
theorem unstagedCommandActsAsAtTheStrobe : Obligations.UnstagedCommandActsAsAtTheStrobe := by
  intro x t i c s hx hs hn h
  rw [← State.advance_tag t s]
  cases x with
  | timeLeap | measConfigCh | refConfig | refLimits | refSelect | refPriority | refWtr | loopConfig | loopBwSchedule |
    loopHoldoverConfig | synConfig | synRampLoad | synRampRun | outPulseConfig | outRealign | ptpPortConfig |
    ptpProfile | ptpSynceConfig | gnssConfig | gnssCableDelay | pairConfig =>
    cases hx
    dsimp only [exec, execLoopConfig]
    exact runCmd_applies h rfl rfl
  | outConfig =>
    cases hx
    dsimp only [exec]
    obtain ⟨-, -, hf⟩ := State.ready_iff.1 h
    obtain ⟨n, ho⟩ := outConfig_output (p := false) hf
    exact runCmd_applies h rfl (by simp only [outConfigBody, ho]; rfl)
  | timeSet =>
    cases hx
    exact absurd rfl hn
  | _ =>
    cases hx <;> cases hs

/-! ### The SYS commands (R112 to R117) -/

section
variable {s : State} {t : Nat} {i : Fin 48}

/-- SYS_FW_STAGE (R115). -/
theorem sysFwStage_stages (h : (s.advance t).readyTurn i .sysFwStage sysFwStageTurn = true) :
    Completes (exec (.sysFwStage t i) s) fun u =>
      u.sys.staging = (if ab (s.tag i).args 0 31 then [] else s.sys.staging) ++ (s.tag i).args.drop 1 ∧
      u.heldOk i [wd u.sys.staging.length] := by
  dsimp only [exec]
  refine ⟨_, runCmd_answers h rfl, ?_⟩
  dsimp only
  rw [State.commit_sys_staging, State.holdOk_sys, State.onSys_sys, State.advance_sys, State.advance_tag]
  exact ⟨rfl, holdOk_heldOk ..⟩

/-- SYS_FW_COMMIT of an image that passes its check (R116). -/
theorem sysFwCommit_writes (h : (s.advance t).ready i .sysFwCommit false = true) (hl : imageLenOk s.sys.staging = true)
    (hp : imagePartOk s.sys.staging = true) :
    Completes (exec (.sysFwCommit t i true) s) fun u =>
      u.inDeferred i ∧ u.sys.commitTag = some i ∧ u.sys.commitWriting = true ∧ u.sys.activeB = s.sys.activeB := by
  have hb : sysFwCommitBody true i ((s.advance t).tag i).args (s.advance t) =
      (((s.advance t).setSlot (s.advance t).commitSlot { shipped := false, words := [] }).onSys fun y =>
        { y with commitTag := some i, commitWriting := true }, .deferred) := by
    simp [sysFwCommitBody, hl, hp]
  obtain ⟨he, hd⟩ := runCmd_goesOn (readyTurn_of_ready (ch := sysFwCommitChecks) h rfl) hb rfl
  exact ⟨_, he, hd, by simp [State.setSlot]⟩

/-- A strobe request made while none is pending is the pending one (R58). -/
theorem request_pends {u : State} (hp : u.hif.pend = none) (g : BitVec 9) (b : Bool) (k : Option (Fin 48)) :
    ∃ r, u.request g b k = u.onHif (fun h => { h with pend := some r }) ∧
      r.groups = g ∧ r.atSecond = b ∧ r.tag = k :=
  ⟨{ groups := g, atSecond := b, made := u.now, tag := k, boundary := if b then some u.boundaryOf else none },
    by simp only [State.request, hp], rfl, rfl, rfl⟩

/-- What a SYS_APPLY asks for: with COUNT 0, the arming of UPD_ARM (R112, R113). -/
theorem sysApplyBody_requests {u : State} (hp : u.hif.pend = none) (a : Args) :
    ∃ g b, sysApplyBody i a u = (u.request g b (some i), .deferred) ∧
      (has a 0 = false → g = u.hif.armGroups ∧ b = u.hif.armSecond) := by
  have hf : u.strobeFull = false := by simp [State.strobeFull, hp]
  cases hc : has a 0 with
  | true => exact ⟨BitVec.ofNat 9 (af a 0 10 2), ab a 0 16, by simp [sysApplyBody, hf, hc], nofun⟩
  | false => exact ⟨u.hif.armGroups, u.hif.armSecond, by simp [sysApplyBody, hf, hc], fun _ => ⟨rfl, rfl⟩⟩

/-- SYS_APPLY with no request pending (R112, R113). -/
theorem sysApply_requests (h : (s.advance t).ready i .sysApply false = true) (hp : s.hif.pend = none) :
    Completes (exec (.sysApply t i) s) fun u =>
      u.inDeferred i ∧ ∃ r, u.hif.pend = some r ∧ r.tag = some i ∧
        (has (s.tag i).args 0 = false → r.groups = s.hif.armGroups ∧ r.atSecond = s.hif.armSecond) := by
  have hp' : (s.advance t).hif.pend = none := by rw [State.advance_hif, hp]
  obtain ⟨g, b, hb, hg⟩ := sysApplyBody_requests hp' ((s.advance t).tag i).args
  obtain ⟨r, hr, rfl, rfl, ht⟩ := request_pends hp' g b (some i)
  rw [hr] at hb
  rw [State.advance_hif, State.advance_tag] at hg
  obtain ⟨he, hd⟩ := runCmd_goesOn (readyTurn_of_ready (ch := sysApplyChecks) h rfl) hb rfl
  exact ⟨_, he, hd, r, by simp, ht, hg⟩

/-- SYS_RESET_BLOCK of a block that has not been reset twice of late (R114). -/
theorem sysResetBlock_waits {base : Nat} {b : Block} (h : (s.advance t).ready i .sysResetBlock false = true)
    (hb : blockOf (af (s.tag i).args 0 9 0) = some (base, b)) (hn : s.flt.resetsOf (s.advance t).now base < 2) :
    Completes (exec (.sysResetBlock t i) s) fun u => (base, i) ∈ u.sys.resetBlocks := by
  obtain ⟨hr, hs, hf⟩ := State.ready_iff.1 h
  have hbody : sysResetBlockBody i ((s.advance t).tag i).args (s.advance t) =
      (((s.advance t).startReset base b).onSys fun y => { y with resetBlocks := y.resetBlocks ++ [(base, i)] },
        .deferred) := by
    simp [sysResetBlockBody, hb, Nat.not_le.2 hn]
  dsimp only [exec]
  refine ⟨_, runCmd_defers hr hf hs hbody, ?_⟩
  dsimp only
  rw [State.commit_sys_resetBlocks]
  split <;> simp

/-- The work of a command lies in its unit, not in the tags (R104). -/
theorem dropWork_tag (s : State) (k j : Fin 48) : (s.dropWork k).tag j = s.tag j := by
  have hd (u : State) : (u.dropSurvey k).mb = u.mb := by
    unfold State.dropSurvey
    split
    · split <;> rfl
    · rfl
  simp [State.dropWork, State.tag, hd]

/-- SYS_ABORT of a command that it can end (R117). -/
theorem sysAbort_ends {k : Fin 48} (h : (s.advance t).ready i .sysAbort false = true)
    (hk : abortTarget (s.tag i).args = some k) (hn : k ≠ i) (hp : (s.tag k).st ≠ .posted) :
    Completes (exec (.sysAbort t i) s) fun u =>
      (u.tag k).st = .held ∧ (u.tag k).status = stAborted ∧ (u.tag k).data = [] ∧
      u.heldOk i [pack [pbit (s.tag k).deferred 1, pbit (decide ((s.tag k).st = .queued)) 0]] ∧
      ∀ j, j ≠ i → j ≠ k → u.tag j = s.tag j := by
  have hbody : sysAbortBody i ((s.advance t).tag i).args (s.advance t) =
      (((s.advance t).dropWork k).hold k stAborted (s.tag k).acceptedStaged [],
        .ok [pack [pbit (s.tag k).deferred 1, pbit (decide ((s.tag k).st = .queued)) 0]]) := by
    simp [sysAbortBody, hk, hp]
  dsimp only [exec]
  refine ⟨_, runCmd_answers (readyTurn_of_ready h rfl) hbody, ?_⟩
  dsimp only
  rw [State.commit_tag, State.tag_holdOk_ne hn, State.tag_hold_same]
  refine ⟨rfl, rfl, rfl, holdOk_heldOk .., fun j hi hk => ?_⟩
  rw [State.commit_tag, State.tag_holdOk_ne hi, State.tag_hold_ne _ _ _ _ _ _ hk.symm, dropWork_tag, State.advance_tag]

end

/-- Settles O29, a clause for each command. -/
theorem sysCommandsAct : Obligations.SysCommandsAct :=
  ⟨fun _ _ _ h => sysFwStage_stages h, fun _ _ _ h hl hp => sysFwCommit_writes h hl hp,
   fun _ _ _ h hp => sysApply_requests h hp, fun _ _ _ _ _ h hb hn => sysResetBlock_waits h hb hn,
   fun _ _ _ _ h hk hn hp => sysAbort_ends h hk hn hp⟩

/-! ### A refused command that acts (R106, R115) -/

/-- A SYS_FW_STAGE that empties the region and stages the word 0 runs under tag 0 with privilege, and behind it, under
tag 1, a SYS_FW_COMMIT is posted. -/
def State.commitBehindStage : State :=
  (State.reset.tagMod 0 fun x => { x with st := .running, priv := true, win := [0x01040002, 0x80000000, 0] }).tagMod 1
    fun x => { x with st := .posted, win := [0x01050000] }

/-- The acceptance of a SYS_FW_STAGE refuses it while a commit is in flight (R115). -/
theorem commitBehindStage_checks :
    firstFail (Cmd.checks 0 (State.commitBehindStage.tag 0).priv (hdrStaged (State.commitBehindStage.tag 0).hdr)
      (State.commitBehindStage.tag 0).args ((State.commitBehindStage.advance 0).injectEnd 0) .sysFwStage) =
      some busyRes := by
  decide

/-- Refutes O25: in its turn a SYS_FW_STAGE is judged by a commit that has begun, not by one that is in flight, so it
stages its word though the checks of its acceptance, judged then, refuse it. -/
theorem not_refusedCommandChangesOnlyItsResponse : ¬ Obligations.RefusedCommandChangesOnlyItsResponse := by
  rintro ⟨-, h⟩
  obtain ⟨u, hu, hst, -⟩ := sysFwStage_stages (s := State.commitBehindStage) (t := 0) (i := 0) (by decide)
  have he := h (.sysFwStage 0 0) 0 0 .sysFwStage State.commitBehindStage busyRes rfl (by decide)
    commitBehindStage_checks
  cases hu.symm.trans he
  rw [State.commit_sys_staging, State.holdFail_sys] at hst
  exact absurd hst (by decide)

/-! ### A report that draws a free value (R373; log 60) -/

/-- A PTP_CLIENT_TABLE that asks for one entry of lane 0 runs under tag 0; the port has two clients, and NEXT cannot
give the number of the second. -/
def State.twoClients : State :=
  (State.reset.tagMod 0 fun x => { x with st := .running, win := [0x08030001, 0x00000100] }).onPtp
    fun p => { p with clients := [{ Client.init with lane := 0 }, { Client.init with lane := 0, number := 0xFFFF }] }

/-- NEXT is then a free value, which is drawn. -/
theorem twoClients_draws : Completes (exec (.ptpClientTable 0 0) State.twoClients) fun u => u.freeCtr = 1 := by
  have h : (State.twoClients.advance 0).ready 0 .ptpClientTable false = true := by decide
  dsimp only [exec]
  refine ⟨_, runCmd_answers (readyTurn_of_ready h rfl) rfl, ?_⟩
  dsimp only
  rw [State.commit_freeCtr, State.holdOk_freeCtr]
  rfl

/-- Refutes O28: a PTP_CLIENT_TABLE whose NEXT is free draws a value, and so changes more than its response. -/
theorem not_reportsChangeOnlyTheResponse : ¬ Obligations.ReportsChangeOnlyTheResponse := by
  rintro ⟨h, -⟩
  obtain ⟨-, -, -, -, -, -, -, -, -, -, -, h, -⟩ := h State.twoClients 0 0
  obtain ⟨d, hd, -⟩ := h (by decide)
  obtain ⟨u, hu, hc⟩ := twoClients_draws
  cases hu.symm.trans hd
  rw [State.commit_freeCtr, State.holdOk_freeCtr, State.advance_freeCtr] at hc
  exact absurd hc (by decide)

end Sys2Proof.Machine

/-!
SUPPORT and SETTLING. The resets of the module, and an error that a reset's shadow masks (O6, O59).
-/

namespace Sys2Proof.Machine

/-! ### Where a record write lands (R480, R484) -/

/-- The offsets at which a slot of `n` pages is written lie in the slot. -/
theorem lt_of_mem_slotOrder {n o : Nat} (hn : 0 < n) (h : o ∈ slotOrder n) : o < 256 * n := by
  simp only [slotOrder, List.mem_append, List.mem_flatMap, List.mem_reverse, List.mem_range, List.mem_map] at h
  rcases h with (⟨p, hp, i, hi, rfl⟩ | ⟨i, hi, rfl⟩) | ho <;> omega

/-- The bytes of a record write lie in the slot written. -/
theorem mem_writeSeq {id seq tag n a c : Nat} {b : Bool} {l : List (BitVec 8)} {x : Nat × BitVec 8}
    (hg : nvGeom id = some (n, a, c)) (hn : 0 < n) (h : x ∈ writeSeq id b seq tag l) :
    slotBase id b ≤ x.1 ∧ x.1 < slotBase id b + 256 * n := by
  simp only [writeSeq, hg, List.mem_map] at h
  obtain ⟨o, ho, rfl⟩ := h
  have := lt_of_mem_slotOrder hn ho
  dsimp only
  omega

/-- Bytes written elsewhere leave a byte as it is. -/
theorem memGet_memApply {a : Nat} : ∀ {l : List (Nat × BitVec 8)} {m : List Host.Cell}, Mem.wf m = true →
    (∀ x ∈ l, x.1 ≠ a) → memGet (memApply m l) a = memGet m a
  | [], _, _, _ => rfl
  | (k, b) :: r, m, hm, h => by
    obtain ⟨hk, hr⟩ := List.forall_mem_cons.1 h
    rw [memApply, memGet_memApply (memSet_wf m k b hm) hr, memGet_memSet m k a b hm, if_neg (Ne.symm hk)]

/-! ### The save of the page counts (R491) -/

/-- What a reset keeps beside the NVS. -/
def State.keptParts (s : State) : Sys × Kettle × Ptp := (s.sys, s.kettle, s.ptp)

/-- Page operations move the page counts and the counter of page operations alone (R491, R498). -/
theorem pageOps_keeps (k : Nat) : ∀ (s : State) (page : Nat),
    (s.pageOps page k).keptParts = s.keptParts ∧ (s.pageOps page k).nvs.mem = s.nvs.mem := by
  induction k with
  | zero => exact fun s _ => ⟨rfl, rfl⟩
  | succ k ih => exact fun s page => ih (s.pageOp page) (page + 1)

/-- A completed write of WEAR: its slot, the copy and the store (R484, R491). -/
theorem wroteRec_wear {s : State} {w : NvWrite} (h : w.id = 0x0060) :
    (s.wroteRec w).keptParts = s.keptParts ∧
    ∃ b seq, (s.wroteRec w).nvs.mem = memApply s.nvs.mem (writeSeq w.id b seq w.tag w.payload) := by
  have hk (u : State) : (u.storeRec w.id).keptParts = u.keptParts ∧ (u.storeRec w.id).nvs = u.nvs := by
    simp [State.storeRec, State.keptParts, h]
  have hn : ¬(w.id = 0x0010 ∨ w.id = 0x0011) := by omega
  unfold State.wroteRec
  dsimp only
  rw [if_neg hn, (hk _).1, (hk _).2]
  exact ⟨rfl, s.nextSlotB w.id, s.nextSeq w.id, rfl⟩

theorem saveWear_held {s : State} (h : s.sys.wp = true ∨ s.nvsBarred = true) : s.saveWear = s := by
  simp [State.saveWear, h]

/-- The save writes one slot of the record WEAR. -/
theorem saveWear_writes {s : State} (hw : s.sys.wp = false) (hb : s.nvsBarred = false) :
    s.saveWear.keptParts = s.keptParts ∧
    ∃ b seq, ∃ w : NvWrite, w.id = 0x0060 ∧
      s.saveWear.nvs.mem = memApply s.nvs.mem (writeSeq w.id b seq w.tag w.payload) := by
  obtain ⟨u, w, p, hs, hu, hn, hi⟩ : ∃ u w p, s.saveWear = (State.pageOps u p 64).wroteRec w ∧
      u.keptParts = s.keptParts ∧ u.nvs = s.nvs ∧ w.id = 0x0060 := by
    rw [State.saveWear, hw, hb, if_neg (by decide)]
    exact ⟨_, _, _, rfl, rfl, rfl, rfl⟩
  obtain ⟨hk, hm⟩ := pageOps_keeps 64 u p
  obtain ⟨hr, b, seq, hq⟩ := wroteRec_wear (s := u.pageOps p 64) hi
  rw [hs]
  exact ⟨hr.trans (hk.trans hu), b, seq, w, hi, by rw [← hn, ← hm]; exact hq⟩

/-- Neither the save of the page counts nor its absence touches what a reset keeps beside the NVS. -/
theorem saveWear_keeps (s : State) : s.saveWear.keptParts = s.keptParts := by
  by_cases h : s.sys.wp = true ∨ s.nvsBarred = true
  · rw [saveWear_held h]
  · simp only [not_or, Bool.not_eq_true] at h
    obtain ⟨hw, hb⟩ := h
    obtain ⟨hk, -⟩ := saveWear_writes hw hb
    exact hk

/-- Outside the two slots of WEAR the save of the page counts changes no byte. -/
theorem saveWear_memGet {s : State} (hm : Mem.wf s.nvs.mem = true) {a : Nat} (ha : a < 0x14800 ∨ 0x1C800 ≤ a) :
    memGet s.saveWear.nvs.mem a = memGet s.nvs.mem a := by
  by_cases h : s.sys.wp = true ∨ s.nvsBarred = true
  · rw [saveWear_held h]
  · simp only [not_or, Bool.not_eq_true] at h
    obtain ⟨hw, hb⟩ := h
    obtain ⟨-, b, seq, w, hi, hn⟩ := saveWear_writes hw hb
    have hg : nvGeom w.id = some (64, 0x148, 0x188) := by rw [hi]; rfl
    rw [hn]
    refine memGet_memApply hm fun x hx => ?_
    have hr := mem_writeSeq hg (by decide) hx
    rw [slotBase, hg] at hr
    cases b <;> simp at hr <;> omega

/-! ### What a reset leaves (R105, R526) -/

/-- Every tag is FREE, no value is buffered, the module is COLD, and the recall is to come at a new t0. -/
def State.startsOver (s : State) : Prop :=
  (∀ i, s.tag i = Tag.init) ∧ s.mb.shadow = [] ∧ s.sys.mstate = .cold ∧ s.hif.inRecall = true ∧ s.now = 0

/-- What a reset of the module leaves, whatever it sets in the system part beside the module state, and what it
keeps. -/
theorem rebooted_commit (s : State) (cause : Nat) (cold : Bool) {f : Sys → Sys} (hf : ∀ y, (f y).mstate = y.mstate) :
    ((s.rebooted cause cold).onSys f).commit.startsOver ∧
    ((s.rebooted cause cold).onSys f).commit.sys = f (s.rebooted cause cold).sys ∧
    ((s.rebooted cause cold).onSys f).commit.kettle = s.kettle.afterReset cold s.now ∧
    ((s.rebooted cause cold).onSys f).commit.ptp.keys = s.ptp.keys ∧
    ((s.rebooted cause cold).onSys f).commit.nvs.mem = s.nvs.mem ∧
    ((s.rebooted cause cold).onSys f).commit.store = s.store := by
  have hm : ((s.rebooted cause cold).onSys f).sys.mstate = .cold := hf _
  have hs : ((s.rebooted cause cold).onSys f).settled = true := by
    rw [State.settled, hm]
    simp [State.nextMode, State.rebooted, State.reset, Hif.init]
  have hc : ((s.rebooted cause cold).onSys f).commit.sys = f (s.rebooted cause cold).sys := commit_sys_of_settled hs
  refine ⟨⟨fun i => ?_, ?_, hc ▸ hm, ?_, ?_⟩, hc, ?_, ?_, ?_, ?_⟩
  · rw [State.commit_tag]
    exact (Vector.getElem_replicate ..)
  · rw [State.commit_mb]
    rfl
  · rw [State.commit_hif_inRecall]
    rfl
  · rw [State.now, State.commit_time]
    rfl
  all_goals simp [State.rebooted]

section
variable {s : State} {t : Nat}

theorem powerOn_startsOver (i2c b wp : Bool) :
    Completes (exec (.powerOn t i2c b wp) s) fun u =>
      (∀ i, u.tag i = Tag.init) ∧ u.mb.shadow = [] ∧ u.sys.powered = true ∧ u.sys.i2cAddr = i2c ∧ u.sys.slotB = b ∧
      u.sys.wp = wp ∧ u.sys.mstate = .cold ∧ u.hif.inRecall = true ∧ u.nvs.mem = s.nvs.mem ∧ u.store = s.store := by
  obtain ⟨⟨ht, hb, hm, hr, -⟩, hs, -, -, hn, hst⟩ := rebooted_commit (s.advance t)
    (if (s.advance t).sys.powered then 0 else (s.advance t).sys.resetCause) true
    (f := fun y => { y with powered := true, i2cAddr := i2c, slotB := b, wp := wp }) fun _ => rfl
  refine ⟨_, rfl, ht, hb, ?_, ?_, ?_, ?_, hm, hr, by simpa using hn, by simpa using hst⟩ <;> rw [hs]

theorem resetN_startsOver {ns : Nat} (h : 1000 ≤ ns) :
    Completes (exec (.resetN t ns) s) fun u =>
      (∀ i, u.tag i = Tag.init) ∧ u.mb.shadow = [] ∧ u.sys.inReset = true ∧ u.sys.mstate = .cold ∧
      (s.sys.powered = true → u.sys.resetCause = 1 ∧ u.kettle.warm = s.kettle.warm) ∧ u.nvs.mem = s.nvs.mem := by
  obtain ⟨⟨ht, hb, hm, -, -⟩, hs, hk, -, hn, -⟩ := rebooted_commit (s.advance t)
    (if (s.advance t).sys.powered then 1 else (s.advance t).sys.resetCause) (!(s.advance t).sys.powered)
    (f := fun y => { y with inReset := true }) fun _ => rfl
  have he : exec (.resetN t ns) s = done (((s.advance t).rebooted
      (if (s.advance t).sys.powered then 1 else (s.advance t).sys.resetCause) (!(s.advance t).sys.powered)).onSys
      fun y => { y with inReset := true }) := by
    simp [exec, execResetN, Nat.not_lt.2 h]
  refine ⟨_, he, ht, hb, by rw [hs], hm, fun hp => ⟨?_, ?_⟩, by simpa using hn⟩
  · rw [hs]
    simp [State.rebooted, hp]
  · rw [hk]
    simp [Kettle.afterReset, hp]

/-- FW_CTL.SOFT_RESET and RESET_AFTER (R526). -/
theorem softReset_startsOver (cause : Nat) :
    (s.softReset cause).commit.startsOver ∧ (s.softReset cause).commit.sys.resetCause = cause ∧
    (s.softReset cause).commit.sys.resetDue = none ∧
    (s.softReset cause).commit.kettle.warm = s.kettle.warm ∧ (s.softReset cause).commit.ptp.keys = s.ptp.keys ∧
    (s.softReset cause).commit.nvs.mem = s.saveWear.nvs.mem := by
  have h := saveWear_keeps s
  simp only [State.keptParts, Prod.mk.injEq] at h
  obtain ⟨-, hk', hp'⟩ := h
  obtain ⟨h0, hs, hk, hp, hn, -⟩ := rebooted_commit s.saveWear cause false (f := id) fun _ => rfl
  refine ⟨h0, ?_, ?_, ?_, hp.trans (by rw [hp']), hn⟩
  · exact congrArg Sys.resetCause hs
  · exact congrArg Sys.resetDue hs
  · exact (congrArg Kettle.warm hk).trans (by rw [← hk']; rfl)

theorem softReset_row (hd : s.portDead 0 = false) (hr : s.hif.inRecall = false) :
    Completes (exec (.softReset t 0 true) s) fun u =>
      (∀ i, u.tag i = Tag.init) ∧ u.mb.shadow = [] ∧ u.sys.resetCause = 2 ∧ u.sys.mstate = .cold ∧
      u.kettle.warm = s.kettle.warm ∧ (s.sys.wp = true ∨ s.nvsBarred = true → u.nvs.mem = s.nvs.mem) ∧
      (s.memOk = true → ∀ a, a < 0x14800 ∨ 0x1C800 ≤ a → memGet u.nvs.mem a = memGet s.nvs.mem a) ∧
      u.ptp.keys = s.ptp.keys := by
  refine guarded_completes_privileged hd hr ?_
  obtain ⟨⟨ht, hb, hm, -, -⟩, hc, -, hk, hp, hn⟩ := softReset_startsOver (s := (s.advance t).tookWord 0 0x0800) 2
  have hmem : ((s.advance t).tookWord 0 0x0800).nvs.mem = s.nvs.mem := by simp [State.tookWord]
  refine ⟨ht, hb, hc, hm, by simpa [State.tookWord] using hk, fun h => ?_, fun h a ha => ?_,
    by simpa [State.tookWord] using hp⟩
  · rw [hn, saveWear_held, hmem]
    simpa [State.tookWord, State.nvsBarred, State.portMod] using h
  · simp only [State.memOk, Bool.and_eq_true] at h
    rw [hn, saveWear_memGet (by rw [hmem]; exact h.1) ha, hmem]

theorem resetNRelease_restarts (i2c b : Bool) (h : s.sys.inReset = true) :
    Completes (exec (.resetNRelease t i2c b) s) fun u =>
      u.sys.inReset = false ∧ u.sys.i2cAddr = i2c ∧ u.sys.slotB = b ∧ u.sys.resetCause = s.sys.resetCause ∧
      u.hif.inRecall = true ∧ u.now = 0 := by
  obtain ⟨⟨-, -, -, hr, h0⟩, hs, -⟩ := rebooted_commit (s.advance t) (s.advance t).sys.resetCause
    (!(s.advance t).sys.powered) (f := fun y => { y with inReset := false, i2cAddr := i2c, slotB := b }) fun _ => rfl
  have he : exec (.resetNRelease t i2c b) s = done (((s.advance t).rebooted (s.advance t).sys.resetCause
      (!(s.advance t).sys.powered)).onSys fun y => { y with inReset := false, i2cAddr := i2c, slotB := b }) := by
    simp [exec, execResetNRelease, h]
  refine ⟨_, he, ?_, ?_, ?_, ?_, hr, h0⟩ <;> rw [hs]
  simp [State.rebooted]

theorem partWrite_sys (k : Nat) (s : State) : (s.partWrite k).sys = s.sys := by
  unfold State.partWrite
  split <;> rfl

theorem brownOut_takesDown {r : Rail} {ns torn : Nat} {f : Bool} (hn : 2000 ≤ ns) (hr : r ≠ .vddOven)
    (hp : s.sys.powered = true) :
    Completes (exec (.brownOut t r ns f torn) s) fun u =>
      u.sys.powered = false ∧ u.sys.resetCause = (if f then 0 else 4) ∧ u.kettle.warm = false ∧
      ∀ i, u.tag i = Tag.init := by
  obtain ⟨⟨ht, -⟩, hs, hk, -⟩ := rebooted_commit ((s.advance t).partWrite torn) (if f then 0 else 4) true
    (f := fun y => { y with powered := false }) fun _ => rfl
  have he : exec (.brownOut t r ns f torn) s =
      done ((((s.advance t).partWrite torn).rebooted (if f then 0 else 4) true).onSys
        fun y => { y with powered := false }) := by
    simp [exec, execBrownOut, Nat.not_lt.2 hn, hr, hp]
  refine ⟨_, he, by rw [hs], by rw [hs]; rfl, by rw [hk]; rfl, ht⟩

theorem resetAfter_resets {k : Nat} (hk : s.sys.resetDue = some k) (hn : k ≤ (s.advance t).now) :
    Completes (exec (.resetAfter t) s) fun u =>
      u.sys.resetCause = 3 ∧ u.sys.resetDue = none ∧ ∀ i, u.tag i = Tag.init := by
  obtain ⟨⟨ht, -⟩, hc, hd, -⟩ := softReset_startsOver (s := s.advance t) 3
  have he : exec (.resetAfter t) s = done ((s.advance t).softReset 3) := by
    simp [exec, execResetAfter, hk, hn]
  exact ⟨_, he, hc, hd, ht⟩

end

/-- Settles O6: every reset of the module starts over from State.reset; the save of WEAR that goes before a soft one
writes its own slots alone. -/
theorem resetsFreeEveryTag : Obligations.ResetsFreeEveryTag :=
  ⟨fun _ _ => powerOn_startsOver, fun _ _ _ h => resetN_startsOver h, fun _ _ hd hr => softReset_row hd hr,
   fun _ _ i2c b h => resetNRelease_restarts i2c b h, fun _ _ _ _ _ _ hn hr hp => brownOut_takesDown hn hr hp,
   fun _ _ _ hk hn => resetAfter_resets hk hn⟩

/-! ### A report in the last cycle of a reset shadow (R452, R461) -/

/-- A report that its block's shadow masks is counted only. -/
theorem take_masked {s : State} {k : Taken} (hu : s.flt.unobs = []) (hs : s.flt.inShadow s.now k.r.source = true)
    (hc : k.r.code ≠ 0x0B) : s.take k = (s.cntCls k.r.cls).count 0x1A00 := by
  simp [State.take, hu, hs, hc]

theorem cntCls_recs (s : State) (c : Cls) : (s.cntCls c).flt.recs = s.flt.recs := by
  cases c <;> rfl

/-- The firmware is up, no record is held, and the reset shadow of the archive ends in this very cycle. -/
def State.archiveShadowEnds : State :=
  (State.reset.onHif fun h => { h with fwReady := true }).onFlt fun f => { f with shadowOff := [(0x040, 0)] }

/-- A corrected archive error of that cycle leaves no record. -/
theorem archiveShadowEnds_masks :
    Completes (exec (.dramScrub 0 0 .corrected) State.archiveShadowEnds) fun u => u.flt.recs = [] := by
  have hm : (State.archiveShadowEnds.advance 0).report 0x040 .corrected 0x01 0 =
      ((State.archiveShadowEnds.advance 0).cntCls .corrected).count 0x1A00 :=
    take_masked rfl (by decide) (by decide)
  refine ⟨((State.archiveShadowEnds.advance 0).report 0x040 .corrected 0x01 0).commit, rfl, ?_⟩
  dsimp only
  rw [State.commit_flt, hm, State.count_flt, cntCls_recs]
  rfl

/-- Refutes O59: a corrected archive error of the cycle in which the archive's reset shadow ends is masked, not
recorded. -/
theorem not_recordStoreEvents : ¬ Obligations.RecordStoreEvents := by
  rintro ⟨-, -, -, -, -, -, h, -⟩
  obtain ⟨u, hu, -, r, hr, -⟩ := h State.archiveShadowEnds 0 0 (by decide) (by decide) rfl
  obtain ⟨v, hv, hn⟩ := archiveShadowEnds_masks
  cases hu.symm.trans hv
  rw [Flt.newest, hn] at hr
  cases hr

end Sys2Proof.Machine

/-!
SUPPORT and SETTLING. Steps of the Metronome by TIME_SET, and the commands TIME_LEAP and TIME_ALIGN_QUERY (O30, O31).
-/

namespace Sys2Proof.Machine

/-! ### A step of the Metronome (R118, R135, R565) -/

@[simp] theorem State.domStepped_time (s : State) (d : Fin 8) (dv : Int) : (s.domStepped d dv).time = s.time := by
  unfold State.domStepped
  split <;> rfl

@[simp] theorem State.domStepped_mb (s : State) (d : Fin 8) (dv : Int) : (s.domStepped d dv).mb = s.mb := by
  unfold State.domStepped
  split <;> rfl

@[simp] theorem State.jumpOuts_time (s : State) : s.jumpOuts.time = s.time := ite_keep State.time _ _ s rfl

@[simp] theorem State.jumpOuts_mb (s : State) : s.jumpOuts.mb = s.mb := ite_keep State.mb _ _ s rfl

@[simp] theorem State.measStepped_time (s : State) (mt : Nat) (dv : Int) : (s.measStepped mt dv).time = s.time := rfl

@[simp] theorem State.measStepped_mb (s : State) (mt : Nat) (dv : Int) : (s.measStepped mt dv).mb = s.mb := rfl

@[simp] theorem State.histStep_time (s : State) (dv : Int) : (s.histStep dv).time = s.time := rfl

@[simp] theorem State.histStep_mb (s : State) (dv : Int) : (s.histStep dv).mb = s.mb := rfl

@[simp] theorem dropCount_time (s : State) : (dropCount s).time = s.time := by
  unfold dropCount
  split <;> rfl

@[simp] theorem dropCount_mb (s : State) : (dropCount s).mb = s.mb := by
  unfold dropCount
  split <;> rfl

theorem State.setValid_mt (s : State) : s.setValid.mt = s.mt := rfl

theorem State.setValid_mb (s : State) : s.setValid.mb = s.mb := rfl

/-- A response touches no shadow buffer. -/
theorem State.holdOk_shadow (s : State) (i : Fin 48) (d : List Word) : (s.holdOk i d).mb.shadow = s.mb.shadow := rfl

@[simp] theorem metroStep_mb (dv : Int) (unit : Nat) (s : State) : (metroStep dv unit s).mb = s.mb := by
  simp [metroStep, apply_ite State.mb]

/-- LAST_STEP is the reading just after the step (R565). -/
theorem metroStep_lastStep (dv : Int) (unit : Nat) (s : State) :
    (metroStep dv unit s).time.lastStep = (metroStep dv unit s).mt := by
  simp [metroStep, apply_ite State.time, State.mt]

theorem metroStep_metro (dv : Int) (unit : Nat) (s : State) :
    (metroStep dv unit s).time.metro = ((s.time.metro : Int) + dv * accU).toNat := by
  simp [metroStep, apply_ite State.time]

/-- A step that does not lead below the epoch moves the reading by its size exactly: what the count holds below a unit
of the reading stays. -/
theorem metroStep_mt (dv : Int) (unit : Nat) (s : State) (h : 0 ≤ (s.mt : Int) + dv) :
    ((metroStep dv unit s).mt : Int) = s.mt + dv := by
  have hq : ((s.time.metro : Int) + dv * accU) / accU = s.mt + dv := by
    rw [Int.add_mul_ediv_right _ _ (by decide), State.mt, Int.natCast_ediv]
  have hn : 0 ≤ (s.time.metro : Int) + dv * accU := by
    rwa [← hq, Int.ediv_nonneg_iff_of_pos (by decide)] at h
  rw [State.mt, metroStep_metro, Int.natCast_ediv, Int.toNat_of_nonneg hn, hq]

/-! ### The time properties spare the mailbox, the Metronome and the host's override (R126) -/

theorem mb_keeps : UtcKeeps State.mb where
  time _ _ _ := rfl
  ptp _ _ := rfl
  arc _ _ := rfl
  nvs _ _ := rfl
  count _ _ _ := rfl
  draw _ := rfl
  chime _ _ _ := rfl

theorem utcUpdate_clock (s : State) : (utcUpdate s).time.clock = s.time.clock :=
  congrArg Prod.fst (besideSelection_keeps.utcUpdate s)

@[simp] theorem logBad_time (s : State) (bad : Bool) (old : State) : (s.logBad bad old).time = s.time :=
  ite_keep State.time _ _ s (State.log_time ..)

theorem utcUpdate_valid (s : State) : (utcUpdate s).time.valid = s.time.valid :=
  (congrArg Time.valid (utcUpdate_clock s) :)

theorem utcUpdate_lastStep (s : State) : (utcUpdate s).time.lastStep = s.time.lastStep :=
  (congrArg Time.lastStep (utcUpdate_clock s) :)

theorem utcUpdate_hostOverride (s : State) : (utcUpdate s).time.hostOverride = s.time.hostOverride :=
  (congrArg Time.hostOverride (utcUpdate_clock s) :)

theorem State.mt_eq_of_time {s u : State} (h : u.time = s.time) : u.mt = s.mt := by rw [State.mt, h, State.mt]

/-- The end of a command leaves the Metronome's reading. -/
theorem commit_holdOk_mt (s : State) (i : Fin 48) (d : List Word) : (s.holdOk i d).commit.mt = s.mt :=
  State.mt_eq_of_time (by rw [State.commit_time, State.holdOk_time])

section
variable {s : State} {t : Nat} {i : Fin 48}

/-! ### TIME_SET (R135 to R137) -/

/-- An unstaged TIME_SET leads to the state `v` and answers the readings before and in it (R137). -/
theorem timeSet_answers {v : State} (h : (s.advance t).ready i .timeSet false = true)
    (hv : utcUpdate (applyTimeSet (s.tag i).args (s.advance t)) = v) :
    exec (.timeSet t i) s = done (v.holdOk i (time96 (s.advance t).mt ++ time96 v.mt)) := by
  subst hv
  dsimp only [exec]
  rw [← State.advance_tag t s]
  exact runCmd_answers (readyTurn_of_ready h rfl) rfl

/-- A TIME_SET whose effect is a step of `dv` moves the Metronome by it and makes it valid (R120, R135). -/
theorem timeSet_steps {dv : Int} (h : (s.advance t).ready i .timeSet false = true)
    (hs : applyTimeSet (s.tag i).args (s.advance t) = (metroStep dv 0 (dropCount (s.advance t))).setValid)
    (hn : 0 ≤ ((s.advance t).mt : Int) + dv) :
    Completes (exec (.timeSet t i) s) fun u =>
      (u.mt : Int) = (s.advance t).mt + dv ∧ u.time.valid = true ∧ u.time.lastStep = u.mt ∧
      u.mb.shadow = s.mb.shadow := by
  have hd : (dropCount (s.advance t)).mt = (s.advance t).mt := State.mt_eq_of_time (dropCount_time _)
  rw [timeSet_answers h (congrArg utcUpdate hs), completes_done, commit_holdOk_mt, State.commit_time,
    State.commit_mb, State.holdOk_time, State.holdOk_shadow, utcUpdate_mt, utcUpdate_valid, utcUpdate_lastStep,
    mb_keeps.utcUpdate, State.setValid_mt, State.setValid_mb, metroStep_mb, dropCount_mb, State.advance_mb]
  refine ⟨?_, rfl, metroStep_lastStep .., rfl⟩
  rw [← hd] at hn ⊢
  exact metroStep_mt dv 0 _ hn

theorem timeSet_absolute (h : (s.advance t).ready i .timeSet false = true) (hm : af (s.tag i).args 3 1 0 = 0) :
    Completes (exec (.timeSet t i) s) fun u =>
      u.mt = readingOfPat (a96 (s.tag i).args 0) ∧ u.time.valid = true ∧ u.time.lastStep = u.mt ∧
      u.mb.shadow = s.mb.shadow := by
  obtain ⟨u, hu, ht, hk⟩ := timeSet_steps (dv := (readingOfPat (a96 (s.tag i).args 0) : Int) - (s.advance t).mt) h
    (by simp only [applyTimeSet, hm, if_true]) (by omega)
  exact ⟨u, hu, by omega, hk⟩

/-- An OFFSET that passes its checks does not lead out of the format (R136). -/
theorem metroOk_of_offset {p : Bool} {a : Args} {u : State} (h : firstFail (timeSetChecks p a u) = none)
    (hm : af a 3 1 0 = 1) : metroOk ((u.mt : Int) + timeSetOfs a) = true := by
  have hc : (cond (decide (af a 3 1 0 = 1) && !metroOk ((u.mt : Int) + timeSetOfs a)) (badArg 0 0 0x0003)).1 = false :=
    firstFail_eq_none.1 h _ (by simp [timeSetChecks])
  simpa [cond, hm] using hc

theorem timeSet_offset (h : (s.advance t).ready i .timeSet false = true) (hm : af (s.tag i).args 3 1 0 = 1) :
    Completes (exec (.timeSet t i) s) fun u =>
      (u.mt : Int) = (s.advance t).mt + as64 (s.tag i).args 1 ∧ u.time.valid = true := by
  have hk : metroOk (((s.advance t).mt : Int) + timeSetOfs (s.tag i).args) = true := by
    obtain ⟨-, -, hf⟩ := State.ready_iff.1 h
    rw [State.advance_tag] at hf
    exact metroOk_of_offset (p := (s.tag i).priv) hf hm
  have hn : 0 ≤ ((s.advance t).mt : Int) + timeSetOfs (s.tag i).args := by
    simp only [metroOk, Bool.and_eq_true, decide_eq_true_eq] at hk
    obtain ⟨hk, -⟩ := hk
    exact hk
  obtain ⟨u, hu, ht, hv, -⟩ := timeSet_steps h
    (by simp only [applyTimeSet, hm, hk, Nat.one_ne_zero, if_true, if_false]) hn
  exact ⟨u, hu, ht, hv⟩

/-! ### TIME_LEAP (R138, R139) -/

/-- SET takes the OVERRIDE given, and RELEASE gives it up (R138). -/
theorem applyTimeLeap_hostOverride (a : Args) (u : State) :
    (af a 0 31 28 = 0 → (applyTimeLeap a u).time.hostOverride = ab a 0 16) ∧
    (af a 0 31 28 = 3 → (applyTimeLeap a u).time.hostOverride = false) := by
  constructor
  · intro h
    simp only [applyTimeLeap, h, if_true, logBad_time, utcUpdate_hostOverride, State.onTime_time]
  · intro h
    simp [applyTimeLeap, h, utcUpdate_hostOverride]

theorem timeLeap_answers (h : (s.advance t).ready i .timeLeap false = true) :
    Completes (exec (.timeLeap t i) s) fun u =>
      (af (s.tag i).args 0 31 28 = 0 → u.time.hostOverride = ab (s.tag i).args 0 16) ∧
      (af (s.tag i).args 0 31 28 = 3 → u.time.hostOverride = false) ∧ ∃ d, u.heldOk i d ∧ d.length = 3 := by
  have he : exec (.timeLeap t i) s = done ((applyTimeLeap (s.tag i).args (s.advance t)).holdOk i
      (applyTimeLeap (s.tag i).args (s.advance t)).leapWords) := by
    dsimp only [exec]
    rw [← State.advance_tag t s]
    exact runCmd_answers (readyTurn_of_ready h rfl) rfl
  obtain ⟨hset, hrel⟩ := applyTimeLeap_hostOverride (s.tag i).args (s.advance t)
  rw [he, completes_done, State.commit_time, State.holdOk_time]
  exact ⟨hset, hrel, _, holdOk_heldOk .., rfl⟩

/-! ### TIME_ALIGN_QUERY (R140, R141) -/

theorem timeAlignQuery_answers (h : (s.advance t).ready i .timeAlignQuery false = true)
    (ha : has (s.tag i).args 4 = true) :
    Completes (exec (.timeAlignQuery t i) s) fun u =>
      ∃ d, u.heldOk i d ∧ d.take 2 = w64 (min (readingOfPat (a96 (s.tag i).args 2) * (arg (s.tag i).args 0).toNat /
        ((arg (s.tag i).args 1).toNat * secU)) (2 ^ 64 - 1)) := by
  have hg (x y : Nat) : (if has ((s.advance t).tag i).args 4 then x else y) = x := by
    rw [State.advance_tag]
    exact if_pos ha
  dsimp only [exec]
  refine ⟨_, runCmd_answers (readyTurn_of_ready h rfl) rfl, _, holdOk_heldOk .., ?_⟩
  rw [hg, State.advance_tag]
  rfl

end

/-- Settles O30: unstaged, the body's two readings are those before and after the step, which the end of the command
keeps; staged, the response is empty. -/
theorem timeSetAnswersBothTimes : Obligations.TimeSetAnswersBothTimes := by
  refine ⟨fun s t i h => ?_, fun s t i h => ?_⟩
  · rw [timeSet_answers h rfl, completes_done, commit_holdOk_mt]
    exact holdOk_heldOk ..
  · obtain ⟨hr, hs, hf⟩ := State.ready_iff.1 h
    show Completes (runCmd .timeSet i timeSetChecks timeSetBody (s.advance t)) _
    rw [runCmd_stages hr hf hs, completes_done, State.commit_tag, State.tag_hold_same]
    exact ⟨rfl, rfl, rfl, rfl⟩

/-- Settles O31: each command's effect on the state at its instant, and what the end of the step keeps of it. -/
theorem timeCommandsAct : Obligations.TimeCommandsAct :=
  ⟨fun _ _ _ h hm => timeSet_absolute h hm, fun _ _ _ h hm => timeSet_offset h hm,
   fun _ _ _ h => timeLeap_answers h, fun _ _ _ h ha => timeAlignQuery_answers h ha⟩

end Sys2Proof.Machine

/-!
SUPPORT and SETTLING. The measurement commands (O32).
-/

namespace Sys2Proof.Machine

/-! ### Channels read after an update (R142) -/

@[simp] theorem State.chan_chanMod_same (s : State) (ch : Fin 66) (f : Chan → Chan) :
    (s.chanMod ch f).chan ch = f (s.chan ch) := vget_vmod_same s.meas.chans ch f

theorem State.chan_chanMod_ne {s : State} {ch k : Fin 66} {f : Chan → Chan} (h : k ≠ ch) :
    (s.chanMod ch f).chan k = s.chan k := vget_vmod_ne s.meas.chans ch k f h.symm

theorem State.chanMod_chanMod (s : State) (ch : Fin 66) (f g : Chan → Chan) :
    (s.chanMod ch f).chanMod ch g = s.chanMod ch fun c => g (f c) := by
  simp [State.chanMod, State.onMeas, vmod]

/-- A channel lies in the fabric's unit. -/
theorem State.chan_of_chans {s u : State} (h : u.meas.chans = s.meas.chans) (k : Fin 66) : u.chan k = s.chan k :=
  congrArg (vget · k) h

@[simp] theorem State.count_chan (s : State) (i n : Nat) (k : Fin 66) : (s.count i n).chan k = s.chan k := rfl

@[simp] theorem State.onAge_chan (s : State) (f : Age → Age) (k : Fin 66) : (s.onAge f).chan k = s.chan k := rfl

@[simp] theorem State.rollDone_chan (s : State) (j : Fin 13) (k : Fin 66) : (s.rollDone j).chan k = s.chan k := rfl

@[simp] theorem State.holdOk_chan (s : State) (i : Fin 48) (d : List Word) (k : Fin 66) :
    (s.holdOk i d).chan k = s.chan k := rfl

@[simp] theorem State.chanMod_tag (s : State) (ch : Fin 66) (f : Chan → Chan) (i : Fin 48) :
    (s.chanMod ch f).tag i = s.tag i := rfl

/-! ### What leaves the fabric's unit alone -/

/-- Selection and the time properties read channels and write none (R199 to R294). -/
theorem meas_keeps : SelectionKeeps State.meas where
  time _ _ _ := rfl
  ptp _ _ := rfl
  arc _ _ := rfl
  nvs _ _ := rfl
  count _ _ _ := rfl
  draw _ := rfl
  chime _ _ _ := rfl
  loop _ _ := rfl
  ref _ _ := rfl

theorem dropSurvey_meas (s : State) (i : Fin 48) : (s.dropSurvey i).meas = s.meas := by
  unfold State.dropSurvey
  split
  · exact ite_keep State.meas _ _ s rfl
  · rfl

/-- The work of a tag that the fabric holds is its interval and its gate (R172, R185). -/
theorem dropWork_meas (s : State) (i : Fin 48) :
    (s.dropWork i).meas = { s.meas with ivs := s.meas.ivs.filter fun v => decide (v.tag ≠ i),
                                        freqs := s.meas.freqs.filter fun v => decide (v.tag ≠ i) } := by
  simp [State.dropWork, dropSurvey_meas]

theorem endFail_chans (s : State) (i : Fin 48) (f : Fail) : (s.endFail i f).meas.chans = s.meas.chans := by
  rw [State.endFail, State.holdFail_meas, dropWork_meas]

/-- Gates that end take nothing from their channel (R188). -/
theorem gatesEnd_chans (ch : Fin 66) (s : State) : (s.gatesEnd ch).meas.chans = s.meas.chans :=
  foldl_keep _ (fun u : State => u.meas.chans) (fun u _ =>
    ite_keep (fun u : State => u.meas.chans) _ _ u (endFail_chans u _ _)) _ s

/-! ### MEAS_CONFIG_CH (R156, R166) -/

/-- A link channel is as configured, whatever of its reference and its gates ends with the change. -/
theorem applyMeasConfig_link {a : Args} {s : State} (h : 16 ≤ (argCh a).val) :
    (applyMeasConfig a s).chan (argCh a) = (s.chan (argCh a)).configured a false := by
  have hf : decide ((argCh a).val < 16) = false := decide_eq_false (Nat.not_lt.2 h)
  unfold applyMeasConfig
  dsimp only
  rw [hf, if_neg (Nat.not_lt.2 h)]
  split
  · rw [State.chan_of_chans (congrArg MeasU.chans (meas_keeps.refCond _ _)),
      State.chan_of_chans (congrArg MeasU.chans (meas_keeps.refLoss _ _)), State.chan_of_chans (gatesEnd_chans _ _),
      State.chan_chanMod_same]
  · split
    · rw [State.chan_of_chans (gatesEnd_chans _ _), State.chan_chanMod_same]
    · rw [State.chan_chanMod_same]

/-- A pin channel that is and stays disabled only takes its fields. -/
theorem applyMeasConfig_disabled {a : Args} {s : State} (h : (argCh a).val < 16)
    (ho : (s.chan (argCh a)).enable = false) (hn : ab a 0 8 = false) :
    applyMeasConfig a s = s.chanMod (argCh a) fun _ => (s.chan (argCh a)).configured a true := by
  have he : ((s.chan (argCh a)).configured a true).enable = false := hn
  simp [applyMeasConfig, h, ho, he]

section
variable {s : State} {t : Nat} {i : Fin 48}

theorem measConfigCh_applies (h : (s.advance t).ready i .measConfigCh false = true) {P : State → Prop}
    (hP : ∀ d, P ((applyMeasConfig (s.tag i).args (s.advance t)).holdOk i d).commit) :
    Completes (exec (.measConfigCh t i) s) P := by
  rw [← State.advance_tag t s] at hP
  dsimp only [exec]
  exact ⟨_, runCmd_answers (readyTurn_of_ready h rfl) rfl, hP _⟩

theorem measConfigCh_link (h : (s.advance t).ready i .measConfigCh false = true)
    (hc : 16 ≤ (argCh (s.tag i).args).val) :
    Completes (exec (.measConfigCh t i) s) fun u =>
      (u.chan (argCh (s.tag i).args)).enable = ab (s.tag i).args 0 8 ∧
      (u.chan (argCh (s.tag i).args)).clkDiv = dflt (s.tag i).args 1 (af (s.tag i).args 1 23 0) 1024 :=
  measConfigCh_applies h fun d => by
    rw [State.commit_chan, State.holdOk_chan, applyMeasConfig_link hc]
    exact ⟨rfl, rfl⟩

theorem measConfigCh_disabled (h : (s.advance t).ready i .measConfigCh false = true)
    (hc : (argCh (s.tag i).args).val < 16) (ho : (s.chan (argCh (s.tag i).args)).enable = false)
    (hn : ab (s.tag i).args 0 8 = false) :
    Completes (exec (.measConfigCh t i) s) fun u =>
      (u.chan (argCh (s.tag i).args)).threshold = dflt (s.tag i).args 1 (asf (s.tag i).args 1 31 16) 0 ∧
      (u.chan (argCh (s.tag i).args)).hyst = dflt (s.tag i).args 1 (af (s.tag i).args 1 11 10) 1 ∧
      (u.chan (argCh (s.tag i).args)).div = dflt (s.tag i).args 2 (af (s.tag i).args 2 15 0) 1 ∧
      ∀ c, c ≠ argCh (s.tag i).args → u.chan c = s.chan c :=
  measConfigCh_applies h fun d => by
    rw [applyMeasConfig_disabled hc (by rwa [State.advance_chan]) hn]
    refine ⟨?_, ?_, ?_, fun c hk => ?_⟩
    · simp [Chan.configured]
    · simp [Chan.configured]
    · simp [Chan.configured]
    · rw [State.commit_chan, State.holdOk_chan, State.chan_chanMod_ne hk, State.advance_chan]

/-! ### MEAS_ARM (R168) -/

theorem measArm_arms (h : (s.advance t).ready i .measArm false = true) :
    Completes (exec (.measArm t i) s) fun u =>
      (u.chan (argCh (s.tag i).args)).capture.st = (if ab (s.tag i).args 0 29 then Capture.init.st else .armed) ∧
      (ab (s.tag i).args 0 29 = false →
        (u.chan (argCh (s.tag i).args)).capture.decim = dflt (s.tag i).args 1 (af (s.tag i).args 1 31 16) 1 ∧
        (u.chan (argCh (s.tag i).args)).capture.limit = dflt (s.tag i).args 1 (af (s.tag i).args 1 10 0) 1024) ∧
      (∀ c, c ≠ argCh (s.tag i).args → u.chan c = s.chan c) ∧ (u.tag i).st = .held ∧ (u.tag i).status = stOk ∧
      ∀ k, k ≠ i → u.tag k = s.tag k := by
  dsimp only [exec]
  refine ⟨_, runCmd_answers (readyTurn_of_ready h rfl) rfl, ?_⟩
  dsimp only
  rw [State.advance_tag]
  obtain ⟨hst, hok, -, -⟩ := holdOk_heldOk ((s.advance t).chanMod (argCh (s.tag i).args) fun c =>
    { c with capture := if ab (s.tag i).args 0 29 then Capture.init else armed (s.tag i).args (s.advance t) }) i _
  refine ⟨?_, fun hr => ?_, fun c hc => ?_, hst, hok, fun k hk => ?_⟩
  · rw [State.commit_chan, State.holdOk_chan, State.chan_chanMod_same]
    split <;> rfl
  · rw [State.commit_chan, State.holdOk_chan, State.chan_chanMod_same]
    simp [hr, armed]
  · rw [State.commit_chan, State.holdOk_chan, State.chan_chanMod_ne hc, State.advance_chan]
  · rw [State.commit_tag, State.tag_holdOk_ne hk, State.chanMod_tag, State.advance_tag]

/-! ### MEAS_INTERVAL and MEAS_FREQ: the immediate part (R172, R185) -/

/-- A command that goes on in its deferred part touches the other tags no more than its body does. -/
theorem commit_defer_tag_ne {u : State} {k : Fin 48} (h : k ≠ i) : (u.defer i).commit.tag k = u.tag k := by
  rw [State.commit_tag, State.defer, State.tag_tagMod_ne _ _ _ _ h.symm]

theorem measIntervalBody_adds (i : Fin 48) (a : Args) (u : State) :
    ∃ v, (measIntervalBody i a u).1.meas.ivs = u.meas.ivs ++ [v] ∧ v.tag = i ∧ v.startCh = argStart a ∧
      v.stopCh = argStop a ∧ v.waitFrom = u.now := ⟨_, rfl, rfl, rfl, rfl, rfl⟩

theorem measInterval_begins (h : (s.advance t).ready i .measInterval false = true) :
    Completes (exec (.measInterval t i) s) fun u =>
      u.inDeferred i ∧ (∃ v, u.meas.ivs = s.meas.ivs ++ [v] ∧ v.tag = i ∧ v.startCh = argStart (s.tag i).args ∧
        v.stopCh = argStop (s.tag i).args ∧ v.waitFrom = (s.advance t).now) ∧ ∀ k, k ≠ i → u.tag k = s.tag k := by
  obtain ⟨he, hd⟩ := runCmd_goesOn (body := measIntervalBody) (readyTurn_of_ready (ch := measIntervalChecks) h rfl)
    (s' := (measIntervalBody i ((s.advance t).tag i).args (s.advance t)).1) rfl rfl
  dsimp only [exec]
  refine ⟨_, he, hd, ?_, fun k hk => (commit_defer_tag_ne hk).trans (State.advance_tag t s k)⟩
  rw [State.commit_meas, State.defer_meas, ← State.advance_meas t s, ← State.advance_tag t s i]
  exact measIntervalBody_adds ..

theorem measFreqBody_adds (i : Fin 48) (a : Args) (u : State) :
    ∃ g, (measFreqBody i a u).1.meas.freqs = u.meas.freqs ++ [g] ∧ g.tag = i ∧ g.ch = argStart a ∧
      g.gate = gateArg a := ⟨_, rfl, rfl, rfl, rfl⟩

theorem measFreq_begins (h : (s.advance t).ready i .measFreq false = true) :
    Completes (exec (.measFreq t i) s) fun u =>
      u.inDeferred i ∧ (∃ g, u.meas.freqs = s.meas.freqs ++ [g] ∧ g.tag = i ∧ g.ch = argStart (s.tag i).args ∧
        g.gate = gateArg (s.tag i).args) ∧ ∀ k, k ≠ i → u.tag k = s.tag k := by
  obtain ⟨he, hd⟩ := runCmd_goesOn (body := measFreqBody) (readyTurn_of_ready (ch := measFreqChecks) h rfl)
    (s' := (measFreqBody i ((s.advance t).tag i).args (s.advance t)).1) rfl rfl
  dsimp only [exec]
  refine ⟨_, he, hd, ?_, fun k hk => (commit_defer_tag_ne hk).trans (State.advance_tag t s k)⟩
  rw [State.commit_meas, State.defer_meas, ← State.advance_meas t s, ← State.advance_tag t s i]
  exact measFreqBody_adds ..

end

/-- Settles O32, a command at a time. -/
theorem measurementCommandsAct : Obligations.MeasurementCommandsAct :=
  ⟨fun _ _ _ h => measArm_arms h, fun _ _ _ h => measInterval_begins h, fun _ _ _ h => measFreq_begins h,
   fun _ _ _ h hc => measConfigCh_link h hc, fun _ _ _ h hc ho hn => measConfigCh_disabled h hc ho hn⟩

end Sys2Proof.Machine

/-!
SUPPORT and SETTLING. The ends of intervals and of frequency gates (O47).
-/

namespace Sys2Proof.Machine

/-! ### Work in flight, found by its tag (R94) -/

/-- Nothing is found under a tag whose work has been taken out. -/
theorem find?_filter_ne_none {α : Type} (f : α → Fin 48) (i : Fin 48) (l : List α) :
    (l.filter fun v => decide (f v ≠ i)).find? (fun v => decide (f v = i)) = none := by
  rw [List.find?_eq_none]
  intro v hv
  obtain ⟨-, hn⟩ := List.mem_filter.1 hv
  simpa using hn

/-- The interval under a tag is exchanged for one of the same tag. -/
theorem find?_replace {l : List Interval} {i : Fin 48} {v w : Interval}
    (hv : l.find? (fun x => decide (x.tag = i)) = some v) (hw : w.tag = i) :
    (l.map fun x => if x.tag = i then w else x).find? (fun x => decide (x.tag = i)) = some w := by
  have hc : ((fun x : Interval => decide (x.tag = i)) ∘ fun x => if x.tag = i then w else x) =
      fun x => decide (x.tag = i) := by
    funext x
    by_cases hx : x.tag = i <;> simp [hx, hw]
  have ht : v.tag = i := by simpa using List.find?_some hv
  rw [List.find?_map, hc, hv, Option.map_some, if_pos ht]

theorem State.ivOf_tag {s : State} {i : Fin 48} {v : Interval} (h : s.ivOf i = some v) : v.tag = i := by
  simpa using List.find?_some h

theorem State.commit_ivOf (s : State) (i : Fin 48) : s.commit.ivOf i = s.ivOf i := by
  rw [State.ivOf, State.commit_meas, State.ivOf]

theorem State.count_ivOf (s : State) (k n : Nat) (i : Fin 48) : (s.count k n).ivOf i = s.ivOf i := rfl

/-- An interval whose command has ended with an error is dropped (R174). -/
theorem endFail_ivOf (s : State) (i : Fin 48) (f : Fail) : (s.endFail i f).ivOf i = none := by
  rw [State.ivOf, State.endFail, State.holdFail_meas, dropWork_meas]
  exact find?_filter_ne_none Interval.tag i _

/-- The error of a command that has ended (R98, R102). -/
theorem holdFail_heldFail (s : State) (i : Fin 48) (f : Fail) :
    (s.holdFail i f).commit.heldFail i f (s.tag i).acceptedStaged := by
  rw [State.heldFail, State.commit_tag, State.holdFail, State.tag_hold_same]
  exact ⟨rfl, rfl, rfl, rfl⟩

theorem endFail_heldFail (s : State) (i : Fin 48) (f : Fail) :
    (s.endFail i f).commit.heldFail i f (s.tag i).acceptedStaged := by
  have h := holdFail_heldFail (s.dropWork i) i f
  rwa [dropWork_tag] at h

/-- An interval goes on, put back with the attempts made (R174). -/
theorem ivPut_ivOf {s : State} {i : Fin 48} {v w : Interval} (hv : s.ivOf i = some v) (hw : w.tag = i)
    (hd : w.done < w.attempts) : (s.ivPut v false w).ivOf i = some w := by
  have hp : (s.ivPut v false w).meas.ivs = s.meas.ivs.map fun x => if x.tag = i then w else x := by
    simp only [State.ivPut, Bool.false_eq_true, false_or, if_neg (Nat.not_le.2 hd), State.ivOf_tag hv]
    split <;> rfl
  rw [State.ivOf, hp]
  exact find?_replace hv hw

/-! ### The rows (R146, R173, R174, R192) -/

section
variable {s : State} {t : Nat} {i : Fin 48}

theorem intervalStartTimeout_ends {v : Interval} (hv : (s.advance t).ivOf i = some v) (hc : v.cur = none)
    (hd : v.done = 0) (hp : (s.advance t).past v.waitFrom (v.startWait * msU + lookU) = true) :
    Completes (exec (.intervalStartTimeout t i) s) fun u =>
      u.heldFail i (timeoutF 0x0006) (s.tag i).acceptedStaged ∧ u.ivOf i = none := by
  have he : execIntervalStartTimeout t i s = done ((s.advance t).endFail i (timeoutF 0x0006)) := by
    simp [execIntervalStartTimeout, hv, hc, hd, hp]
  show Completes (execIntervalStartTimeout t i s) _
  rw [he, completes_done, State.commit_ivOf, ← State.advance_tag t s]
  exact ⟨endFail_heldFail .., endFail_ivOf ..⟩

/-- The interval after an attempt, begun with `x`, whose window closed without a stop (R173). -/
def State.timedOut (s : State) (v : Interval) (x : Stamp) : Interval :=
  let e := x.time + v.close * usU
  { (v.tally x e).next (s.kettleOf e) with timeouts := v.timeouts + 1 }

theorem State.timedOut_keeps (s : State) (v : Interval) (x : Stamp) :
    (s.timedOut v x).tag = v.tag ∧ (s.timedOut v x).attempts = v.attempts ∧
    (s.timedOut v x).results = v.results := by
  cases v
  exact ⟨rfl, rfl, rfl⟩

theorem intervalWindowClose_counts {v : Interval} {x : Stamp} (hv : (s.advance t).ivOf i = some v)
    (hx : v.cur = some x) (hs : v.stepped = false) (hw : (s.advance t).windowShut v x = true)
    (hd : v.done + 1 < v.attempts) :
    Completes (exec (.intervalWindowClose t i) s) fun u =>
      ∃ w, u.ivOf i = some w ∧ w.cur = none ∧ w.done = v.done + 1 ∧ w.timeouts = v.timeouts + 1 ∧
        w.results = v.results := by
  have he : execIntervalWindowClose t i s = done (((s.advance t).count (16 * v.stopCh.val + 5)).ivPut v false
      ((s.advance t).timedOut v x)) := by
    simp [execIntervalWindowClose, hv, hx, hs, hw, State.timedOut]
  show Completes (execIntervalWindowClose t i s) _
  rw [he, completes_done, State.commit_ivOf]
  obtain ⟨ht, ha, hr⟩ := (s.advance t).timedOut_keeps v x
  have hn : ((s.advance t).timedOut v x).done < ((s.advance t).timedOut v x).attempts := ha.symm ▸ hd
  exact ⟨_, ivPut_ivOf ((State.count_ivOf ..).trans hv) (ht.trans (State.ivOf_tag hv)) hn, rfl, rfl, rfl, hr⟩

theorem freqGateEnd_ends {g : FreqGate} (hg : (s.advance t).meas.freqs.find? (fun g => decide (g.tag = i)) = some g)
    (hp : (g.start + g.gate * msU + lookU : Nat) ≤ ((s.advance t).mt : Int) - g.stepSum) :
    Completes (exec (.freqGateEnd t i) s) fun u =>
      (3 ≤ g.acc.n → (u.tag i).st = .held ∧ (u.tag i).status = stOk) ∧
      (g.acc.n < 3 → u.heldFail i (timeoutF 0x0009) (s.tag i).acceptedStaged) ∧
      u.meas.freqs.find? (fun g => decide (g.tag = i)) = none := by
  show Completes (execFreqGateEnd t i s) _
  unfold execFreqGateEnd
  dsimp only
  rw [hg]
  dsimp only
  rw [if_pos hp]
  split
  next hn =>
    rw [completes_done, State.commit_meas, State.holdOk_meas]
    obtain ⟨hst, hok, -, -⟩ := holdOk_heldOk ((s.advance t).onMeas fun m =>
      { m with freqs := m.freqs.filter fun h => decide (h.tag ≠ i) }) i _
    exact ⟨fun _ => ⟨hst, hok⟩, fun h => absurd hn (Nat.not_le.2 h), find?_filter_ne_none FreqGate.tag i _⟩
  next hn =>
    rw [completes_done, State.commit_meas, State.holdFail_meas]
    refine ⟨fun h => absurd h hn, fun _ => ?_, find?_filter_ne_none FreqGate.tag i _⟩
    rw [← State.advance_tag t s]
    exact holdFail_heldFail ..

end

/-- Settles O47: each row finds what is in flight under its tag, and puts it back or ends its command. -/
theorem deferredMeasurementsEnd : Obligations.DeferredMeasurementsEnd :=
  ⟨fun _ _ _ _ hv hc hd hp => intervalStartTimeout_ends hv hc hd hp,
   fun _ _ _ _ _ hv hx hs hw hd => intervalWindowClose_counts hv hx hs hw hd,
   fun _ _ _ _ hg hp => freqGateEnd_ends hg hp⟩

end Sys2Proof.Machine

/-!
SUPPORT and SETTLING. The events of a channel: stamps, video lock, captures and calibration (O46).
-/

namespace Sys2Proof.Machine

@[simp] theorem State.advance_chanLive (t : Nat) (s : State) (ch : Fin 66) :
    (s.advance t).chanLive ch = s.chanLive ch := by
  simp [State.chanLive]

/-! ### A stamp enters the look-back (R144, R146, R154) -/

/-- What the stamping of an edge asks of a channel beside its conversion. -/
def Chan.stamping (c : Chan) : List Stamp × Option Nat × Bool := (c.lookback, c.lastEdge, c.pairOk)

theorem Chan.takeTable_stamping (c : Chan) : c.takeTable.stamping = c.stamping := by
  unfold Chan.takeTable
  (repeat' split) <;> rfl

/-- The prescaler's counts, which nothing but the prescaler reads (R154). -/
def Chan.counted (rise fall : Nat) (c : Chan) : Chan := { c with preRise := rise, preFall := fall }

theorem Chan.prescale_counted (f : Bool) (c : Chan) : ∃ rise fall, (c.prescale f).1 = c.counted rise fall := by
  unfold Chan.prescale
  split
  · exact ⟨c.preRise, c.preFall, rfl⟩
  · (repeat' split) <;> exact ⟨_, _, rfl⟩

theorem Chan.takeTable_counted (a b : Nat) (c : Chan) : (c.counted a b).takeTable = c.takeTable.counted a b := by
  simp only [Chan.takeTable, apply_ite (Chan.counted a b)]
  rfl

/-- The swap that was due at the start of a capture or of an attempt is none any more (R147). -/
def Chan.swapTaken (now : Bool) (c : Chan) : Chan :=
  { c with swapDue := false, capture := { c.capture with swapped := c.capture.swapped || now } }

/-- The standby line is active, with its new table and CAL judged again (R147 to R149). -/
def Chan.lineSwapped (c : Chan) : Chan :=
  let n := { c with line1 := !c.line1 }.takeTable
  { n with cal := n.calNow }

/-- The swap at the start of a capture or of an attempt, as a change of the channel alone (R147). -/
def Chan.startSwapped (now : Bool) (held : Nat) (c : Chan) : Chan :=
  if c.pairOk && decide (c.cal ≠ .failed) && decide (held ≠ 0) then (c.swapTaken now).lineSwapped else c.swapTaken now

theorem State.swapStart_eq (ch : Fin 66) (s : State) :
    s.swapStart ch =
      if !(s.chan ch).swapDue && !(s.chan ch).capture.starts s.mt then s
      else s.chanMod ch (Chan.startSwapped ((s.chan ch).capture.starts s.mt)
        (if (s.chan ch).line1 then (s.chan ch).p2a else (s.chan ch).p2b)) := rfl

theorem Chan.startSwapped_stamping (now : Bool) (held : Nat) (c : Chan) :
    (c.startSwapped now held).stamping = c.stamping := by
  unfold Chan.startSwapped
  split
  · exact Chan.takeTable_stamping _
  · rfl

theorem Chan.lineSwapped_counted (a b : Nat) (c : Chan) : (c.counted a b).lineSwapped = c.lineSwapped.counted a b :=
  congrArg (fun n : Chan => { n with cal := n.calNow }) (Chan.takeTable_counted a b { c with line1 := !c.line1 })

theorem Chan.startSwapped_counted (now : Bool) (held a b : Nat) (c : Chan) :
    (c.counted a b).startSwapped now held = (c.startSwapped now held).counted a b := by
  unfold Chan.startSwapped
  rw [apply_ite (Chan.counted a b), ← Chan.lineSwapped_counted]
  rfl

theorem swapStart_stamping (ch : Fin 66) (s : State) : ((s.swapStart ch).chan ch).stamping = (s.chan ch).stamping := by
  rw [State.swapStart_eq]
  split
  · rfl
  · rw [State.chan_chanMod_same, Chan.startSwapped_stamping]

/-- The lines swap as they would before the prescaler counted. -/
theorem swapStart_counted (ch : Fin 66) (a b : Nat) (s : State) :
    (s.chanMod ch (Chan.counted a b)).swapStart ch = (s.swapStart ch).chanMod ch (Chan.counted a b) := by
  rw [State.swapStart_eq, State.swapStart_eq, State.chan_chanMod_same, State.chanMod_chanMod,
    apply_ite (State.chanMod · ch (Chan.counted a b)), State.chanMod_chanMod]
  simp only [Chan.startSwapped_counted]
  rfl

/-- The conversion of an edge reads none of the prescaler's counts (R144). -/
theorem convert_counted (s : State) (ch : Fin 66) (a b t bin : Nat) :
    (s.chanMod ch (Chan.counted a b)).convert ch t bin = s.convert ch t bin := by
  unfold State.convert
  rw [State.chan_chanMod_same]
  rfl

/-- An edge of a channel that has stamped none since it came up is not within a dead time: its stamp goes to the end of
the look-back, converted on the line that is then active (R144, R146, R152). -/
theorem stampIn_first {s : State} {ch : Fin 66} (t kind : Nat) (x : Stamp) (bin : Nat) (bad : Bool)
    (hp : (s.chan ch).pairOk = true) (hl : (s.chan ch).lastEdge = none) :
    ∃ y, ((s.stampIn t ch kind x bin bad).chan ch).lookback = (s.chan ch).lookback ++ [y] ∧ y.kind = kind ∧
      y.falling = x.falling ∧ y.time = ((s.swapStart ch).convert ch t bin).1 ∧
      ((s.stampIn t ch kind x bin bad).chan ch).lastEdge = some ((s.swapStart ch).convert ch t bin).2 := by
  have hs := swapStart_stamping ch s
  simp only [Chan.stamping, Prod.mk.injEq] at hs
  obtain ⟨hb, he, hq⟩ := hs
  rw [hl] at he
  rw [hp] at hq
  rw [← hb]
  simp [State.stampIn, he, hq]

/-- As many stamps as the FIFO holds are never too many (R153). -/
theorem fifo_of_few {s : State} {ch : Fin 66} (h : (s.chan ch).lookback.length ≤ 64) : s.fifo ch = s := by
  have hd : ((s.chan ch).lookback.takeWhile fun x => decide (x.edge + lookU ≤ s.now)).length ≤ 64 :=
    Nat.le_trans (List.takeWhile_sublist _).length_le h
  simp [State.fifo, Chan.fifoFit, hd]

/-- An edge that the prescaler of an enabled pin channel passes is stamped (R154). -/
theorem edge_passed {s : State} {ch : Fin 66} {e : EdgeIn} {a b : Nat} (t : Nat) (hc : ch.val < 16)
    (he : (s.chan ch).enable = true) (hm : (s.chan ch).mode ≠ 2)
    (hq : (s.chan ch).prescale e.falling = ((s.chan ch).counted a b, true)) :
    s.edge t ch e = (s.chanMod ch (Chan.counted a b)).stampIn t ch 0 { Stamp.init with falling := e.falling } e.bin
      e.invalid := by
  have hv : s.chanLive ch = true := by rw [State.chanLive, if_pos hc, he]
  unfold State.edge
  rw [hv, hq, if_neg (by decide), if_pos hc, if_neg hm]
  rfl

theorem referenceEdge_stamps {s : State} {t : Nat} {ch : Fin 66} {e : EdgeIn} (hc : ch.val < 16)
    (he : (s.chan ch).enable = true) (hm : (s.chan ch).mode ≠ 2) (hd : ((s.chan ch).prescale e.falling).2 = true)
    (hp : (s.chan ch).pairOk = true) (hl : (s.chan ch).lastEdge = none) (hb : (s.chan ch).lookback = []) :
    Completes (exec (.referenceEdge t ch e) s) fun u =>
      ∃ x, (u.chan ch).lookback = [x] ∧ x.kind = 0 ∧ x.falling = e.falling ∧
        x.time = (((s.advance t).swapStart ch).convert ch t e.bin).1 ∧
        (u.chan ch).lastEdge = some (((s.advance t).swapStart ch).convert ch t e.bin).2 := by
  obtain ⟨a, b, hq⟩ := (s.chan ch).prescale_counted e.falling
  have hc' : ((s.advance t).chanMod ch (Chan.counted a b)).chan ch = (s.chan ch).counted a b := by
    rw [State.chan_chanMod_same, State.advance_chan]
  have hu := edge_passed (s := s.advance t) (e := e) (a := a) (b := b) t hc (by rwa [State.advance_chan])
    (by rwa [State.advance_chan]) (by rw [State.advance_chan]; exact Prod.ext hq hd)
  obtain ⟨x, hx, hk, hf, ht, hl'⟩ := stampIn_first (s := (s.advance t).chanMod ch (Chan.counted a b)) t 0
    { Stamp.init with falling := e.falling } e.bin e.invalid (by rw [hc']; exact hp) (by rw [hc']; exact hl)
  rw [← hu, hc', Chan.counted, hb] at hx
  rw [← hu, swapStart_counted, convert_counted] at hl'
  rw [swapStart_counted, convert_counted] at ht
  show Completes (done (((s.advance t).edge t ch e).fifo ch)) _
  rw [fifo_of_few (by simp [hx]), completes_done, State.commit_chan]
  exact ⟨x, hx, hk, hf, ht, hl'⟩

/-! ### A stamp leaves the look-back (R146, R153) -/

namespace SelectionKeeps
variable {α : Type} {p : State → α} (h : SelectionKeeps p)
include h

theorem absorb (s : State) (d : Fin 8) (r : Fin 66) (e : Int) : p (s.absorb d r e).2 = p s := by
  unfold State.absorb
  dsimp only
  split
  · split
    · rw [h.log, h.count, h.dpll]
    · rfl
  · rfl

theorem judgeLock (s : State) (d : Fin 8) (e : Int) : p (s.judgeLock d e) = p s := by
  simp only [State.judgeLock, apply_ite p, h.setDState, h.dpll, ite_self]

theorem takeBw (s : State) (d : Fin 8) : p (s.takeBw d) = p s := h.dpll s d _

theorem filter (s : State) (d : Fin 8) (e : Int) : p (s.filter d e) = p s := by
  simp only [State.filter, apply_ite p, h.dpll, h.count, ite_self]

theorem update (s : State) (d : Fin 8) (r : Fin 66) (k : Nat) (ph : Int) : p (s.update d r k ph) = p s := by
  unfold State.update
  dsimp only
  rw [h.refreshTe, h.judgeLock]
  split <;> simp only [h.filter, h.dpll, h.absorb, h.takeBw]

theorem ended (s : State) (d : Fin 8) (n : Nat) : p (s.ended d n) = p s := by
  unfold State.ended
  dsimp only
  split
  · simp only [apply_ite p, h.lostOne, h.endSwitch, ite_self]
  · exact h.endSwitch s d n

theorem settling (s : State) (d : Fin 8) : p (s.settling d) = p s := by
  simp only [State.settling, apply_ite p, h.ended, h.dpll, ite_self]

theorem feed (s : State) (r : Fin 66) (k : Nat) (ph : Int) : p (s.feed r k ph) = p s :=
  forFin_keep _ _ _ p fun d s => by
    simp only [State.feedOne, apply_ite p, h.settling, h.update, h.dpll, ite_self]

theorem refStamp (s : State) (r : Fin 66) (k : Nat) (ph : Int) : p (refStamp r k ph s) = p s := by
  simp only [Machine.refStamp, apply_ite p, h.feed, h.cand, ite_self]

theorem refPhase (s : State) (r : Fin 66) (k : Nat) (ph : Int) : p (refPhase r k ph s) = p s := by
  simp only [Machine.refPhase, apply_ite p, h.feed, h.candSet, h.cand, ite_self]

theorem refTick (s : State) (r : Fin 66) (k : Nat) : p (refTick r k s) = p s := by
  simp only [Machine.refTick, refGained, apply_ite p, h.candSet, h.cand, ite_self]

theorem refFreqStamp (s : State) (r : Fin 66) (k : Nat) : p (refFreqStamp r k s) = p s := by
  unfold Machine.refFreqStamp
  dsimp only
  split
  · exact ite_keep p _ _ s (h.cand s r _)
  · rfl

end SelectionKeeps

/-- The monitors, the loops and the event queues take a stamp without a change of the fabric (R142). -/
theorem monStamp_meas (s : State) (ch : Fin 66) (x : Stamp) : (s.monStamp ch x).meas = s.meas := by
  have hf (u : State) : (if u.freqByStamps ch then refFreqStamp ch x.edge u else u).meas = u.meas :=
    ite_keep State.meas _ _ u (meas_keeps.refFreqStamp ..)
  unfold State.monStamp
  split
  · split
    · rfl
    · exact ite_keep State.meas _ _ s rfl
  · split
    · rfl
    · dsimp only
      split
      · exact meas_keeps.refTick ..
      · split
        · rw [hf, meas_keeps.refTick]
        · simp only [apply_ite State.meas, meas_keeps.refStamp, meas_keeps.refPhase, meas_keeps.refFreqStamp,
            meas_keeps.refTick, ite_self]

/-- The stamps that a channel holds, and the SEQ of the next to leave. -/
def State.stampsOf (ch : Fin 66) (s : State) : List Stamp × Nat := ((s.chan ch).lookback, (s.chan ch).seq)

theorem stampsOf_of_chans {s u : State} (h : u.meas.chans = s.meas.chans) (ch : Fin 66) :
    u.stampsOf ch = s.stampsOf ch := by
  rw [State.stampsOf, State.chan_of_chans h, State.stampsOf]

/-- The swap that an attempt's start asks for moves no stamp (R147). -/
theorem swapBoth_stampsOf (v : Interval) (s : State) (ch : Fin 66) : (s.swapBoth v).stampsOf ch = s.stampsOf ch := by
  simp only [State.stampsOf, State.swapBoth, State.chan, State.onMeas_meas, vget_vmapIdx]
  split <;> rfl

theorem ivPut_stampsOf (o v : Interval) (b : Bool) (s : State) (ch : Fin 66) :
    (s.ivPut o b v).stampsOf ch = s.stampsOf ch := by
  unfold State.ivPut
  dsimp only
  split
  · split
    · exact stampsOf_of_chans (by rw [State.holdFail_meas]; rfl) ch
    · exact stampsOf_of_chans (by rw [State.holdOk_meas]; rfl) ch
  · split
    · exact stampsOf_of_chans rfl ch
    · exact (swapBoth_stampsOf ..).trans (stampsOf_of_chans rfl ch)

theorem count_stampsOf (s : State) (i n : Nat) (ch : Fin 66) : (s.count i n).stampsOf ch = s.stampsOf ch := rfl

theorem ivStamp_stampsOf (x : Stamp) (s : State) (ch : Fin 66) : (s.ivStamp ch x).stampsOf ch = s.stampsOf ch := by
  unfold State.ivStamp
  refine foldl_keep _ (State.stampsOf ch) (fun u v => ?_) _ s
  dsimp only
  rw [ivPut_stampsOf]
  exact ite_keep (State.stampsOf ch) _ _ u (count_stampsOf ..)

theorem gateStamp_chans (x : Stamp) (s : State) (ch : Fin 66) : (s.gateStamp ch x).meas.chans = s.meas.chans := rfl

/-- A stamp that leaves takes the next SEQ; no consumer touches the stamps still held (R146, R165). -/
theorem deliver_stampsOf (x : Stamp) (s : State) (ch : Fin 66) :
    (s.deliver ch x).stampsOf ch = ((s.chan ch).lookback, ((s.chan ch).seq + 1) % 4096) := by
  unfold State.deliver
  dsimp only
  rw [stampsOf_of_chans (congrArg MeasU.chans (monStamp_meas ..)), stampsOf_of_chans (gateStamp_chans ..),
    ivStamp_stampsOf, ite_keep (State.stampsOf ch) _ _ _ (count_stampsOf ..), count_stampsOf, State.stampsOf,
    State.chan_chanMod_same]

theorem serve_chan (s : State) (ch k : Fin 66) : (s.serve ch).chan k = s.chan k := by
  unfold State.serve
  split <;> rfl

theorem fifo_now (s : State) (ch : Fin 66) : (s.fifo ch).now = s.now := by
  unfold State.fifo
  dsimp only
  split <;> rfl

theorem stampRelease_delivers {s : State} {t : Nat} {ch : Fin 66} {x : Stamp} {l : List Stamp}
    (hl : (((s.advance t).fifo ch).chan ch).lookback = x :: l) (hx : x.edge + lookU ≤ (s.advance t).now)
    (ht : ((s.advance t).fifo ch).inTurn ch = true) :
    Completes (exec (.stampRelease t ch) s) fun u =>
      (u.chan ch).lookback = l ∧ (u.chan ch).seq = ((((s.advance t).fifo ch).chan ch).seq + 1) % 4096 := by
  have he : execStampRelease t ch s =
      done (((((s.advance t).fifo ch).chanMod ch fun c => { c with lookback := l }).serve ch).deliver ch x) := by
    simp [execStampRelease, hl, fifo_now, hx, ht]
  have hd := deliver_stampsOf x ((((s.advance t).fifo ch).chanMod ch fun c => { c with lookback := l }).serve ch) ch
  rw [serve_chan, State.chan_chanMod_same] at hd
  show Completes (execStampRelease t ch s) _
  rw [he, completes_done, State.commit_chan]
  exact Prod.mk.inj hd

/-! ### Settling, video lock, captures (R156, R160, R168) -/

theorem comparatorSettled_settles {s : State} {t : Nat} {ch : Fin 66} (hs : (s.chan ch).settling = true)
    (hp : (s.advance t).past (s.chan ch).settleAt (2 * usU) = true) :
    Completes (exec (.comparatorSettled t ch) s) fun u =>
      u.chan ch = { s.chan ch with settling := false } ∧ ∀ k, k ≠ ch → u.chan k = s.chan k := by
  have he : execComparatorSettled t ch s = done ((s.advance t).chanMod ch fun c => { c with settling := false }) := by
    simp [execComparatorSettled, hs, hp]
  show Completes (execComparatorSettled t ch s) _
  rw [he, completes_done]
  refine ⟨?_, fun k hk => ?_⟩
  · rw [State.commit_chan, State.chan_chanMod_same, State.advance_chan]
  · rw [State.commit_chan, State.chan_chanMod_ne hk, State.advance_chan]

/-- A change of video state takes the channel as given; what follows is its candidate's (R160, R199). -/
theorem videoTo_chan (s : State) (ch : Fin 66) (n : Chan) : (s.videoTo ch n).chan ch = n := by
  have hc (u : State) (c : Prop) [Decidable c] (i : Nat) : (if c then u.count i else u).meas.chans = u.meas.chans :=
    ite_keep (fun u : State => u.meas.chans) _ _ u rfl
  unfold State.videoTo
  dsimp only
  split
  · rw [State.chan_of_chans (hc ..), State.chan_chanMod_same]
  · rw [State.chan_of_chans (congrArg MeasU.chans (meas_keeps.refCond ..)), State.chan_of_chans (hc ..),
      State.chan_chanMod_same]

section
variable {s : State} {t : Nat} {ch : Fin 66}

/-- A sync of a locked channel is overdue by 2 % of a line: the third in a row loses the lock (R160). -/
theorem execVideoSyncMissing_overdue (hm : (s.chan ch).mode = 2) (hv : (s.chan ch).video = .frameLock)
    (hd : (s.chan ch).lineSpan ≤ (((s.advance t).now : Int) - (s.chan ch).syncDue) * 50) :
    execVideoSyncMissing t ch s =
      if (s.chan ch).videoMiss + 1 < 3 then
        done (((s.advance t).count (16 * ch.val + 7)).chanMod ch fun c => { c with videoMiss := c.videoMiss + 1 })
      else done (((s.advance t).count (16 * ch.val + 7)).videoTo ch (s.chan ch).noVideo) := by
  unfold execVideoSyncMissing
  dsimp only
  rw [State.advance_chan, if_pos ⟨hm, .inr hv, hd⟩]

theorem videoSyncMissing_counts (hm : (s.chan ch).mode = 2) (hv : (s.chan ch).video = .frameLock)
    (hd : (s.chan ch).lineSpan ≤ (((s.advance t).now : Int) - (s.chan ch).syncDue) * 50)
    (hn : (s.chan ch).videoMiss + 1 < 3) :
    Completes (exec (.videoSyncMissing t ch) s) fun u =>
      (u.chan ch).videoMiss = (s.chan ch).videoMiss + 1 ∧ (u.chan ch).video = .frameLock := by
  show Completes (execVideoSyncMissing t ch s) _
  rw [execVideoSyncMissing_overdue hm hv hd, if_pos hn, completes_done, State.commit_chan, State.chan_chanMod_same,
    State.count_chan, State.advance_chan]
  exact ⟨rfl, hv⟩

theorem videoSyncMissing_searches (hm : (s.chan ch).mode = 2) (hv : (s.chan ch).video = .frameLock)
    (hd : (s.chan ch).lineSpan ≤ (((s.advance t).now : Int) - (s.chan ch).syncDue) * 50)
    (hn : 3 ≤ (s.chan ch).videoMiss + 1) :
    Completes (exec (.videoSyncMissing t ch) s) fun u => (u.chan ch).video = .search ∧ (u.chan ch).videoMiss = 0 := by
  show Completes (execVideoSyncMissing t ch s) _
  rw [execVideoSyncMissing_overdue hm hv hd, if_neg (Nat.not_lt.2 hn), completes_done, State.commit_chan, videoTo_chan]
  exact ⟨if_pos hm, rfl⟩

theorem captureDurationEnd_ends (hs : (s.chan ch).capture.st = .armed ∨ (s.chan ch).capture.st = .capturing)
    (he : (s.chan ch).capture.ended (s.advance t).mt (s.advance t).now = true) :
    Completes (exec (.captureDurationEnd t ch) s) fun u =>
      (u.chan ch).capture = { (s.chan ch).capture with st := .done, byDuration := true } ∧
      ∀ k, k ≠ ch → u.chan k = s.chan k := by
  show Completes (execCaptureDurationEnd t ch s) _
  unfold execCaptureDurationEnd
  dsimp only
  rw [State.advance_chan, if_pos ⟨hs, he⟩, completes_done]
  refine ⟨?_, fun k hk => ?_⟩
  · rw [State.commit_chan, State.chan_chanMod_same, State.advance_chan]
  · rw [State.commit_chan, State.chan_chanMod_ne hk, State.advance_chan]

/-! ### Calibration (R145 to R150, R157) -/

/-- The line in use and the period pairs of both lines. -/
def Chan.pairs (c : Chan) : Bool × (Nat × Nat) × (Nat × Nat) := (c.line1, (c.p1a, c.p2a), (c.p1b, c.p2b))

theorem Chan.takeTable_pairs (c : Chan) : c.takeTable.pairs = c.pairs := by
  unfold Chan.takeTable
  (repeat' split) <;> rfl

/-- The pair set for the active line is the active line's pair (R147). -/
theorem Chan.setPair_active (p1 p2 : Nat) (c : Chan) :
    (c.setPair c.line1 p1 p2).line1 = c.line1 ∧ (c.setPair c.line1 p1 p2).pair = (p1, p2) := by
  unfold Chan.setPair
  split
  next h => exact ⟨rfl, if_pos h⟩
  next h => exact ⟨rfl, if_neg h⟩

/-- A new table changes neither the active line nor its pair (R148). -/
theorem Chan.takeTable_pair (c : Chan) : c.takeTable.line1 = c.line1 ∧ c.takeTable.pair = c.pair :=
  ⟨congrArg (·.1) c.takeTable_pairs, congrArg (fun q => if q.1 then q.2.2 else q.2.1) c.takeTable_pairs⟩

/-- The first pairs of both lines, whatever tables were kept (R157). -/
theorem Chan.setPair_both (p1 p2 q1 q2 : Nat) (c : Chan) :
    ((c.setPair false p1 p2).setPair true q1 q2).takeTable.pairs = (c.line1, (p1, p2), (q1, q2)) :=
  Chan.takeTable_pairs _

theorem channelReady_takes {dIn : Int} {p1 p2 q1 q2 : Nat} (hv : s.chanLive ch = true)
    (ho : (s.chan ch).pairOk = false) (hc : (s.chan ch).cal = .lin)
    (hp : (s.advance t).past (s.chan ch).upAt (20 * usU) = true) (h0 : pairFits p1 p2 = true)
    (h1 : pairFits q1 q2 = true) :
    Completes (exec (.channelReady t ch dIn p1 p2 q1 q2) s) fun u =>
      (u.chan ch).pairOk = true ∧ (u.chan ch).p1a = p1 ∧ (u.chan ch).p2a = p2 ∧ (u.chan ch).p1b = q1 ∧
      (u.chan ch).p2b = q2 := by
  have hg : (s.chanLive ch && !(s.chan ch).pairOk && decide ((s.chan ch).cal = .lin) &&
      (s.advance t).past (s.chan ch).upAt (20 * usU)) = true := by
    simp [hv, ho, hc, hp]
  have hq := Chan.setPair_both p1 p2 q1 q2 { s.chan ch with dIn := (s.advance t).inDelay ch dIn }
  show Completes (execChannelReady t ch dIn p1 p2 q1 q2 s) _
  unfold execChannelReady
  dsimp only
  rw [State.advance_chanLive, State.advance_chan, if_pos hg, h0, h1, Bool.and_self, if_pos rfl, completes_done,
    State.commit_chan, State.chan_chanMod_same, State.chan_chanMod_same, State.advance_chan]
  exact ⟨rfl, congrArg (·.2.1.1) hq, congrArg (·.2.1.2) hq, congrArg (·.2.2.1) hq, congrArg (·.2.2.2) hq⟩

/-- The channel as its standby line becomes active, which serves a swap that is due (R147). -/
def Chan.turned (mt : Nat) (c : Chan) : Chan := { c.swapTaken (c.capture.starts mt) with line1 := !c.line1 }

/-- The channel whose standby line becomes active with a pair that fits and any new table (R147 to R149). -/
def Chan.swapped (mt p1 p2 : Nat) (c : Chan) : Chan :=
  let n := ((c.turned mt).setPair (c.turned mt).line1 p1 p2).takeTable
  { n with cal := n.calNow }

theorem Chan.swapped_pair (mt p1 p2 : Nat) (c : Chan) :
    (c.swapped mt p1 p2).line1 = (!c.line1) ∧ (c.swapped mt p1 p2).pair = (p1, p2) := by
  obtain ⟨hl, hp⟩ := (c.turned mt).setPair_active p1 p2
  obtain ⟨hl', hp'⟩ := ((c.turned mt).setPair (c.turned mt).line1 p1 p2).takeTable_pair
  exact ⟨hl'.trans hl, hp'.trans hp⟩

theorem lineSwap_swaps {p1 p2 : Nat} (hv : s.chanLive ch = true) (ho : (s.chan ch).pairOk = true)
    (hc : (s.chan ch).cal ≠ .failed) (hf : pairFits p1 p2 = true) :
    Completes (exec (.lineSwap t ch p1 p2) s) fun u =>
      (u.chan ch).line1 = !(s.chan ch).line1 ∧
      (if (u.chan ch).line1 then ((u.chan ch).p1b, (u.chan ch).p2b) else ((u.chan ch).p1a, (u.chan ch).p2a)) = (p1, p2) ∧
      ∀ k, k ≠ ch → u.chan k = s.chan k := by
  have hg : (!s.chanLive ch || !(s.chan ch).pairOk || decide ((s.chan ch).cal = .failed)) = false := by
    simp [hv, ho, hc]
  have ha (u : State) (old : Nat) (f : Age → Age) : (if old = 0 then u else u.onAge f).meas.chans = u.meas.chans := by
    split <;> rfl
  have hk : Completes (exec (.lineSwap t ch p1 p2) s) fun u =>
      u.meas.chans = ((s.advance t).chanMod ch (Chan.swapped (s.advance t).mt p1 p2)).meas.chans := by
    show Completes (execLineSwap t ch p1 p2 s) _
    unfold execLineSwap
    dsimp only
    rw [State.advance_chanLive, State.advance_chan, hg, if_neg Bool.false_ne_true, if_pos hf, completes_done,
      State.commit_meas, ha, State.chanMod_chanMod]
    rfl
  obtain ⟨u, hu, hm⟩ := hk
  obtain ⟨hl, hq⟩ := Chan.swapped_pair (s.advance t).mt p1 p2 (s.chan ch)
  have hch : u.chan ch = (s.chan ch).swapped (s.advance t).mt p1 p2 := by
    rw [State.chan_of_chans hm, State.chan_chanMod_same, State.advance_chan]
  refine ⟨u, hu, hch ▸ hl, hch ▸ hq, fun k hk => ?_⟩
  rw [State.chan_of_chans hm, State.chan_chanMod_ne hk, State.advance_chan]

theorem periodPairRetry_passes {p1 p2 : Nat} (hv : s.chanLive ch = true) (hc : (s.chan ch).cal = .failed)
    (hp : (s.advance t).past (s.chan ch).upAt secU = true) (hf : pairFits p1 p2 = true) :
    Completes (exec (.periodPairRetry t ch p1 p2) s) fun u => (u.chan ch).cal = .lin ∧ (u.chan ch).pairOk = true := by
  have he : execPeriodPairRetry t ch p1 p2 s = done ((s.advance t).chanMod ch fun c =>
      ({ c with cal := .lin, pairOk := true }.setPair c.line1 p1 p2)) := by
    simp [execPeriodPairRetry, hv, hc, hp, hf]
  show Completes (execPeriodPairRetry t ch p1 p2 s) _
  rw [he, completes_done, State.commit_chan, State.chan_chanMod_same]
  unfold Chan.setPair
  split <;> exact ⟨rfl, rfl⟩

end

/-! ### A corrected report and the fabric (R148, R150, R458) -/

/-- With the default reactions a corrected report is recorded and no more (R458). -/
theorem reactionOf_corrected (s : State) {k : Taken} (hi : k.injected = false) (hc : k.r.cls = .corrected)
    (hr : s.flt.react = []) : s.reactionOf k false = 1 := by
  simp [State.reactionOf, Flt.reactOf, hi, hc, hr]

theorem noted_meas (s : State) (k : Taken) : (s.noted k).meas = s.meas := by
  have hn (u : State) : (u.nvsClear k false).meas = u.meas := by
    simp only [State.nvsClear, State.hwClear, State.hifErr, State.chime, apply_ite State.meas, State.onHif_meas,
      ite_self]
  rw [State.noted, hn]
  cases k.r.cls <;> rfl

theorem freshRec_meas {ch : State → State} (hc : ∀ u, (ch u).meas = u.meas) (s : State) (k : Taken) (b l : Bool)
    (n : Nat) (g : Bool) : (State.putRec.fresh k b l n g ch s).meas = s.meas := by
  unfold State.putRec.fresh
  dsimp only
  rw [hc, State.onFlt_meas]
  exact ite_keep State.meas _ _ s (meas_keeps.fwWrite ..)

theorem putRec_corrected_meas (s : State) {k : Taken} (hk : k.r.cls = .corrected) (b l : Bool) (n : Nat) (g : Bool) :
    (s.putRec k b l n g).meas = s.meas := by
  unfold State.putRec
  rw [hk]
  dsimp only
  split
  · split
    · rw [State.chime_meas, State.onFlt_meas]
      exact ite_keep State.meas _ _ s (meas_keeps.fwWrite ..)
    · exact freshRec_meas (fun u => u.chime_meas 2) ..
  · exact freshRec_meas (fun u => u.chime_meas 2) ..

theorem take_corrected_meas (s : State) {k : Taken} (ht : k.r.transient = false) (hi : k.injected = false)
    (hc : k.r.cls = .corrected) (hr : s.flt.react = []) : (s.take k).meas = s.meas := by
  have hn : (s.noted k).reactionOf k false = 1 := reactionOf_corrected _ hi hc ((noted_react s k).trans hr)
  generalize hu : s.take k = u
  have hk : Took s k u := hu ▸ take_took s k ht
  cases hk with
  | dropped => rfl
  | masked =>
    rw [State.count_meas, hc]
    rfl
  | recorded => rw [putRec_corrected_meas _ hc, noted_meas]
  | fatal h | gong h | escalated _ _ h | reset _ _ h => cases hn.symm.trans h

section
variable {s : State} {t : Nat} {ch : Fin 66}

/-- The channel with a new table of a line, formed at Kettle instant `now`, and its drift (R148, R194). -/
def Chan.formed (line1 : Bool) (hits : List Nat) (now drift : Nat) (c : Chan) : Chan :=
  match line1 with
  | true => { c with drift := drift, newB := hits, formedB := now }
  | false => { c with drift := drift, newA := hits, formedA := now }

theorem binTableComplete_forms {hits : List Nat} (line1 : Bool) (hv : s.chanLive ch = true) (hl : hits.length = 768)
    (hn : 20 * ((hits.foldl (· + ·) 0 : Nat) - 2 ^ 20 : Int).natAbs ≤ 2 ^ 20) (hq : s.quietFaults = true) :
    Completes (exec (.binTableComplete t ch line1 hits) s) fun u =>
      ∃ d, u.chan ch = (s.chan ch).formed line1 hits (s.advance t).now d := by
  have hg : (!s.chanLive ch || decide (hits.length ≠ 768)) = false := by simp [hv, hl]
  have hr (c : Prop) [Decidable c] (u : State) (hu : u.flt = (s.advance t).flt) :
      (if c then u.report (chanSource ch) .corrected 0x12 else u).meas = u.meas :=
    ite_keep State.meas _ _ u (take_corrected_meas u rfl rfl rfl
      (by rw [hu, State.advance_flt, react_of_quietFaults hq]))
  show Completes (execBinTableComplete t ch line1 hits s) _
  unfold execBinTableComplete
  dsimp only
  rw [State.advance_chanLive, hg, if_neg Bool.false_ne_true, if_neg (Nat.not_lt.2 hn), completes_done,
    State.commit_chan, State.chan_of_chans (congrArg MeasU.chans (hr _ _ ?_)), State.rollDone_chan, State.onAge_chan,
    State.chan_chanMod_same, State.advance_chan]
  · cases line1
    · exact ⟨_, if_neg Bool.false_ne_true⟩
    · exact ⟨_, if_pos rfl⟩
  · rfl

theorem binTableComplete_keeps {hits : List Nat} (hv : s.chanLive ch = true) (hl : hits.length = 768)
    (hn : 20 * ((hits.foldl (· + ·) 0 : Nat) - 2 ^ 20 : Int).natAbs ≤ 2 ^ 20) (hq : s.quietFaults = true) :
    Completes (exec (.binTableComplete t ch true hits) s) (fun u =>
      (u.chan ch).newB = hits ∧ (u.chan ch).formedB = (s.advance t).now ∧ (u.chan ch).newA = (s.chan ch).newA) ∧
    Completes (exec (.binTableComplete t ch false hits) s) (fun u =>
      (u.chan ch).newA = hits ∧ (u.chan ch).formedA = (s.advance t).now ∧ (u.chan ch).newB = (s.chan ch).newB) := by
  constructor
  · obtain ⟨u, hu, d, hd⟩ := binTableComplete_forms (t := t) true hv hl hn hq
    refine ⟨u, hu, ?_⟩
    dsimp only
    rw [hd]
    exact ⟨rfl, rfl, rfl⟩
  · obtain ⟨u, hu, d, hd⟩ := binTableComplete_forms (t := t) false hv hl hn hq
    refine ⟨u, hu, ?_⟩
    dsimp only
    rw [hd]
    exact ⟨rfl, rfl, rfl⟩

end

/-- Settles O46, a lemma for each row. -/
theorem channelEvents : Obligations.ChannelEvents :=
  ⟨fun _ _ _ _ hc he hm hd hp hl hb => referenceEdge_stamps hc he hm hd hp hl hb,
   fun _ _ _ _ _ hl hx ht => stampRelease_delivers hl hx ht,
   fun _ _ _ hs hp => comparatorSettled_settles hs hp,
   fun _ _ _ hm hv hd hn => videoSyncMissing_counts hm hv hd hn,
   fun _ _ _ hm hv hd hn => videoSyncMissing_searches hm hv hd hn,
   fun _ _ _ hs he => captureDurationEnd_ends hs he,
   fun _ _ _ _ _ _ _ _ hv ho hc hp h0 h1 => channelReady_takes hv ho hc hp h0 h1,
   fun _ _ _ _ _ hv ho hc hf => lineSwap_swaps hv ho hc hf,
   fun _ _ _ _ hv hl hn hq => binTableComplete_keeps hv hl hn hq,
   fun _ _ _ _ _ hv hc hp hf => periodPairRetry_passes hv hc hp hf⟩

end Sys2Proof.Machine

/-!
SUPPORT. The candidates: reading one after an update, what leaves them alone, and what a candidate is after a change of
its record (R199 to R216).
-/

namespace Sys2Proof.Machine

/-! ### Candidates read after an update -/

/-- The candidates. -/
def State.cands (s : State) : Vector Cand 66 := s.ref.cands

theorem State.cand_of_cands {s u : State} (h : u.cands = s.cands) (k : Fin 66) : u.cand k = s.cand k :=
  congrArg (vget · k) h

/-- The candidates lie in the references' unit. -/
theorem State.cands_of_ref {s u : State} (h : u.ref = s.ref) : u.cands = s.cands := congrArg RefU.cands h

@[simp] theorem State.cand_candMod_same (s : State) (r : Fin 66) (f : Cand → Cand) :
    (s.candMod r f).cand r = f (s.cand r) := vget_vmod_same s.ref.cands r f

theorem State.cand_candMod_ne {s : State} {r k : Fin 66} {f : Cand → Cand} (h : k ≠ r) :
    (s.candMod r f).cand k = s.cand k := vget_vmod_ne s.ref.cands r k f h.symm

@[simp] theorem State.commit_cand (s : State) (k : Fin 66) : s.commit.cand k = s.cand k :=
  State.cand_of_cands (State.cands_of_ref s.commit_ref) k

@[simp] theorem State.holdOk_cand (s : State) (i : Fin 48) (d : List Word) (k : Fin 66) :
    (s.holdOk i d).cand k = s.cand k := rfl

/-! ### Selection reads the references' unit and writes none of it (R231 to R241) -/

theorem ref_keeps : UtcKeeps State.ref where
  time _ _ _ := rfl
  ptp _ _ := rfl
  arc _ _ := rfl
  nvs _ _ := rfl
  count _ _ _ := rfl
  draw _ := rfl
  chime _ _ _ := rfl

@[simp] theorem State.setDState_ref (s : State) (d : Fin 8) (n : DState) : (s.setDState d n).ref = s.ref := by
  simp [State.setDState, apply_ite State.ref]

@[simp] theorem State.holdStart_ref (s : State) (d : Fin 8) : (s.holdStart d).ref = s.ref := by
  simp [State.holdStart, State.utcFollow, State.feedStop, apply_ite State.ref, ref_keeps.utcUpdate]

@[simp] theorem State.refreshTe_ref (s : State) (d : Fin 8) : (s.refreshTe d).ref = s.ref := by
  simp [State.refreshTe, apply_ite State.ref]

@[simp] theorem State.enterHold_ref (s : State) (d : Fin 8) (c : HoCause) : (s.enterHold d c).ref = s.ref := by
  simp [State.enterHold, State.entryEdge, State.freerunHold, apply_ite State.ref]

@[simp] theorem State.startSwitch_ref (s : State) (d : Fin 8) (r : Fin 66) : (s.startSwitch d r).ref = s.ref := by
  simp [State.startSwitch, apply_ite State.ref]

@[simp] theorem State.endSwitch_ref (s : State) (d : Fin 8) (n : Nat) : (s.endSwitch d n).ref = s.ref := by
  simp [State.endSwitch, State.disable, apply_ite State.ref]

@[simp] theorem State.fallback_ref (s : State) (d : Fin 8) : (s.fallback d).ref = s.ref := by
  unfold State.fallback
  dsimp only
  split
  · rfl
  · split <;> simp [apply_ite State.ref]

theorem State.lostOne_ref (s : State) (r : Fin 66) (d : Fin 8) : (s.lostOne r d).ref = s.ref := by
  unfold State.lostOne
  dsimp only
  (repeat' split) <;> simp

@[simp] theorem State.lostAct_ref (s : State) (r : Fin 66) : (s.lostAct r).ref = s.ref :=
  forFin_keep _ _ _ State.ref fun d s => s.lostOne_ref r d

@[simp] theorem State.unqualified_ref (s : State) (r : Fin 66) : (s.unqualified r).ref = s.ref :=
  forFin_keep _ _ _ State.ref fun d s => by simp [State.unqualOne, apply_ite State.ref]

@[simp] theorem evalAll_ref (s : State) : (evalAll s).ref = s.ref :=
  forFin_keep _ _ _ State.ref fun d s => s.dpllMod_ref d _

/-! ### The cross-check's pairs lie beside the candidates (R211, R214) -/

@[simp] theorem State.log_cands (s : State) (g e u : Nat) (l : List Word) : (s.log g e u l).cands = s.cands :=
  State.cands_of_ref (State.log_ref ..)

theorem State.disOne_cands (s : State) (d : Fin 8) : (s.disOne d).cands = s.cands := by
  unfold State.disOne
  dsimp only
  split
  · rfl
  · rw [State.cands_of_ref (State.chime_ref ..), State.log_cands]
    rfl

theorem State.disAll_cands (s : State) : s.disAll.cands = s.cands :=
  forFin_keep _ _ _ State.cands fun d u => u.disOne_cands d

theorem State.dropPairs_cands (s : State) (r : Fin 66) : (s.dropPairs r).cands = s.cands :=
  State.disAll_cands _

theorem State.prunePairs_cands (s : State) (d : Fin 8) : (s.prunePairs d).cands = s.cands := rfl

theorem State.regroup_cands (s : State) : s.regroup.cands = s.cands :=
  forFin_keep _ _ _ State.cands fun d u => (State.disOne_cands _ d).trans (u.prunePairs_cands d)

/-! ### A change of a candidate's record (R206) -/

/-- A candidate as it is judged after its events are taken in (R206). -/
def Cand.judged (up direct : Bool) (at_ now : Nat) (c : Cand) : Cand := c.enter (c.judge up direct) at_ now

/-- All of a candidate that a change of its state leaves alone (R206, R208, R225). -/
def Cand.monitors (c : Cand) : Cand :=
  { c with st := .off, since := 0, wtrFrom := none, everQual := false, qualCount := 0, rejCount := 0 }

theorem Cand.judged_monitors (up direct : Bool) (at_ now : Nat) (c : Cand) :
    (c.judged up direct at_ now).monitors = c.monitors := by
  unfold Cand.judged Cand.enter
  split <;> rfl

theorem Cand.judged_st (up direct : Bool) (at_ now : Nat) (c : Cand) :
    (c.judged up direct at_ now).st = c.judge up direct := by
  unfold Cand.judged Cand.enter
  split
  · assumption
  · rfl

/-- What follows a change of a candidate's record is told to the log, the pairs and the DPLLs; of the candidates it
changes that one alone, as it is then judged (R206, R216, R234). -/
theorem State.candSet_cands (s : State) (r : Fin 66) (f : Cand → Cand) (b : Bool) :
    (s.candSet r f b).cands =
      ((s.candMod r f).candMod r (Cand.enter (((s.candMod r f).cand r).judge (s.refUp r) b) s.mt s.now)).cands := by
  have hc (u : State) (n : Nat) : (u.chime n).cands = u.cands := rfl
  have he (u : State) : (evalAll u).cands = u.cands := State.cands_of_ref (evalAll_ref u)
  have hu (u : State) : (u.unqualified r).cands = u.cands := State.cands_of_ref (u.unqualified_ref r)
  simp only [State.candSet, apply_ite State.cands, he, hu, State.dropPairs_cands, hc, State.log_cands, ite_self]
  rfl

theorem State.candSet_cand_same (s : State) (r : Fin 66) (f : Cand → Cand) (b : Bool) :
    (s.candSet r f b).cand r = (f (s.cand r)).judged (s.refUp r) b s.mt s.now := by
  rw [State.cand_of_cands (s.candSet_cands r f b), State.cand_candMod_same, State.cand_candMod_same]
  rfl

theorem State.candSet_cand_ne {s : State} {r k : Fin 66} {f : Cand → Cand} {b : Bool} (h : k ≠ r) :
    (s.candSet r f b).cand k = s.cand k := by
  rw [State.cand_of_cands (s.candSet_cands r f b), State.cand_candMod_ne h, State.cand_candMod_ne h]

theorem State.candSet_monitors (s : State) (r : Fin 66) (f : Cand → Cand) (b : Bool) :
    ((s.candSet r f b).cand r).monitors = (f (s.cand r)).monitors := by
  rw [State.candSet_cand_same, Cand.judged_monitors]

/-- What neither a change of state nor `f` touches is kept in every candidate. -/
theorem State.candSet_keep {α : Type} (q : Cand → α) {f : Cand → Cand} (hm : ∀ c, q c.monitors = q c)
    (hf : ∀ c, q (f c) = q c) (s : State) (r k : Fin 66) (b : Bool) :
    q ((s.candSet r f b).cand k) = q (s.cand k) := by
  by_cases h : k = r
  · subst h
    rw [← hm, State.candSet_monitors, hm, hf]
  · rw [State.candSet_cand_ne h]

end Sys2Proof.Machine

/-!
SETTLING. The commands REF_LIMITS, REF_CONFIG and REF_WTR (O33).
-/

namespace Sys2Proof.Machine

/-! ### The response of one state word (R217) -/

/-- An unstaged command whose body leads to the state `v` and answers the state word of its candidate. -/
theorem runCmd_refReply {u v : State} {i : Fin 48} {c : Cmd} {ch : Bool → Args → State → Checks}
    {body : Fin 48 → Args → State → State × Reply} (h : u.ready i c false = true)
    (hc : ch (u.tag i).priv (u.tag i).args u = c.checks i (u.tag i).priv (hdrStaged (u.tag i).hdr) (u.tag i).args u)
    (hb : body i (u.tag i).args u = v.refReply (u.tag i).args) :
    Completes (runCmd c i ch body u) fun w => (∀ k, w.cand k = v.cand k) ∧ ∃ d, w.heldOk i d ∧ d.length = 1 :=
  ⟨_, runCmd_answers (readyTurn_of_ready h hc) hb, fun k => State.commit_cand _ k,
   _, holdOk_heldOk .., rfl⟩

/-! ### What the commands do to the candidates (R210, R218, R220, R221) -/

/-- The limits of the arguments (R220). -/
def Cand.limited (a : Args) (c : Cand) : Cand :=
  { c with accept := dflt a 1 (af a 1 31 0) 8000000, reject := dflt a 2 (af a 2 31 0) 10000000,
           fmWindow := dflt a 3 (af a 3 31 0) 0, phaseLimit := dflt a 4 (af a 4 31 0) 50000,
           xchk := dflt a 5 (af a 5 31 0) 100000, actMult := dflt a 6 (af a 6 31 24) 25,
           pmConfirm := dflt a 6 (af a 6 23 20) 3, fmBase := dflt a 6 (ab a 6 16) true }

/-- The frequency window in progress, which a change of its length or base begins anew (R210). -/
def Cand.windowed (f : Option Nat) (x : Acc) (root : Bool) (c : Cand) : Cand :=
  { c with winFrom := f, acc := x, winRoot := root }

/-- REF_LIMITS sets the limits of its candidate, whose frequency window may begin anew, and touches no other. -/
theorem applyRefLimits_cand {a : Args} {r : Fin 66} (s : State) (h : argRef a = some r) :
    (∃ f x b, (applyRefLimits a s).cand r = ((s.cand r).limited a).windowed f x b) ∧
    ∀ k, k ≠ r → (applyRefLimits a s).cand k = s.cand k := by
  unfold applyRefLimits
  rw [h]
  dsimp only
  refine ⟨?_, fun k hk => ?_⟩
  · rw [State.cand_of_cands (State.regroup_cands _), State.cand_candMod_same]
    split <;> exact ⟨_, _, _, rfl⟩
  · rw [State.cand_of_cands (State.regroup_cands _), State.cand_candMod_ne hk]

/-- The fields of REF_CONFIG that follow its bits 31 and 29 to 27 (R218). -/
def Cand.flags (c : Cand) : Bool × Bool × Bool × Bool := (c.enable, c.tTrace, c.fTrace, c.ssm)

theorem refExtRej_flags (s : State) (r k : Fin 66) (on : Bool) :
    ((refExtRej r on s).cand k).flags = (s.cand k).flags := by
  unfold refExtRej
  split
  · rfl
  · refine State.candSet_keep Cand.flags ?_ ?_ s r k false <;> exact fun _ => rfl

/-- A REF_CONFIG that changes neither ENABLE nor CLASS nor the rate does not restart the verdict (R210). -/
theorem applyRefConfigAll_flags {a : Args} {s : State} {r : Fin 66} (h : argRef a = some r)
    (he : ab a 0 31 = (s.cand r).enable) (ht : ab a 0 30 = (s.cand r).time) (hn : (arg a 1).toNat = (s.cand r).num)
    (hd : (arg a 2).toNat = (s.cand r).den) :
    ((applyRefConfigAll a s).cand r).flags = (ab a 0 31, ab a 0 29, ab a 0 28, ab a 0 27) := by
  have hk : ((applyRefConfig a s).cand r).flags = (ab a 0 31, ab a 0 29, ab a 0 28, ab a 0 27) := by
    simp only [applyRefConfig, h, he, ht, hn, hd, ne_eq, not_true_eq_false, decide_false, Bool.false_eq_true, if_false,
      refExtRej_flags, State.cand_candMod_same]
    rfl
  simp only [applyRefConfigAll, h, refExtRej_flags, hk]

/-- A REF_WTR for a candidate that is not RESTORING takes its fields and no more (R208, R221). -/
theorem applyRefWtr_waiting {a : Args} {s : State} {r : Fin 66} (h : argRef a = some r)
    (hr : (s.cand r).st ≠ .restoring) :
    applyRefWtr a s = s.candMod r fun c => { c with wtrEn := ab a 0 31, wtrTime := af a 0 27 16 } := by
  simp [applyRefWtr, refRestored, h, hr]

/-! ### The rows -/

section
variable {s : State} {t : Nat} {i : Fin 48} {r : Fin 66}

theorem refLimits_sets (h : (s.advance t).ready i .refLimits false = true) (hr : argRef (s.tag i).args = some r) :
    Completes (exec (.refLimits t i) s) fun u =>
      (∃ f x b, u.cand r = (((s.advance t).cand r).limited (s.tag i).args).windowed f x b) ∧
      (∀ k, k ≠ r → u.cand k = (s.advance t).cand k) ∧ ∃ d, u.heldOk i d ∧ d.length = 1 := by
  obtain ⟨u, hu, hc, hd⟩ := runCmd_refReply (ch := refLimitsChecks) (body := refLimitsBody) h rfl rfl
  rw [← State.advance_tag t s] at hr ⊢
  obtain ⟨hs, hn⟩ := applyRefLimits_cand (s.advance t) hr
  exact ⟨u, hu, hc r ▸ hs, fun k hk => (hc k).trans (hn k hk), hd⟩

theorem refConfig_flags (h : (s.advance t).ready i .refConfig false = true) (hr : argRef (s.tag i).args = some r)
    (he : ab (s.tag i).args 0 31 = ((s.advance t).cand r).enable)
    (ht : ab (s.tag i).args 0 30 = ((s.advance t).cand r).time)
    (hn : (arg (s.tag i).args 1).toNat = ((s.advance t).cand r).num)
    (hd : (arg (s.tag i).args 2).toNat = ((s.advance t).cand r).den) :
    Completes (exec (.refConfig t i) s) fun u =>
      (u.cand r).tTrace = ab (s.tag i).args 0 29 ∧ (u.cand r).fTrace = ab (s.tag i).args 0 28 ∧
      (u.cand r).ssm = ab (s.tag i).args 0 27 ∧ (u.cand r).enable = ((s.advance t).cand r).enable ∧
      ∃ d, u.heldOk i d ∧ d.length = 1 := by
  obtain ⟨u, hu, hc, hl⟩ := runCmd_refReply (ch := refConfigChecks) (body := refConfigBody) h rfl rfl
  rw [← he]
  rw [← State.advance_tag t s] at hr he ht hn hd ⊢
  have hf := applyRefConfigAll_flags hr he ht hn hd
  rw [← hc r] at hf
  simp only [Cand.flags, Prod.mk.injEq] at hf
  obtain ⟨h0, h1, h2, h3⟩ := hf
  exact ⟨u, hu, h1, h2, h3, h0, hl⟩

theorem refWtr_takes (h : (s.advance t).ready i .refWtr false = true) (hr : argRef (s.tag i).args = some r)
    (hw : ((s.advance t).cand r).st ≠ .restoring) :
    Completes (exec (.refWtr t i) s) fun u =>
      (u.cand r).wtrEn = ab (s.tag i).args 0 31 ∧ (u.cand r).wtrTime = af (s.tag i).args 0 27 16 ∧
      (u.cand r).st = ((s.advance t).cand r).st ∧ ∀ k, k ≠ r → u.cand k = (s.advance t).cand k := by
  obtain ⟨u, hu, hc, -⟩ := runCmd_refReply (ch := refWtrChecks) (body := refWtrBody) h rfl rfl
  rw [← State.advance_tag t s] at hr ⊢
  rw [applyRefWtr_waiting hr hw] at hc
  refine ⟨u, hu, ?_, ?_, ?_, fun k hk => (hc k).trans (State.cand_candMod_ne hk)⟩ <;>
    rw [hc r, State.cand_candMod_same]

end

/-- Settles O33, a lemma for each command. -/
theorem referenceCommandsAct : Obligations.ReferenceCommandsAct := by
  refine ⟨fun s t i r h hr => ?_, fun _ _ _ _ h hr he ht hn hd => refConfig_flags h hr he ht hn hd,
    fun _ _ _ _ h hr hw => refWtr_takes h hr hw⟩
  obtain ⟨u, hu, ⟨f, x, b, hc⟩, hn, hd⟩ := refLimits_sets h hr
  refine ⟨u, hu, ?_⟩
  dsimp only
  rw [hc]
  exact ⟨rfl, rfl, rfl, rfl, rfl, rfl, rfl, rfl, rfl, hn, hd⟩

end Sys2Proof.Machine

/-!
SETTLING. The events of qualification: activity, windows, holds, histories and wait-to-restore (O48).
-/

namespace Sys2Proof.Machine

/-! ### The cross-check and the frequency window (R202, R211) -/

/-- What the end of a frequency window without a verdict sets (R201, R202). -/
def Cand.windowing (c : Cand) : Bool × Nat × Option Nat := (c.noVerdict, c.noVerdicts, c.winFrom)

/-- The candidate after a frequency window without a verdict, the next of which begins at `f` (R201, R202). -/
def Cand.withoutVerdict (f : Nat) (root : Bool) (c : Cand) : Cand :=
  { c.nextWindow f root with noVerdict := true, noVerdicts := satU 16 (c.noVerdicts + 1) }

/-- The frequency window of candidate `k`. -/
def State.windowOf (k : Fin 66) (s : State) : Bool × Nat × Option Nat := (s.cand k).windowing

theorem windowOf_of_cands {s u : State} (h : u.cands = s.cands) (k : Fin 66) : u.windowOf k = s.windowOf k := by
  rw [State.windowOf, State.cand_of_cands h, State.windowOf]

/-- A pair in disagreement marks one of its two candidates, whose windows go on (R213). -/
theorem xPair_windowOf (s : State) (d : Fin 8) (a b k : Fin 66) : (s.xPair d a b).windowOf k = s.windowOf k := by
  unfold State.xPair
  dsimp only
  split
  · rfl
  · split
    · rfl
    · split
      · rfl
      · split
        · refine State.candSet_keep Cand.windowing ?_ ?_ _ _ k false <;> exact fun _ => rfl
        · rfl

theorem xGroup_windowOf (s : State) (r : Fin 66) (d : Fin 8) (k : Fin 66) :
    (s.xGroup r d).windowOf k = s.windowOf k := by
  unfold State.xGroup
  dsimp only
  split
  · exact windowOf_of_cands (State.disOne_cands _ d) k
  · rw [windowOf_of_cands (State.disOne_cands _ d)]
    refine (foldl_keep _ (State.windowOf k) ?_ _ _).trans (windowOf_of_cands (s.prunePairs_cands d) k)
    exact fun u p => xPair_windowOf u d p.1 p.2 k

theorem xCheck_windowOf (s : State) (r k : Fin 66) : (s.xCheck r).windowOf k = s.windowOf k := by
  unfold State.xCheck
  split
  · exact forFin_keep _ _ _ (State.windowOf k) fun d u => xGroup_windowOf u r d k
  · rfl

/-! ### Activity (R199, R200) -/

/-- The loss limit after the last stamp has passed (R199); the instant at which it ends is one without activity
(log 38). -/
theorem hasAct_of_overdue {s : State} {r : Fin 66} {p a : Nat} (hp : s.actSpan r = some p)
    (ha : (s.cand r).lastAt = some a) (hn : a + p ≤ s.now) : s.hasAct r = false := by
  simp [State.hasAct, hp, ha, hn]

theorem refLoss_act (s : State) (r : Fin 66) (h : (s.cand r).act = true) : ((refLoss r s).cand r).act = false := by
  unfold refLoss
  dsimp only
  rw [if_pos h, State.cand_of_cands (State.cands_of_ref (State.lostAct_ref ..))]
  exact congrArg Cand.act (s.candSet_monitors r (Cand.inactive s.now _) false)

theorem refGained_begins (s : State) (r : Fin 66) :
    ((refGained r s).cand r).act = true ∧ ((refGained r s).cand r).winFrom = some s.now := by
  have h := State.candSet_monitors s r
  exact ⟨congrArg Cand.act (h _ _), congrArg Cand.winFrom (h _ _)⟩

/-! ### Wait-to-restore (R208) -/

/-- A candidate that is not RESTORING does not begin to wait once its hold or its wait has been served. -/
theorem Cand.judge_direct {up : Bool} {c : Cand} (h : c.st ≠ .restoring) : c.judge up true ≠ .restoring := by
  simp only [Cand.judge, if_neg h, Bool.not_true, Bool.and_false, Bool.false_eq_true, if_false]
  (repeat' split) <;> decide

theorem refRestored_st {s : State} {r : Fin 66} (h : (s.cand r).st = .restoring) :
    ((refRestored r s).cand r).st ≠ .restoring := by
  rw [refRestored, if_pos h, State.candSet_cand_same, Cand.judged_st]
  exact Cand.judge_direct (by simp)

/-! ### The rows -/

section
variable {s : State} {t : Nat} {r : Fin 66}

theorem activityLoss_loses {p a : Nat} (hp : (s.advance t).actSpan r = some p)
    (ha : ((s.advance t).cand r).lastAt = some a) (hc : ((s.advance t).cand r).act = true)
    (hn : a + p ≤ (s.advance t).now) :
    Completes (exec (.activityLoss t r) s) fun u => (u.cand r).act = false := by
  have he : execActivityLoss t r s = done (refLoss r (s.advance t)) := by
    simp [execActivityLoss, hc, hasAct_of_overdue hp ha hn]
  show Completes (execActivityLoss t r s) _
  rw [he, completes_done, State.commit_cand, refLoss_act _ _ hc]

theorem activityConditionHeld_gains {f : Nat} (hf : ((s.advance t).cand r).condFrom = some f)
    (hc : ((s.advance t).cand r).act = false) (ho : ((s.advance t).cand r).st ≠ .off)
    (hb : (s.advance t).actByCond r = true) (hk : (s.advance t).actCond r = true)
    (hp : (s.advance t).past f secU = true) :
    Completes (exec (.activityConditionHeld t r) s) fun u =>
      (u.cand r).act = true ∧ (u.cand r).winFrom = some (s.advance t).now := by
  have he : execActivityConditionHeld t r s = done (refGained r (s.advance t)) := by
    simp [execActivityConditionHeld, hf, hc, ho, hb, hk, hp]
  show Completes (execActivityConditionHeld t r s) _
  rw [he, completes_done, State.commit_cand]
  exact refGained_begins ..

theorem freqWindowEnd_counts {f : Nat} (hf : ((s.advance t).cand r).winFrom = some f)
    (hp : (s.advance t).past f ((s.advance t).fmLen r) = true) (hc : ((s.advance t).cand r).act = true)
    (hw : (s.advance t).windowOk r = false) :
    Completes (exec (.freqWindowEnd t r) s) fun u =>
      (u.cand r).noVerdict = true ∧ (u.cand r).noVerdicts = satU 16 (((s.advance t).cand r).noVerdicts + 1) ∧
      (u.cand r).winFrom = some (f + (s.advance t).fmLen r) := by
  have he : execFreqWindowEnd t r s = done (((s.advance t).candMod r fun c =>
      c.withoutVerdict (f + (s.advance t).fmLen r) (s.advance t).ringed).xCheck r) := by
    simp [execFreqWindowEnd, hf, hp, hc, hw, Cand.withoutVerdict]
  have hx := xCheck_windowOf ((s.advance t).candMod r fun c =>
    c.withoutVerdict (f + (s.advance t).fmLen r) (s.advance t).ringed) r r
  simp only [State.windowOf, State.cand_candMod_same, Cand.windowing, Prod.mk.injEq] at hx
  show Completes (execFreqWindowEnd t r s) _
  rw [he, completes_done, State.commit_cand]
  exact hx

theorem phaseDiscClear_clears {f : Nat} (hf : ((s.advance t).cand r).discFrom = some f)
    (hd : ((s.advance t).cand r).phaseDisc = true) (hc : ((s.advance t).cand r).act = true)
    (hp : (s.advance t).past f (((s.advance t).cand r).holdS * secU) = true) :
    Completes (exec (.phaseDiscClear t r) s) fun u => (u.cand r).phaseDisc = false := by
  have he : execPhaseDiscClear t r s = done ((s.advance t).candSet r
      (fun c => { c with phaseDisc := false, discFrom := none }) true) := by
    simp [execPhaseDiscClear, hf, hd, hc, hp]
  show Completes (execPhaseDiscClear t r s) _
  rw [he, completes_done, State.commit_cand]
  exact congrArg Cand.phaseDisc ((s.advance t).candSet_monitors r _ true)

theorem phaseHistoryDiscard_discards {f : Nat} (hf : ((s.advance t).cand r).gapFrom = some f)
    (hn : f + 86400 * secU < (s.advance t).now) :
    Completes (exec (.phaseHistoryDiscard t r) s) fun u =>
      (u.cand r).hist = [] ∧ (u.cand r).gapFrom = none ∧ ∀ k, k ≠ r → u.cand k = (s.advance t).cand k := by
  have hg : ((s.advance t).cand r).gapOver (s.advance t).now =
      { (s.advance t).cand r with hist := [], outRun := [], gapFrom := none } := by
    simp [Cand.gapOver, hf, hn]
  show Completes (done ((s.advance t).candMod r (Cand.gapOver (s.advance t).now))) _
  rw [completes_done, State.commit_cand, State.cand_candMod_same, hg]
  exact ⟨rfl, rfl, fun k hk => (State.commit_cand _ k).trans (State.cand_candMod_ne hk)⟩

theorem wtrEnd_leaves {f : Nat} (hf : ((s.advance t).cand r).wtrFrom = some f)
    (hr : ((s.advance t).cand r).st = .restoring)
    (hp : (s.advance t).past f (((s.advance t).cand r).wtrTime * secU) = true) :
    Completes (exec (.wtrEnd t r) s) fun u => (u.cand r).st ≠ .restoring := by
  have he : execWtrEnd t r s = done (refRestored r (s.advance t)) := by
    simp [execWtrEnd, hf, hr, hp]
  show Completes (execWtrEnd t r s) _
  rw [he, completes_done, State.commit_cand]
  exact refRestored_st hr

end

/-- Settles O48, a lemma for each row. -/
theorem qualificationEvents : Obligations.QualificationEvents :=
  ⟨fun _ _ _ _ _ hp ha hc hn => activityLoss_loses hp ha hc hn,
   fun _ _ _ _ hf hc ho hb hk hp => activityConditionHeld_gains hf hc ho hb hk hp,
   fun _ _ _ _ hf hp hc hw => freqWindowEnd_counts hf hp hc hw,
   fun _ _ _ _ hf hd hc hp => phaseDiscClear_clears hf hd hc hp,
   fun _ _ _ _ hf hn => phaseHistoryDiscard_discards hf hn,
   fun _ _ _ _ hf hr hp => wtrEnd_leaves hf hr hp⟩

end Sys2Proof.Machine

/-!
SUPPORT. The DPLLs: reading one after an update, what a change of DSTATE, a holdover and a step of the Metronome make
of one, and the DPLLs that the end of a step leaves as they are (R231 to R282).
-/

namespace Sys2Proof.Machine

/-! ### DPLLs read after an update -/

theorem State.dpll_of_loop {s u : State} (h : u.loop = s.loop) (k : Fin 8) : u.dpll k = s.dpll k :=
  congrArg (fun l : LoopU => vget l.dplls k) h

@[simp] theorem State.dpll_dpllMod_same (s : State) (d : Fin 8) (f : Dpll → Dpll) :
    (s.dpllMod d f).dpll d = f (s.dpll d) := vget_vmod_same s.loop.dplls d f

theorem State.dpll_dpllMod_ne {s : State} {d k : Fin 8} {f : Dpll → Dpll} (h : k ≠ d) :
    (s.dpllMod d f).dpll k = s.dpll k := vget_vmod_ne s.loop.dplls d k f h.symm

/-- What the update keeps of its DPLL it keeps of every DPLL. -/
theorem State.dpllMod_keep {α : Type} (q : Dpll → α) {f : Dpll → Dpll} (hf : ∀ y, q (f y) = q y) (s : State)
    (d k : Fin 8) : q ((s.dpllMod d f).dpll k) = q (s.dpll k) := by
  by_cases h : k = d
  · rw [h, State.dpll_dpllMod_same, hf]
  · rw [State.dpll_dpllMod_ne h]

@[simp] theorem State.count_dpll (s : State) (i n : Nat) (k : Fin 8) : (s.count i n).dpll k = s.dpll k := rfl

@[simp] theorem State.chime_dpll (s : State) (b : Nat) (k : Fin 8) : (s.chime b).dpll k = s.dpll k := rfl

@[simp] theorem State.log_dpll (s : State) (g e u : Nat) (l : List Word) (k : Fin 8) :
    (s.log g e u l).dpll k = s.dpll k := State.dpll_of_loop (State.log_loop ..) k

@[simp] theorem State.holdOk_dpll (s : State) (i : Fin 48) (l : List Word) (k : Fin 8) :
    (s.holdOk i l).dpll k = s.dpll k := rfl

/-- The time properties follow their sources without a change of any DPLL (R126). -/
theorem loop_keeps : UtcKeeps State.loop where
  time _ _ _ := rfl
  ptp _ _ := rfl
  arc _ _ := rfl
  nvs _ _ := rfl
  count _ _ _ := rfl
  draw _ := rfl
  chime _ _ _ := rfl

/-! ### A change of DSTATE, and the estimated errors (R266, R274) -/

/-- A DPLL in DSTATE `n`, entered at Kettle instant `now` and Metronome reading `mt` (R268, R295). -/
def Dpll.entered (n : DState) (now mt : Nat) (y : Dpll) : Dpll :=
  { y with dstate := n, stFrom := now, since := mt, lockFrom := none, badRun := 0 }

theorem State.setDState_dpll (s : State) (d k : Fin 8) (n : DState) :
    (s.setDState d n).dpll k =
      if (s.dpll d).dstate = n then s.dpll k else (s.dpllMod d (Dpll.entered n s.now s.mt)).dpll k := by
  unfold State.setDState
  dsimp only
  split
  · rfl
  · rw [State.log_dpll]
    split <;> split <;> rfl

theorem State.setDState_dstate (s : State) (d : Fin 8) (n : DState) : ((s.setDState d n).dpll d).dstate = n := by
  rw [State.setDState_dpll]
  split
  · assumption
  · rw [State.dpll_dpllMod_same]
    rfl

theorem State.setDState_dpll_ne {s : State} {d k : Fin 8} {n : DState} (h : k ≠ d) :
    (s.setDState d n).dpll k = s.dpll k := by
  rw [State.setDState_dpll, State.dpll_dpllMod_ne h, ite_self]

theorem State.setDState_keep {α : Type} (q : Dpll → α) (hq : ∀ y n a b, q (Dpll.entered n a b y) = q y) (s : State)
    (d k : Fin 8) (n : DState) : q ((s.setDState d n).dpll k) = q (s.dpll k) := by
  rw [State.setDState_dpll]
  split
  · rfl
  · exact State.dpllMod_keep q (fun y => hq y ..) s d k

/-- The estimated errors and HO_OVER_BUDGET are all that judging them writes (R274, R277). -/
theorem State.refreshTe_keep {α : Type} (q : Dpll → α)
    (hq : ∀ (y : Dpll) (te fe : Nat) (o : Bool), q { y with teEst := te, feEst := fe, overBudget := o } = q y)
    (s : State) (d k : Fin 8) : q ((s.refreshTe d).dpll k) = q (s.dpll k) := by
  unfold State.refreshTe
  dsimp only
  rw [State.dpllMod_keep q fun y => hq y ..]
  split <;> rfl

/-! ### The switch of a DPLL and the reference it follows (R235, R253) -/

/-- The switch of a DPLL: its phase, the instant that began, the offset, a loss of the target, and whether an evaluation
is due. -/
def Dpll.switching (y : Dpll) : SwPhase × Nat × Int × Bool × Bool := (y.sw, y.phFrom, y.swO, y.swLost, y.evalDue)

/-- The reference that DPLL `d` follows, and its switch. -/
def State.following (d : Fin 8) (s : State) : Option (Fin 66) × SwPhase × Nat × Int × Bool × Bool :=
  ((s.dpll d).cur, (s.dpll d).switching)

theorem State.following_of_loop {s u : State} (h : u.loop = s.loop) (d : Fin 8) : u.following d = s.following d := by
  simp only [State.following, State.dpll_of_loop h]

theorem State.following_dpllMod {s : State} {d k : Fin 8} {f : Dpll → Dpll}
    (hf : ∀ y, ((f y).cur, (f y).switching) = (y.cur, y.switching)) :
    (s.dpllMod k f).following d = s.following d :=
  State.dpllMod_keep (fun y => (y.cur, y.switching)) hf s k d

@[simp] theorem State.following_setDState (s : State) (d k : Fin 8) (n : DState) :
    (s.setDState k n).following d = s.following d :=
  State.setDState_keep (fun y => (y.cur, y.switching)) (fun _ _ _ _ => rfl) s k d n

@[simp] theorem State.following_refreshTe (s : State) (d k : Fin 8) : (s.refreshTe k).following d = s.following d :=
  State.refreshTe_keep (fun y => (y.cur, y.switching)) (fun _ _ _ _ => rfl) s k d

@[simp] theorem State.following_utcUpdate (s : State) (d : Fin 8) : (utcUpdate s).following d = s.following d :=
  State.following_of_loop (loop_keeps.utcUpdate s) d

@[simp] theorem State.following_utcFollow (s : State) (d k : Fin 8) : (s.utcFollow k).following d = s.following d :=
  ite_keep (State.following d) _ _ s (s.following_utcUpdate d)

/-! ### Holdover (R233, R269) -/

theorem Dpll.unload_switching (now : Nat) (y : Dpll) : (y.unload now).switching = y.switching := by
  unfold Dpll.unload
  split <;> rfl

/-- A DPLL whose feeding stops has no reference; its switch goes on. -/
theorem State.holdStart_following (s : State) (d : Fin 8) :
    (s.holdStart d).following d = (none, (s.dpll d).switching) := by
  rw [State.holdStart, State.following_utcFollow]
  unfold State.feedStop State.following
  dsimp only
  split
  · rw [State.dpll_dpllMod_same]
    rfl
  · split <;> simp only [State.dpll_dpllMod_same] <;> exact Prod.ext rfl (Dpll.unload_switching ..)

theorem State.holdStart_switching (s : State) (d : Fin 8) :
    ((s.holdStart d).dpll d).switching = (s.dpll d).switching := congrArg Prod.snd (s.holdStart_following d)

theorem State.following_entryEdge (s : State) (d : Fin 8) : (s.entryEdge d).following d = s.following d := by
  unfold State.entryEdge
  exact State.following_dpllMod fun _ => rfl

theorem State.following_freerunHold (s : State) (d : Fin 8) : (s.freerunHold d).following d = s.following d := by
  unfold State.freerunHold
  exact State.following_dpllMod fun _ => rfl

/-- An enabled DPLL that enters HOLDOVER is in it, without a reference; its switch goes on. -/
theorem State.enterHold_holds {s : State} {d : Fin 8} (c : HoCause) (h : (s.dpll d).dstate ≠ .disabled) :
    ((s.enterHold d c).dpll d).dstate = .holdover ∧
    (s.enterHold d c).following d = (none, (s.dpll d).switching) := by
  unfold State.enterHold
  dsimp only
  rw [if_neg h]
  split
  next hh =>
    rw [State.following, State.dpll_dpllMod_same]
    exact ⟨hh, rfl⟩
  next =>
    have he (p : Prop) [Decidable p] : ((if p then s.entryEdge d else s).dpll d).switching = (s.dpll d).switching :=
      congrArg Prod.snd (ite_keep (State.following d) _ _ s (s.following_entryEdge d))
    constructor
    · rw [State.refreshTe_keep (·.dstate) fun _ _ _ _ => rfl, State.setDState_dstate]
    · rw [State.following_refreshTe, State.following_setDState,
        ite_keep (State.following d) _ _ _ (State.following_freerunHold ..), State.following_dpllMod,
        State.holdStart_following, he]
      exact fun _ => rfl

/-! ### A step of the Metronome (R135, R282) -/

@[simp] theorem State.domStepped_dpll (s : State) (d k : Fin 8) (dv : Int) :
    (s.domStepped d dv).dpll k = s.dpll k := by
  unfold State.domStepped
  split <;> rfl

@[simp] theorem State.jumpOuts_dpll (s : State) (k : Fin 8) : s.jumpOuts.dpll k = s.dpll k :=
  ite_keep (State.dpll · k) _ _ s rfl

theorem dropCount_loop (s : State) : (dropCount s).loop = s.loop := by
  unfold dropCount
  split <;> rfl

/-- A DPLL whose domain reads `m`. -/
def Dpll.timed (m : Int) (y : Dpll) : Dpll := { y with domTime := m }

/-- A step writes of the DPLLs the reading of domain 0 and the seconds a holdover counts from (log 40). -/
theorem metroStep_dpll (dv : Int) (unit : Nat) (s : State) (d : Fin 8) :
    ∃ m e, (metroStep dv unit s).dpll d = Dpll.secStep e ((s.dpllMod 0 (Dpll.timed m)).dpll d) := by
  have hj (u : State) : (if unit = 1 then u else u.jumpOuts).dpll d = u.dpll d := by
    split
    · rfl
    · exact u.jumpOuts_dpll d
  refine ⟨((s.time.metro : Int) + dv * accU).toNat,
    secOf (((s.time.metro : Int) + dv * accU).toNat / accU) - s.msec, ?_⟩
  unfold metroStep
  dsimp only
  rw [State.log_dpll, hj, State.domStepped_dpll]
  exact vget_vmap _ _ _

theorem State.following_metroStep (dv : Int) (unit : Nat) (s : State) (d : Fin 8) :
    (metroStep dv unit s).following d = s.following d := by
  obtain ⟨m, e, h⟩ := metroStep_dpll dv unit s d
  rw [State.following, h]
  exact State.following_dpllMod (f := Dpll.timed m) fun _ => rfl

/-! ### The end of a step (R9, R285) -/

/-- No change of module state to any but RECOVERY touches a DPLL that is not slewing (R285). -/
theorem State.toState_dpll {s : State} {m : ModState} {d : Fin 8} (hm : m = .recovery → s.sys.mstate = .recovery)
    (hd : (s.dpll d).slewing = false) : (s.toState m).dpll d = s.dpll d := by
  unfold State.toState
  dsimp only
  split
  · rfl
  next hs =>
    have hr : m ≠ .recovery := fun h => hs ((hm h).trans h.symm)
    have ho : Dpll.onState m s.sys.mstate (s.dpll d) = s.dpll d := by simp [Dpll.onState, hr, hd]
    rw [State.chime_dpll, State.log_dpll, State.dpll_of_loop (State.countPended_loop ..)]
    refine (vget_vmap _ _ _).trans ?_
    split <;> split <;> exact ho

theorem State.settle1_dpll {s : State} {d : Fin 8} (hd : (s.dpll d).slewing = false) :
    s.settle1.dpll d = s.dpll d := State.toState_dpll (State.eq_recovery_of_nextMode ·) hd

@[simp] theorem State.trace_dpll (s : State) (d : Fin 8) : s.trace.dpll d = s.dpll d := by
  obtain ⟨a, b, h⟩ := s.trace_eq
  rw [h]
  rfl

/-- The end of a step leaves a DPLL that is not slewing as it is. -/
theorem State.commit_dpll_of_not_slewing {s : State} {d : Fin 8} (hd : (s.dpll d).slewing = false) :
    s.commit.dpll d = s.dpll d := by
  have h1 := State.settle1_dpll hd
  have h2 : s.settle1.settle1.dpll d = s.dpll d := (State.settle1_dpll (by rwa [h1])).trans h1
  have h3 : s.settle.dpll d = s.dpll d := (State.settle1_dpll (by rwa [h2])).trans h2
  rw [State.commit, State.dpll_of_loop (State.latch_loop _), State.trace_dpll, h3]

@[simp] theorem State.commit_following (s : State) (d : Fin 8) : s.commit.following d = s.following d := by
  simp [State.following, Dpll.switching]

end Sys2Proof.Machine

/-!
SETTLING. The commands REF_SELECT and REF_PRIORITY (O34).
-/

namespace Sys2Proof.Machine

/-! ### REF_SELECT (R231, R251) -/

/-- A DPLL with the selection of the arguments, due for an evaluation (R231, R251). -/
def Dpll.selected (a : Args) (y : Dpll) : Dpll :=
  { y with forcedMode := decide (af a 0 31 30 = 1), revert := ab a 0 29, timeAsFreq := ab a 0 28,
           manual := candOf (af a 0 15 8), slopeLimit := dflt a 1 (af a 1 31 16) y.slopeLimit,
           settleThr := dflt a 1 (af a 1 15 0) y.settleThr, hitLimit := dflt a 2 (af a 2 31 0) y.hitLimit,
           evalDue := decide (y.dstate ≠ .disabled) }

theorem applyRefSelect_eq (a : Args) (s : State) :
    applyRefSelect a s = s.dpllMod (argDpll a) (Dpll.selected a) := rfl

/-- The value takes effect at once, and four words are answered (R253). -/
theorem exec_refSelect {s : State} {t : Nat} {i : Fin 48} (h : (s.advance t).ready i .refSelect false = true) :
    ∃ w, w.length = 4 ∧
      exec (.refSelect t i) s = done ((applyRefSelect (s.tag i).args (s.advance t)).holdOk i w) := by
  rw [← State.advance_tag t s]
  exact ⟨_, rfl, runCmd_answers (ch := refSelectChecks) (body := refSelectBody) (readyTurn_of_ready h rfl) rfl⟩

/-! ### REF_PRIORITY (R254) -/

/-- The new groups change no DPLL (R211, R214). -/
theorem State.regroup_loop (s : State) : s.regroup.loop = s.loop :=
  forFin_keep _ _ _ State.loop fun d s => by
    unfold State.disOne
    dsimp only
    split
    · rfl
    · rw [State.chime_loop, State.log_loop]
      rfl

@[simp] theorem State.regroup_dpll (s : State) (k : Fin 8) : s.regroup.dpll k = s.dpll k :=
  State.dpll_of_loop s.regroup_loop k

/-- A DPLL with the table entries of the arguments, due for an evaluation (R231, R254). -/
def Dpll.prioritized (a : Args) (y : Dpll) : Dpll :=
  { y with use := vmapIdx y.use fun i u =>
             if af a 0 22 16 ≤ i ∧ i < af a 0 22 16 + af a 0 14 8 then
               { u with use := decide (128 ≤ prioByte a (i - af a 0 22 16)),
                        prio := prioByte a (i - af a 0 22 16) % 16 }
             else u,
           evalDue := decide (y.dstate ≠ .disabled) }

theorem Dpll.prioritized_use (a : Args) (y : Dpll) (r : Fin 66) :
    vget (y.prioritized a).use r =
      if af a 0 22 16 ≤ r.val ∧ r.val < af a 0 22 16 + af a 0 14 8 then
        { vget y.use r with use := decide (128 ≤ prioByte a (r.val - af a 0 22 16)),
                            prio := prioByte a (r.val - af a 0 22 16) % 16 }
      else vget y.use r := vget_vmapIdx ..

theorem applyRefPriority_eq (a : Args) (s : State) :
    applyRefPriority a s = (s.dpllMod (argDpll a) (Dpll.prioritized a)).regroup := rfl

/-- The value takes effect at once, and 18 words are answered (R256). -/
theorem exec_refPriority {s : State} {t : Nat} {i : Fin 48} (h : (s.advance t).ready i .refPriority false = true) :
    ∃ w, w.length = 18 ∧
      exec (.refPriority t i) s = done ((applyRefPriority (s.tag i).args (s.advance t)).holdOk i w) := by
  rw [← State.advance_tag t s]
  exact ⟨_, rfl, runCmd_answers (ch := refPriorityChecks) (body := refPriorityBody) (readyTurn_of_ready h rfl) rfl⟩

/-- Settles O34: what each command writes of its DPLL, and what the end of the step keeps of it. -/
theorem selectionCommandsAct : Obligations.SelectionCommandsAct := by
  constructor
  · intro s t i h
    obtain ⟨w, hw, he⟩ := exec_refSelect h
    rw [he, applyRefSelect_eq, completes_done]
    refine ⟨?_, ?_, ?_, ?_, ?_, ?_, ?_, ?_, fun k hk => by simp [State.dpll_dpllMod_ne hk], w, holdOk_heldOk .., hw⟩ <;>
      simp [Dpll.selected]
  · intro s t i r h
    obtain ⟨w, hw, he⟩ := exec_refPriority h
    rw [he, applyRefPriority_eq, completes_done]
    simp only [State.commit_dpll_use, State.holdOk_dpll, State.regroup_dpll, State.dpll_dpllMod_same,
      Dpll.prioritized_use, State.advance_dpll_use]
    refine ⟨fun hr => if_neg hr, fun hl hu => ?_, fun k hk => ?_, w, holdOk_heldOk .., hw⟩
    · rw [if_pos ⟨hl, hu⟩]
      exact ⟨rfl, rfl⟩
    · rw [State.dpll_dpllMod_ne hk, State.advance_dpll_use]

end Sys2Proof.Machine

/-!
SETTLING. The events of selection, switching and the loops (O49).
-/

namespace Sys2Proof.Machine

/-! ### Evaluation (R231 to R233) -/

/-- A DPLL whose due evaluation is taken (R231). -/
def Dpll.evaluated (y : Dpll) : Dpll := { y with evalDue := false }

/-- A DPLL whose switch to `r` begins with MEASURE at Kettle instant `now` (R235, R251). -/
def Dpll.started (r : Fin 66) (now : Nat) (y : Dpll) : Dpll :=
  { y with sw := .measure, target := some r, swFrom := now, phFrom := now, swOld := y.cur, swO := 0, swLost := false,
           swAct := false, swSamples := [], swUpdates := 0, pendingEval := false, swTaf := y.timeAsFreq,
           swThr := y.stepThr }

theorem State.enabled_of_canEval {s : State} {d : Fin 8} (h : s.canEval d = true) : (s.dpll d).dstate ≠ .disabled := by
  simp only [State.canEval, Bool.and_eq_true, decide_eq_true_eq] at h
  obtain ⟨⟨⟨h, -⟩, -⟩, -⟩ := h
  exact h

/-- The reference wanted does not turn on whether an evaluation is due (R228). -/
theorem State.want_evaluated (s : State) (d : Fin 8) (skip : Option (Fin 66)) :
    (s.dpllMod d Dpll.evaluated).want d skip = s.want d skip := by
  have hc (r : Fin 66) : (s.dpllMod d Dpll.evaluated).cand r = s.cand r := rfl
  simp only [State.want, State.best, State.may, State.prio, State.eligible, State.dpll_dpllMod_same, Dpll.evaluated, hc,
    State.dpllMod_pair]
  rfl

theorem State.setNext_dpll (s : State) (d : Fin 8) : ∃ n, (s.setNext d).dpll d = { s.dpll d with next := n } :=
  ⟨_, State.dpll_dpllMod_same ..⟩

theorem State.startSwitch_dpll {s : State} {d : Fin 8} (r : Fin 66) (h : (s.dpll d).dstate ≠ .disabled) :
    (s.startSwitch d r).dpll d = (s.dpll d).started r s.now := by
  unfold State.startSwitch
  dsimp only
  rw [if_neg h, State.log_dpll, State.chime_dpll, State.dpll_dpllMod_same]
  split <;> rfl

/-- During a switch the evaluation is put off (R231). -/
theorem State.evaluate_switching {s : State} {d : Fin 8} (h : (s.dpll d).sw ≠ .none) :
    ∃ n, (s.evaluate d).dpll d = { (s.dpll d).evaluated with pendingEval := true, next := n } := by
  unfold State.evaluate
  dsimp only
  rw [if_pos h]
  obtain ⟨n, hn⟩ := ((s.dpllMod d Dpll.evaluated).dpllMod d fun y => { y with pendingEval := true }).setNext_dpll d
  exact ⟨n, hn.trans (by simp only [State.dpll_dpllMod_same])⟩

/-- Without a switch in progress, the reference wanted stays or a switch to it begins (R231). -/
theorem State.evaluate_some {s : State} {d : Fin 8} {r : Fin 66} (h : (s.dpll d).sw = .none)
    (hw : s.want d none = some r) :
    s.evaluate d = (if (s.dpll d).cur = some r then s.dpllMod d Dpll.evaluated
      else (s.dpllMod d Dpll.evaluated).startSwitch d r).setNext d := by
  unfold State.evaluate
  dsimp only
  rw [if_neg (not_not_intro h)]
  split
  next x hx =>
    cases hx.symm.trans ((s.want_evaluated d none).trans hw)
    rfl
  next hx => cases hx.symm.trans ((s.want_evaluated d none).trans hw)

/-- Without a reference wanted, a DPLL that has one holds over (R231, R286). -/
theorem State.evaluate_none {s : State} {d : Fin 8} (h : (s.dpll d).sw = .none) (hw : s.want d none = none)
    (hc : (s.dpll d).cur ≠ none) :
    s.evaluate d = ((s.dpllMod d Dpll.evaluated).enterHold d (s.dpll d).noRefCause).setNext d := by
  unfold State.evaluate
  dsimp only
  rw [if_neg (not_not_intro h)]
  split
  next x hx => cases hx.symm.trans ((s.want_evaluated d none).trans hw)
  next => exact if_pos (.inl (Option.isSome_iff_ne_none.2 hc))

section
variable {s : State} {t : Nat} {d : Fin 8}

theorem exec_evaluation (hd : (s.dpll d).evalDue = true) (hc : (s.advance t).canEval d = true) :
    exec (.evaluation t d) s = done ((s.advance t).evaluate d) := by
  show execEvaluation t d s = _
  simp [execEvaluation, hd, hc]

theorem evaluation_wants {r : Fin 66} (hd : (s.dpll d).evalDue = true) (hc : (s.advance t).canEval d = true)
    (hs : (s.dpll d).sw = .none) (hw : (s.advance t).want d none = some r) :
    Completes (exec (.evaluation t d) s) fun u =>
      (u.dpll d).evalDue = false ∧ (u.dpll d).cur = (s.dpll d).cur ∧
      ((s.dpll d).cur = some r → (u.dpll d).sw = .none) ∧
      ((s.dpll d).cur ≠ some r → (u.dpll d).sw = .measure ∧ (u.dpll d).target = some r ∧
        (u.dpll d).phFrom = (s.advance t).now) := by
  obtain ⟨n, hn⟩ := State.setNext_dpll (if ((s.advance t).dpll d).cur = some r
    then (s.advance t).dpllMod d Dpll.evaluated
    else ((s.advance t).dpllMod d Dpll.evaluated).startSwitch d r) d
  rw [exec_evaluation hd hc, State.evaluate_some (by simpa using hs) hw, completes_done]
  simp only [State.commit_dpll_evalDue, State.commit_dpll_cur, State.commit_dpll_sw, State.commit_dpll_target,
    State.commit_dpll_phFrom, hn]
  by_cases hr : (s.dpll d).cur = some r
  · simp [hr, hs, Dpll.evaluated]
  · have he : (((s.advance t).dpllMod d Dpll.evaluated).dpll d).dstate ≠ .disabled := by
      simpa [Dpll.evaluated] using State.enabled_of_canEval hc
    simp [hr, State.startSwitch_dpll r he, Dpll.started, Dpll.evaluated, State.now]

theorem evaluation_holds (hd : (s.dpll d).evalDue = true) (hc : (s.advance t).canEval d = true)
    (hs : (s.dpll d).sw = .none) (hw : (s.advance t).want d none = none) (hr : (s.dpll d).cur ≠ none) :
    Completes (exec (.evaluation t d) s) fun u =>
      (u.dpll d).evalDue = false ∧ (u.dpll d).dstate = .holdover ∧ (u.dpll d).cur = none := by
  have he : (((s.advance t).dpllMod d Dpll.evaluated).dpll d).dstate ≠ .disabled := by
    simpa [Dpll.evaluated] using State.enabled_of_canEval hc
  obtain ⟨hh, hf⟩ := State.enterHold_holds ((s.advance t).dpll d).noRefCause he
  simp only [State.following, Dpll.switching, Prod.mk.injEq] at hf
  obtain ⟨hn, -, -, -, -, hv⟩ := hf
  obtain ⟨n, hx⟩ := State.setNext_dpll
    (((s.advance t).dpllMod d Dpll.evaluated).enterHold d ((s.advance t).dpll d).noRefCause) d
  rw [exec_evaluation hd hc, State.evaluate_none (by simpa using hs) hw (by simpa using hr), completes_done]
  simp only [State.commit_dpll_evalDue, State.commit_dpll_dstate, State.commit_dpll_cur, hx]
  exact ⟨hv.trans (by rw [State.dpll_dpllMod_same]; rfl), hh, hn⟩

theorem evaluation_put_off (hd : (s.dpll d).evalDue = true) (hc : (s.advance t).canEval d = true)
    (hs : (s.dpll d).sw ≠ .none) :
    Completes (exec (.evaluation t d) s) fun u =>
      (u.dpll d).evalDue = false ∧ (u.dpll d).pendingEval = true ∧ (u.dpll d).sw = (s.dpll d).sw ∧
      (u.dpll d).cur = (s.dpll d).cur := by
  obtain ⟨n, hn⟩ := State.evaluate_switching (s := s.advance t) (d := d) (by simpa using hs)
  rw [exec_evaluation hd hc, completes_done]
  simp [hn, Dpll.evaluated]

/-! ### MEASURE (R235, R236, R238) -/

/-- The build-out at the first edge of HANDOVER leaves the reference and the switch (R242, R282). -/
theorem State.following_buildOut (s : State) (d : Fin 8) (r : Fin 66) (o : Int) :
    (s.buildOut d r o).following d = s.following d := by
  unfold State.buildOut
  dsimp only
  split
  · exact State.following_dpllMod fun _ => rfl
  split
  · rw [State.following_utcUpdate]
    exact (State.following_metroStep ..).trans (State.following_of_loop (dropCount_loop s) d)
  split
  · exact State.following_dpllMod fun _ => rfl
  split
  · exact State.following_dpllMod fun _ => rfl
  · exact State.following_dpllMod fun _ => rfl

/-- The detector moves to the target: HANDOVER begins now with the offset `o` (R235). -/
theorem State.following_moveTo (s : State) (d : Fin 8) (r : Fin 66) (o : Int) :
    (s.moveTo d r o).following d = (some r, .handover, s.now, o, (s.dpll d).swLost, (s.dpll d).evalDue) := by
  unfold State.moveTo
  dsimp only
  have hk (u : State) (c : Prop) [Decidable c] :
      (if c then u else u.setDState d .acquiring).following d = u.following d := by
    split
    · rfl
    · exact u.following_setDState d d _
  rw [State.following_refreshTe, State.following_utcFollow, hk, State.following_dpllMod, State.following_buildOut,
    State.following, State.dpll_dpllMod_same]
  · rfl
  · exact fun _ => rfl

/-- A DPLL that goes on in HANDOVER at Kettle instant `now` without its target (R238). -/
def Dpll.targetless (now : Nat) (y : Dpll) : Dpll := { y with sw := .handover, phFrom := now, swLost := true }

theorem measureEnd_moves {r : Fin 66} {o : Int} (hs : (s.dpll d).sw = .measure) (ht : (s.dpll d).target = some r)
    (hl : (s.dpll d).swLost = false) (ho : (s.advance t).measured d r = some o)
    (hp : (s.advance t).past (s.dpll d).phFrom (64 * msU) = true) :
    Completes (exec (.measureEnd t d) s) fun u =>
      (u.dpll d).sw = .handover ∧ (u.dpll d).cur = some r ∧ (u.dpll d).swO = o ∧
      (u.dpll d).phFrom = (s.advance t).now := by
  have he : execMeasureEnd t d s = done ((s.advance t).moveTo d r o) := by
    simp [execMeasureEnd, hs, ht, hl, ho, hp]
  have hf := State.following_moveTo (s.advance t) d r o
  rw [← State.commit_following] at hf
  simp only [State.following, Dpll.switching, Prod.mk.injEq] at hf
  obtain ⟨hc, hw, ha, hv, -, -⟩ := hf
  show Completes (execMeasureEnd t d s) _
  rw [he, completes_done]
  exact ⟨hw, hc, hv, ha⟩

theorem measureEnd_lost {r : Fin 66} (hs : (s.dpll d).sw = .measure) (ht : (s.dpll d).target = some r)
    (hl : (s.dpll d).swLost = true) (hp : (s.advance t).past (s.dpll d).phFrom (64 * msU) = true) :
    Completes (exec (.measureEnd t d) s) fun u => (u.dpll d).sw = .handover ∧ (u.dpll d).swLost = true := by
  have he : execMeasureEnd t d s = done (if (s.dpll d).cur.isSome
      then ((s.advance t).dpllMod d (Dpll.targetless (s.advance t).now)).holdStart d
      else (s.advance t).dpllMod d (Dpll.targetless (s.advance t).now)) := by
    simp only [execMeasureEnd, State.advance_dpll_sw, State.advance_dpll_phFrom, State.advance_dpll_target,
      State.advance_dpll_swLost, State.advance_dpll_cur, hs, ht, hl, hp, and_self, if_true, apply_ite done]
    rfl
  have hw := ite_keep (fun u => (u.dpll d).switching) ((s.dpll d).cur.isSome = true) _ _
    (State.holdStart_switching ((s.advance t).dpllMod d (Dpll.targetless (s.advance t).now)) d)
  simp only [Dpll.switching, State.dpll_dpllMod_same, Prod.mk.injEq] at hw
  obtain ⟨hw, -, -, hx, -⟩ := hw
  show Completes (execMeasureEnd t d s) _
  rw [he, completes_done, State.commit_dpll_sw, State.commit_dpll_swLost]
  exact ⟨hw, hx⟩

/-! ### HANDOVER and SETTLE (R235, R238, R239) -/

/-- A DPLL whose SETTLE begins at Kettle instant `now` (R235). -/
def Dpll.inSettle (now : Nat) (y : Dpll) : Dpll :=
  { y with sw := .settle, phFrom := now, swUpdates := 0, lockFrom := none, badRun := 0 }

theorem State.standbyRealign_of_not_standby {s : State} {d : Fin 8} (h : s.pair.role ≠ .standby) :
    s.standbyRealign d = s := if_neg fun ⟨hs, _⟩ => h hs

theorem handoverEnd_settles (hs : (s.dpll d).sw = .handover) (hl : (s.dpll d).swLost = false)
    (hr : s.pair.role ≠ .standby) (hp : (s.advance t).past (s.dpll d).phFrom msU = true) :
    Completes (exec (.handoverEnd t d) s) fun u =>
      (u.dpll d).sw = .settle ∧ (u.dpll d).phFrom = (s.advance t).now ∧ (u.dpll d).cur = (s.dpll d).cur ∧
      (u.dpll d).lockFrom = none := by
  have he : execHandoverEnd t d s = done ((s.advance t).dpllMod d (Dpll.inSettle (s.advance t).now)) := by
    unfold execHandoverEnd
    dsimp only
    rw [State.advance_dpll_sw, State.advance_dpll_phFrom, if_pos ⟨hs, hp⟩, State.advance_dpll_swLost, hl,
      if_neg Bool.false_ne_true, State.standbyRealign_of_not_standby (by simpa using hr)]
    rfl
  show Completes (execHandoverEnd t d s) _
  rw [he, completes_done]
  simp [Dpll.inSettle]

/-- A DPLL whose switch has ended with `outcome` (R237, R253). -/
def Dpll.switched (outcome : Nat) (y : Dpll) : Dpll :=
  { y with sw := .none, target := none, lastOutcome := outcome, pendingEval := false, evalDue := true, swSamples := [] }

/-- The end of a switch behind which no ENABLE 0 waits (R237, R291). -/
theorem State.endSwitch_dpll {s : State} {d : Fin 8} (n : Nat) (h : (s.dpll d).sw ≠ .none)
    (ho : (s.dpll d).offDue = false) : (s.endSwitch d n).dpll d = (s.dpll d).switched n := by
  have ho' : ¬(s.dpll d).offDue = true := by simp [ho]
  unfold State.endSwitch
  dsimp only
  rw [if_neg h, if_neg ho', State.log_dpll, State.chime_dpll]
  split
  · exact State.dpll_dpllMod_same ..
  · exact State.dpll_dpllMod_same ..

/-- A switch that ends of itself on a candidate that is not OFF has no more to do (R32). -/
theorem State.ended_dpll {s : State} {d : Fin 8} (n : Nat) (h : (s.dpll d).sw ≠ .none)
    (ho : (s.dpll d).offDue = false) (hr : ∀ r, (s.dpll d).cur = some r → (s.cand r).st ≠ .off) :
    (s.ended d n).dpll d = (s.dpll d).switched n := by
  have he := State.endSwitch_dpll n h ho
  have hc (r : Fin 66) : (s.endSwitch d n).cand r = s.cand r :=
    State.cand_of_cands (State.cands_of_ref (State.endSwitch_ref ..)) r
  unfold State.ended
  dsimp only
  split
  next r hx =>
    rw [he] at hx
    rw [hc, if_neg (hr r hx), he]
  next => exact he

theorem settleTimeout_ends (hs : (s.dpll d).sw = .settle) (ho : (s.dpll d).offDue = false)
    (hr : ∀ r, (s.dpll d).cur = some r → ((s.advance t).cand r).st ≠ .off)
    (hp : (s.advance t).past (s.dpll d).phFrom (10 * secU) = true) :
    Completes (exec (.settleTimeout t d) s) fun u =>
      (u.dpll d).sw = .none ∧ (u.dpll d).lastOutcome = 2 ∧ (u.dpll d).target = none ∧ (u.dpll d).evalDue = true ∧
      (u.dpll d).cur = (s.dpll d).cur := by
  have he : execSettleTimeout t d s = done ((s.advance t).ended d 2) := by
    simp [execSettleTimeout, hs, hp]
  have hx : ((s.advance t).ended d 2).dpll d = ((s.advance t).dpll d).switched 2 :=
    State.ended_dpll 2 (by simp [hs]) (by simpa using ho) (by simpa using hr)
  show Completes (execSettleTimeout t d s) _
  rw [he, completes_done]
  simp [hx, Dpll.switched]

/-! ### Steering, the pull limit and the schedule (R244, R264, R267) -/

/-- A DPLL whose build-out is worked off (R244, R285). -/
def Dpll.steeringOver (y : Dpll) : Dpll := { y with steering := false, slewing := false, steerRem := 0 }

theorem steeringEnd_clears
    (hs : ((s.advance t).dpll d).steering = true ∨ ((s.advance t).dpll d).slewing = true)
    (hb : ((s.advance t).dpll d).buildOut = 0) :
    Completes (exec (.steeringEnd t d) s) fun u =>
      (u.dpll d).steering = false ∧ (u.dpll d).slewing = false ∧ (u.dpll d).buildOut = 0 := by
  have hg : ((((s.advance t).dpll d).steering || ((s.advance t).dpll d).slewing) &&
      decide (((s.advance t).dpll d).buildOut = 0)) = true := by
    rw [hb, Bool.and_eq_true, Bool.or_eq_true]
    exact ⟨hs, decide_eq_true rfl⟩
  have he : execSteeringEnd t d s = done (if ((s.advance t).dpll d).slewing
      then ((s.advance t).dpllMod d Dpll.steeringOver).count (0x0600 + 16 * d.val + 3)
      else (s.advance t).dpllMod d Dpll.steeringOver) := if_pos hg
  have hx := (ite_keep (State.dpll · d) (((s.advance t).dpll d).slewing = true) _ _
    (State.count_dpll ((s.advance t).dpllMod d Dpll.steeringOver) (0x0600 + 16 * d.val + 3) 1 d)).trans
    (State.dpll_dpllMod_same ..)
  show Completes (execSteeringEnd t d s) _
  rw [he, completes_done, State.commit_dpll_of_not_slewing (by rw [hx]; rfl), hx]
  exact ⟨rfl, rfl, hb⟩

theorem pullLimitedTimeout_unlocks (hl : ((s.advance t).dpll d).pullLimited = true) (hd : (s.dpll d).dstate = .locked)
    (hs : (s.dpll d).sw = .none ∨ (s.dpll d).sw = .settle)
    (hp : (s.advance t).past ((s.advance t).dpll d).pullFrom secU = true) :
    Completes (exec (.pullLimitedTimeout t d) s) fun u =>
      (u.dpll d).dstate = .acquiring ∧ ∀ k, k ≠ d → (u.dpll k).dstate = (s.dpll k).dstate := by
  have he : execPullLimitedTimeout t d s = done ((s.advance t).setDState d .acquiring) := by
    unfold execPullLimitedTimeout
    dsimp only
    rw [State.advance_dpll_dstate, State.advance_dpll_sw, if_pos ⟨hl, hd, hs, hp⟩]
  show Completes (execPullLimitedTimeout t d s) _
  rw [he, completes_done]
  refine ⟨?_, fun k hk => ?_⟩
  · rw [State.commit_dpll_dstate, State.setDState_dstate]
  · rw [State.commit_dpll_dstate, State.setDState_dpll_ne hk, State.advance_dpll_dstate]

theorem scheduleStepEnd_advances {bw w : Nat}
    (hx : ((s.advance t).dpll d).steps[((s.advance t).dpll d).stepIdx]? = some (bw, w))
    (hw : w * secU ≤ ((s.advance t).dpll d).dwell) :
    Completes (exec (.scheduleStepEnd t d) s) fun u =>
      (u.dpll d).stepIdx = (if ((s.advance t).dpll d).stepIdx + 1 < ((s.advance t).dpll d).steps.length
        then ((s.advance t).dpll d).stepIdx + 1 else 8) ∧ (u.dpll d).dwell = 0 ∧
      (u.dpll d).steps = (s.dpll d).steps := by
  show Completes (execScheduleStepEnd t d s) _
  unfold execScheduleStepEnd
  dsimp only
  rw [hx]
  dsimp only
  rw [if_pos hw, completes_done]
  simp

end

/-- Settles O49, a lemma for each row. -/
theorem switchAndLoopEvents : Obligations.SwitchAndLoopEvents :=
  ⟨fun _ _ _ _ hd hc hs hw => evaluation_wants hd hc hs hw,
   fun _ _ _ hd hc hs hw hr => evaluation_holds hd hc hs hw hr,
   fun _ _ _ hd hc hs => evaluation_put_off hd hc hs,
   fun _ _ _ _ _ hs ht hl ho hp => measureEnd_moves hs ht hl ho hp,
   fun _ _ _ _ hs ht hl hp => measureEnd_lost hs ht hl hp,
   fun _ _ _ hs hl hr hp => handoverEnd_settles hs hl hr hp,
   fun _ _ _ hs ho hr hp => settleTimeout_ends hs ho hr hp,
   fun _ _ _ hs hb => steeringEnd_clears hs hb,
   fun _ _ _ hl hd hs hp => pullLimitedTimeout_unlocks hl hd hs hp,
   fun _ _ _ _ _ hx hw => scheduleStepEnd_advances hx hw⟩

end Sys2Proof.Machine

/-!
SUPPORT. What an entry into HOLDOVER, FREERUN or DISABLED keeps: the settings of LOOP_CONFIG, FORCED, and every other
DPLL (R266, R269, R290).
-/

namespace Sys2Proof.Machine

/-! ### The settings of a DPLL (R290) -/

/-- The fields that LOOP_CONFIG sets beside ENABLE (R290). -/
def Dpll.tuning (y : Dpll) : List Nat :=
  [y.damping, y.bw, y.lockThr, y.stepThr, y.pullLimit, y.recSlew, y.lockTime]

/-- What of a DPLL neither a holdover nor FREERUN writes: its settings, and whether the host forces its holdover. -/
def Dpll.hostSet (y : Dpll) : List Nat × Bool := (y.tuning, y.forced)

theorem Dpll.unload_hostSet (now : Nat) (y : Dpll) : (y.unload now).hostSet = y.hostSet := by
  unfold Dpll.unload
  split <;> rfl

/-- A DPLL that is disabled, its domain at the present control value (R250, R290). -/
def Dpll.turnedOff (c : Int) (y : Dpll) : Dpll :=
  { y with c := c, cur := none, target := none, next := none, sw := .none, bridging := false, enable := false,
           offDue := false, pendingEval := false, evalDue := false, teValid := false, hoCause := .none,
           forced := false }

/-- `p` reads of the DPLLs at most the other DPLLs and what the host has set of DPLL `d`, and none of what the time
properties write. -/
structure LoopKeeps {α : Type} (d : Fin 8) (p : State → α) : Prop extends UtcKeeps p where
  dpll : ∀ (s : State) (f : Dpll → Dpll), (∀ y, (f y).hostSet = y.hostSet) → p (s.dpllMod d f) = p s

/-- The time properties follow their sources without a change of a DPLL (R126). -/
theorem dpll_utcKeeps {α : Type} (q : Dpll → α) (k : Fin 8) : UtcKeeps fun s => q (s.dpll k) where
  time _ _ _ := rfl
  ptp _ _ := rfl
  arc _ _ := rfl
  nvs _ _ := rfl
  count _ _ _ := rfl
  draw _ := rfl
  chime _ _ _ := rfl

theorem dpll_keeps_ne {d k : Fin 8} (hk : k ≠ d) : LoopKeeps d (State.dpll · k) where
  toUtcKeeps := dpll_utcKeeps (fun y => y) k
  dpll _ _ _ := State.dpll_dpllMod_ne hk

theorem hostSet_keeps (d : Fin 8) : LoopKeeps d fun s => (s.dpll d).hostSet where
  toUtcKeeps := dpll_utcKeeps Dpll.hostSet d
  dpll s _ hf := State.dpllMod_keep Dpll.hostSet hf s d d

theorem tuning_keeps (d : Fin 8) : LoopKeeps d fun s => (s.dpll d).tuning where
  toUtcKeeps := dpll_utcKeeps Dpll.tuning d
  dpll s _ hf := State.dpllMod_keep Dpll.tuning (fun y => congrArg Prod.fst (hf y)) s d d

/-! ### Changes of a DPLL's state (R266, R269, R270, R290) -/

namespace LoopKeeps
variable {α : Type} {d : Fin 8} {p : State → α} (h : LoopKeeps d p)
include h

theorem setDState (s : State) (n : DState) : p (s.setDState d n) = p s := by
  unfold State.setDState
  dsimp only
  split
  · rfl
  · rw [h.log, h.dpll]
    · simp only [apply_ite p, h.count, ite_self]
    · exact fun _ => rfl

theorem refreshTe (s : State) : p (s.refreshTe d) = p s := by
  unfold State.refreshTe
  dsimp only
  rw [h.dpll]
  · simp only [apply_ite p, h.count, ite_self]
  · exact fun _ => rfl

theorem prepare (s : State) : p (s.prepare d) = p s :=
  h.dpll s _ fun _ => by (repeat' split) <;> rfl

theorem loadHold (s : State) : p (s.loadHold d) = p s := by
  unfold State.loadHold
  dsimp only
  split
  · rfl
  · rw [h.dpll, h.prepare, h.dpll] <;> exact fun _ => rfl

theorem toFreerun (s : State) : p (s.toFreerun d) = p s := by
  unfold State.toFreerun
  rw [h.loadHold, h.dpll, h.setDState]
  exact fun _ => rfl

theorem feedStop (s : State) : p (s.feedStop d) = p s := by
  unfold State.feedStop
  dsimp only
  split
  · exact h.dpll s _ fun _ => rfl
  · split
    · rw [h.dpll, h.dpll]
      · exact Dpll.unload_hostSet s.now
      · exact fun _ => rfl
    · exact h.dpll s _ (Dpll.unload_hostSet s.now)

theorem holdStart (s : State) : p (s.holdStart d) = p s := by
  unfold State.holdStart State.utcFollow
  rw [ite_keep p _ _ _ (h.utcUpdate _), h.feedStop]

theorem entryEdge (s : State) : p (s.entryEdge d) = p s := h.dpll s _ fun _ => rfl

theorem freerunHold (s : State) : p (s.freerunHold d) = p s := h.dpll s _ fun _ => rfl

theorem enterHold (s : State) (c : HoCause) : p (s.enterHold d c) = p s := by
  unfold State.enterHold
  dsimp only
  split
  · rfl
  · split
    · exact h.dpll s _ fun _ => rfl
    · rw [h.refreshTe, h.setDState, ite_keep p _ _ _ (h.freerunHold _), h.dpll, h.holdStart,
        ite_keep p _ _ _ (h.entryEdge s)]
      exact fun _ => rfl

/-- Where `p` reads no more than disabling leaves as well. -/
theorem disable (ho : ∀ (u : State) (c : Int), p (u.dpllMod d (Dpll.turnedOff c)) = p u) (s : State) :
    p (s.disable d) = p s := by
  unfold State.disable
  dsimp only
  rw [h.setDState]
  exact (ho _ _).trans (h.holdStart s)

end LoopKeeps

/-! ### The state that an entry leads to (R266, R269) -/

theorem State.prepare_dstate (s : State) (d : Fin 8) : ((s.prepare d).dpll d).dstate = (s.dpll d).dstate :=
  State.dpllMod_keep (·.dstate) (fun _ => by (repeat' split) <;> rfl) s d d

theorem State.loadHold_dstate (s : State) (d : Fin 8) : ((s.loadHold d).dpll d).dstate = (s.dpll d).dstate := by
  unfold State.loadHold
  dsimp only
  split
  · rfl
  · simp [State.prepare_dstate]

theorem State.toFreerun_dstate (s : State) (d : Fin 8) : ((s.toFreerun d).dpll d).dstate = .freerun := by
  unfold State.toFreerun
  rw [State.loadHold_dstate, State.dpll_dpllMod_same]
  exact State.setDState_dstate ..

theorem State.freerunHold_hoCause (s : State) (d : Fin 8) :
    ((s.freerunHold d).dpll d).hoCause = (s.dpll d).hoCause := by
  unfold State.freerunHold
  rw [State.dpll_dpllMod_same]

/-- An enabled DPLL that enters HOLDOVER shows the cause. -/
theorem State.enterHold_hoCause {s : State} {d : Fin 8} (c : HoCause) (h : (s.dpll d).dstate ≠ .disabled) :
    ((s.enterHold d c).dpll d).hoCause = c := by
  unfold State.enterHold
  dsimp only
  rw [if_neg h]
  split
  · rw [State.dpll_dpllMod_same]
  · rw [State.refreshTe_keep (·.hoCause) fun _ _ _ _ => rfl, State.setDState_keep (·.hoCause) fun _ _ _ _ => rfl,
      ite_keep (fun u => (u.dpll d).hoCause) _ _ _ (State.freerunHold_hoCause ..),
      State.dpll_dpllMod_same]

end Sys2Proof.Machine

/-!
SETTLING. The commands LOOP_CONFIG, LOOP_BW_SCHEDULE, LOOP_HOLDOVER_CONFIG and LOOP_FORCE_HOLDOVER (O35).
-/

namespace Sys2Proof.Machine

/-! ### LOOP_CONFIG (R290, R291) -/

/-- A DPLL with the settings of the arguments (R290). -/
def Dpll.tuned (a : Args) (y : Dpll) : Dpll :=
  { y with damping := af a 0 23 16, bw := dflt a 1 (af a 1 31 0) y.bw, lockThr := dflt a 2 (af a 2 31 0) y.lockThr,
           stepThr := dflt a 3 (af a 3 31 0) y.stepThr, pullLimit := dflt a 4 (af a 4 31 16) y.pullLimit,
           recSlew := dflt a 4 (af a 4 15 0) y.recSlew, lockTime := dflt a 5 (af a 5 15 0) y.lockTime }

/-- Enabling and disabling keep what neither writes: the settings stand as the arguments set them. -/
theorem LoopKeeps.applyLoopConfig {α : Type} {a : Args} {p : State → α} (h : LoopKeeps (argDpll a) p)
    (ho : ∀ (u : State) (c : Int), p (u.dpllMod (argDpll a) (Dpll.turnedOff c)) = p u) (s : State) :
    p (applyLoopConfig a s) = p (s.dpllMod (argDpll a) (Dpll.tuned a)) := by
  unfold Machine.applyLoopConfig
  dsimp only
  split
  · split
    · rw [h.dpll, h.toFreerun]
      · rfl
      · exact fun _ => rfl
    · exact h.dpll _ _ fun _ => rfl
  · split
    · rfl
    · split
      · exact h.disable ho _
      · exact h.dpll _ _ fun _ => rfl

theorem applyLoopConfig_tuning (a : Args) (s : State) :
    ((applyLoopConfig a s).dpll (argDpll a)).tuning = ((s.dpll (argDpll a)).tuned a).tuning := by
  rw [(tuning_keeps (argDpll a)).applyLoopConfig fun u c =>
      State.dpllMod_keep Dpll.tuning (f := Dpll.turnedOff c) (fun _ => rfl) u _ _,
    State.dpll_dpllMod_same]

theorem applyLoopConfig_dpll_ne {a : Args} {k : Fin 8} (hk : k ≠ argDpll a) (s : State) :
    (applyLoopConfig a s).dpll k = s.dpll k :=
  ((dpll_keeps_ne hk).applyLoopConfig (fun _ _ => State.dpll_dpllMod_ne hk) s).trans (State.dpll_dpllMod_ne hk)

theorem applyLoopConfig_enables {a : Args} (h : ab a 0 31 = true) (s : State) :
    ((applyLoopConfig a s).dpll (argDpll a)).enable = true ∧
    ((applyLoopConfig a s).dpll (argDpll a)).dstate ≠ .disabled := by
  unfold applyLoopConfig
  dsimp only
  rw [if_pos h]
  split
  next =>
    rw [State.dpll_dpllMod_same]
    exact ⟨rfl, by simp [State.toFreerun_dstate]⟩
  next hd =>
    rw [State.dpll_dpllMod_same]
    exact ⟨rfl, hd⟩

section
variable {s : State} {t : Nat} {i : Fin 48}

theorem exec_loopConfig (h : (s.advance t).ready i .loopConfig false = true) :
    ∃ w, exec (.loopConfig t i) s = done ((applyLoopConfig (s.tag i).args (s.advance t)).holdOk i [w]) := by
  rw [← State.advance_tag t s]
  exact ⟨_, runCmd_answers (ch := fun _ => loopConfigChecks ((s.advance t).stagedTag i)) (body := loopConfigBody)
    (readyTurn_of_ready h rfl) rfl⟩

/-! ### LOOP_BW_SCHEDULE (R265, R292) -/

/-- The schedule of the arguments (R292). -/
def scheduleArg (a : Args) : List (Nat × Nat) :=
  (List.range (af a 0 27 24)).map fun k => (af a (1 + 2 * k) 31 0, af a (2 + 2 * k) 15 0)

theorem applyLoopBw_steps (a : Args) (s : State) :
    ((applyLoopBw a s).dpll (argDpll a)).steps = scheduleArg a ∧
    ((applyLoopBw a s).dpll (argDpll a)).restartAfter = af a 0 23 8 := by
  unfold applyLoopBw
  dsimp only
  rw [State.dpll_dpllMod_same]
  exact ⟨rfl, rfl⟩

theorem applyLoopBw_dpll_ne {a : Args} {k : Fin 8} (hk : k ≠ argDpll a) (s : State) :
    (applyLoopBw a s).dpll k = s.dpll k := State.dpll_dpllMod_ne hk

theorem exec_loopBwSchedule (h : (s.advance t).ready i .loopBwSchedule false = true) :
    ∃ w, exec (.loopBwSchedule t i) s = done ((applyLoopBw (s.tag i).args (s.advance t)).holdOk i [w]) := by
  rw [← State.advance_tag t s]
  exact ⟨_, runCmd_answers (ch := loopBwChecks) (body := loopBwBody) (readyTurn_of_ready h rfl) rfl⟩

/-! ### LOOP_HOLDOVER_CONFIG (R277, R293) -/

/-- The fields that LOOP_HOLDOVER_CONFIG sets (R293). -/
def Dpll.holdSettings (y : Dpll) : Bool × Bool × Nat × Nat × Nat :=
  (y.driftEn, y.tempEn, y.window, y.guard, y.budget)

theorem applyLoopHoldover_sets (a : Args) (s : State) :
    ((applyLoopHoldover a s).dpll (argDpll a)).holdSettings =
      (ab a 0 31, ab a 0 30, dflt a 1 (af a 1 31 0) (s.dpll (argDpll a)).window,
       dflt a 2 (af a 2 31 0) (s.dpll (argDpll a)).guard, dflt a 3 (af a 3 31 0) (s.dpll (argDpll a)).budget) := by
  unfold applyLoopHoldover
  dsimp only
  rw [State.refreshTe_keep Dpll.holdSettings fun _ _ _ _ => rfl, State.dpll_dpllMod_same]
  rfl

theorem applyLoopHoldover_dpll_ne {a : Args} {k : Fin 8} (hk : k ≠ argDpll a) (s : State) :
    (applyLoopHoldover a s).dpll k = s.dpll k :=
  ((dpll_keeps_ne hk).refreshTe _).trans (State.dpll_dpllMod_ne hk)

theorem exec_loopHoldoverConfig (h : (s.advance t).ready i .loopHoldoverConfig false = true) :
    ∃ w, exec (.loopHoldoverConfig t i) s = done ((applyLoopHoldover (s.tag i).args (s.advance t)).holdOk i [w]) := by
  rw [← State.advance_tag t s]
  exact ⟨_, runCmd_answers (ch := loopHoldoverChecks) (body := loopHoldoverBody) (readyTurn_of_ready h rfl) rfl⟩

/-! ### LOOP_FORCE_HOLDOVER (R288, R294) -/

/-- A DPLL whose holdover the host forces (R294). -/
def Dpll.hostForced (y : Dpll) : Dpll := { y with forced := true }

/-- The host forces the holdover of DPLL `d` (R288, R294). -/
def State.forceHold (d : Fin 8) (s : State) : State := (s.dpllMod d Dpll.hostForced).enterHold d .forced

/-- A DPLL that the host releases: its selection is judged again, and the cause FORCED gives way (R288, R294). -/
def Dpll.released (y : Dpll) : Dpll :=
  { y with forced := false, hoCause := if y.hoCause = .forced then .noRef else y.hoCause, evalDue := true }

/-- A command that passes its checks finds its DPLL enabled (R294). -/
theorem enabled_of_ready_loopForce {u : State} (h : u.ready i .loopForceHoldover false = true) :
    (u.dpll (argDpll (u.tag i).args)).dstate ≠ .disabled := by
  obtain ⟨-, -, hf⟩ := State.ready_iff.1 h
  have hc : (cond (decide ((u.dpll (argDpll (u.tag i).args)).dstate = .disabled)) (wrongState 0x0002)).1 = false :=
    firstFail_eq_none.1 hf _ (List.mem_cons_self ..)
  exact of_decide_eq_false hc

theorem loopForceBody_forces {a : Args} {s : State} (hb : ab a 0 31 = true)
    (hf : (s.dpll (argDpll a)).forced = false) :
    ∃ w, loopForceBody i a s = (s.forceHold (argDpll a), .ok [w]) := by
  unfold loopForceBody
  dsimp only
  rw [if_pos hb, if_neg (ne_true_of_eq_false hf)]
  exact ⟨_, rfl⟩

theorem loopForceBody_releases {a : Args} {s : State} (hb : ab a 0 31 = false)
    (hf : (s.dpll (argDpll a)).forced = true) :
    ∃ w, loopForceBody i a s = (s.dpllMod (argDpll a) Dpll.released, .ok [w]) := by
  unfold loopForceBody
  dsimp only
  rw [if_neg (ne_true_of_eq_false hb), if_pos hf]
  exact ⟨_, rfl⟩

theorem exec_loopForceHoldover {a : Args} {v : State} (h : (s.advance t).ready i .loopForceHoldover false = true)
    (ha : (s.tag i).args = a) (hb : ∃ w, loopForceBody i a (s.advance t) = (v, .ok [w])) :
    ∃ w, exec (.loopForceHoldover t i) s = done (v.holdOk i [w]) := by
  obtain ⟨w, hw⟩ := hb
  rw [← ha, ← State.advance_tag t s] at hw
  exact ⟨w, runCmd_answers (ch := loopForceChecks) (readyTurn_of_ready h rfl) hw⟩

/-- An enabled DPLL that is forced holds over with cause FORCED (R294). -/
theorem State.forceHold_dpll {s : State} {d : Fin 8} (h : (s.dpll d).dstate ≠ .disabled) :
    ((s.forceHold d).dpll d).forced = true ∧ ((s.forceHold d).dpll d).dstate = .holdover ∧
    ((s.forceHold d).dpll d).hoCause = .forced := by
  have hx := s.dpll_dpllMod_same d Dpll.hostForced
  have he : ((s.dpllMod d Dpll.hostForced).dpll d).dstate ≠ .disabled := by rwa [hx]
  obtain ⟨hh, -⟩ := State.enterHold_holds .forced he
  have hf := congrArg Prod.snd ((hostSet_keeps d).enterHold (s.dpllMod d Dpll.hostForced) .forced)
  rw [hx] at hf
  exact ⟨hf, hh, State.enterHold_hoCause .forced he⟩

theorem State.forceHold_dpll_ne {s : State} {d k : Fin 8} (hk : k ≠ d) : (s.forceHold d).dpll k = s.dpll k :=
  ((dpll_keeps_ne hk).enterHold _ _).trans (State.dpll_dpllMod_ne hk)

end

/-- Settles O35: what each command writes of its DPLL, and what the other DPLLs and the end of the step keep. -/
theorem loopCommandsAct : Obligations.LoopCommandsAct := by
  refine ⟨fun s t i h => ?_, fun s t i h => ?_, fun s t i h => ?_, fun s t i h hb hf => ?_, fun s t i h hb hf => ?_⟩
  · obtain ⟨w, he⟩ := exec_loopConfig h
    have hx := applyLoopConfig_tuning (s.tag i).args (s.advance t)
    simp only [Dpll.tuning, Dpll.tuned, List.cons.injEq, and_true, State.advance_dpll_bw,
      State.advance_dpll_lockThr, State.advance_dpll_stepThr, State.advance_dpll_pullLimit, State.advance_dpll_recSlew,
      State.advance_dpll_lockTime] at hx
    obtain ⟨hdamp, hbw, hlock, hstep, hpull, hrec, htime⟩ := hx
    rw [he, completes_done]
    refine ⟨by simpa, by simpa, by simpa, by simpa, by simpa, by simpa, by simpa, fun hb => ?_, fun k hk => ?_, _,
      holdOk_heldOk .., rfl⟩
    · simpa using applyLoopConfig_enables hb (s.advance t)
    · simp [applyLoopConfig_dpll_ne hk]
  · obtain ⟨w, he⟩ := exec_loopBwSchedule h
    obtain ⟨hs, hr⟩ := applyLoopBw_steps (s.tag i).args (s.advance t)
    rw [he, completes_done]
    refine ⟨by simp [hs, scheduleArg], fun k hk => by simp [hs, scheduleArg, hk], by simpa, fun k hk => ?_, _,
      holdOk_heldOk .., rfl⟩
    simp [applyLoopBw_dpll_ne hk]
  · obtain ⟨w, he⟩ := exec_loopHoldoverConfig h
    have hx := applyLoopHoldover_sets (s.tag i).args (s.advance t)
    simp only [Dpll.holdSettings, Prod.mk.injEq, State.advance_dpll_window, State.advance_dpll_guard,
      State.advance_dpll_budget] at hx
    obtain ⟨hdrift, htemp, hwin, hguard, hbudget⟩ := hx
    rw [he, completes_done]
    refine ⟨by simpa, by simpa, by simpa, by simpa, by simpa, fun k hk => ?_, _, holdOk_heldOk .., rfl⟩
    simp [applyLoopHoldover_dpll_ne hk]
  · obtain ⟨w, he⟩ := exec_loopForceHoldover h rfl (loopForceBody_forces hb (by simpa using hf))
    have hd := enabled_of_ready_loopForce h
    rw [State.advance_tag] at hd
    obtain ⟨hforced, hhold, hcause⟩ := State.forceHold_dpll hd
    rw [he, completes_done]
    refine ⟨by simpa, by simpa, by simpa, fun k hk => ?_, _, holdOk_heldOk .., rfl⟩
    simp [State.forceHold_dpll_ne hk]
  · obtain ⟨w, he⟩ := exec_loopForceHoldover h rfl (loopForceBody_releases hb (by simpa using hf))
    rw [he, completes_done]
    simp [Dpll.released]

end Sys2Proof.Machine

/-!
SUPPORT. The Carillon: reading one domain or one output after an update, what the shared operations on a domain and its
outputs keep, and what the end of a step keeps of a PULSE output (R302 to R326).
-/

namespace Sys2Proof.Machine

/-! ### Reading a domain or an output -/

theorem State.dom_of_doms {s u : State} (h : u.out.doms = s.out.doms) (d : Fin 8) : u.dom d = s.dom d :=
  congrArg (vget · d) h

theorem State.ck_of_cks {s u : State} (h : u.out.ck = s.out.ck) (n : Fin 24) : u.ck n = s.ck n := congrArg (vget · n) h

theorem State.pl_of_out {s u : State} (h : u.out = s.out) (n : Fin 16) : u.pl n = s.pl n :=
  congrArg (fun o : Out => vget o.pl n) h

section
variable (s : State) (t : Nat)

@[simp] theorem State.advance_dom (d : Fin 8) : (s.advance t).dom d = s.dom d := by simp [State.dom]
@[simp] theorem State.advance_ck (n : Fin 24) : (s.advance t).ck n = s.ck n := by simp [State.ck]
@[simp] theorem State.advance_pl (n : Fin 16) : (s.advance t).pl n = s.pl n := by simp [State.pl]
@[simp] theorem State.commit_dom (d : Fin 8) : s.commit.dom d = s.dom d := by simp [State.dom]
@[simp] theorem State.commit_ck (n : Fin 24) : s.commit.ck n = s.ck n := by simp [State.ck]
@[simp] theorem State.holdOk_dom (i : Fin 48) (l : List Word) (d : Fin 8) : (s.holdOk i l).dom d = s.dom d := rfl
@[simp] theorem State.holdOk_ck (i : Fin 48) (l : List Word) (n : Fin 24) : (s.holdOk i l).ck n = s.ck n := rfl
@[simp] theorem State.holdOk_pl (i : Fin 48) (l : List Word) (n : Fin 16) : (s.holdOk i l).pl n = s.pl n := rfl

@[simp] theorem State.dom_domMod_same (d : Fin 8) (f : Domain → Domain) : (s.domMod d f).dom d = f (s.dom d) :=
  vget_vmod_same s.out.doms d f
@[simp] theorem State.ck_ckMod_same (n : Fin 24) (f : Ckout → Ckout) : (s.ckMod n f).ck n = f (s.ck n) :=
  vget_vmod_same s.out.ck n f
@[simp] theorem State.pl_plMod_same (n : Fin 16) (f : Pulse → Pulse) : (s.plMod n f).pl n = f (s.pl n) :=
  vget_vmod_same s.out.pl n f

@[simp] theorem State.ckMod_doms (n : Fin 24) (f : Ckout → Ckout) : (s.ckMod n f).out.doms = s.out.doms := rfl
@[simp] theorem State.plMod_doms (n : Fin 16) (f : Pulse → Pulse) : (s.plMod n f).out.doms = s.out.doms := rfl
@[simp] theorem State.ckMod_dom (n : Fin 24) (f : Ckout → Ckout) (d : Fin 8) : (s.ckMod n f).dom d = s.dom d := rfl

end

section
variable {s : State}

theorem State.dom_domMod_ne {d k : Fin 8} {f : Domain → Domain} (h : k ≠ d) : (s.domMod d f).dom k = s.dom k :=
  vget_vmod_ne s.out.doms d k f h.symm

theorem State.ck_ckMod_ne {n k : Fin 24} {f : Ckout → Ckout} (h : k ≠ n) : (s.ckMod n f).ck k = s.ck k :=
  vget_vmod_ne s.out.ck n k f h.symm

/-- What the update keeps of its domain it keeps of every domain. -/
theorem State.domMod_keep {α : Type} (q : Domain → α) {f : Domain → Domain} (hf : ∀ y, q (f y) = q y) (d k : Fin 8) :
    q ((s.domMod d f).dom k) = q (s.dom k) := by
  by_cases h : k = d
  · rw [h, State.dom_domMod_same, hf]
  · rw [State.dom_domMod_ne h]

end

/-! ### What the commands set of a PULSE output, and what moves it (R317, R322, R334, R336) -/

/-- The fields that OUT_PULSE_CONFIG and OUT_SLEW set and nothing else writes, so far as the statements speak of
them. -/
def Pulse.settings (p : Pulse) : Bool × Bool × Fin 8 × Int × Bool × Nat :=
  (p.enable, p.half, p.domain, p.delay, p.auto, p.slewRate)

@[simp] theorem State.plJudge_settings (s : State) (p : Pulse) : (s.plJudge p).settings = p.settings := by
  unfold State.plJudge
  split <;> rfl

/-- A PULSE output whose slew has been stopped where it stands (R323). -/
def Pulse.stopped (p : Pulse) : Pulse := { p with slewing := false, slewReq := false }

/-- A change of module state at most stops an output's slew (R323). -/
theorem State.toState_pl (s : State) (m : ModState) (n : Fin 16) :
    (s.toState m).pl n = s.pl n ∨ (s.toState m).pl n = (s.pl n).stopped := by
  unfold State.toState
  dsimp only
  split
  · exact .inl rfl
  · rw [State.pl_of_out ((State.chime_out _ _).trans (State.log_out _ _ _ _ _)),
      State.pl_of_out (State.countPended_out _ _)]
    split <;> split
    · exact .inl rfl
    · exact .inl rfl
    · exact .inr (vget_vmap _ _ _)
    · exact .inr (vget_vmap _ _ _)

/-- The end of a step at most stops an output's slew (R323). -/
theorem State.commit_pl (s : State) (n : Fin 16) :
    s.commit.pl n = s.pl n ∨ s.commit.pl n = (s.pl n).stopped := by
  have hs (u : State) : u.settle1.pl n = u.pl n ∨ u.settle1.pl n = (u.pl n).stopped := u.toState_pl _ n
  rw [State.commit, State.pl_of_out ((State.latch_out _).trans (State.trace_out _)), State.settle]
  obtain h1 | h1 := hs s <;> obtain h2 | h2 := hs s.settle1 <;> obtain h3 | h3 := hs s.settle1.settle1 <;>
    rw [h3, h2, h1]
  · exact .inl rfl
  all_goals exact .inr rfl

theorem State.commit_pl_keep {α : Type} (q : Pulse → α) (hq : ∀ p, q p.stopped = q p) (s : State) (n : Fin 16) :
    q (s.commit.pl n) = q (s.pl n) := by
  obtain h | h := s.commit_pl n <;> rw [h]
  exact hq _

@[simp] theorem State.commit_pl_settings (s : State) (n : Fin 16) : (s.commit.pl n).settings = (s.pl n).settings :=
  State.commit_pl_keep Pulse.settings (fun _ => rfl) s n

/-! ### The arm (R324) -/

/-- The SYNC_IN arm and SYNC_EXPIRED. -/
def State.armed (s : State) : Option SyncArm × Bool := (s.out.arm, s.out.syncExpired)

@[simp] theorem State.commit_armed (s : State) : s.commit.armed = s.armed :=
  commit_keep State.armed (fun _ _ _ => rfl) (fun _ _ => rfl) (fun _ => rfl) (fun _ _ _ => rfl) (fun _ _ _ => rfl)
    (fun _ _ => rfl) (fun _ _ => rfl) (fun _ _ => rfl) (fun _ => rfl) s

theorem State.armed_parts {s u : State} (h : u.armed = s.armed) :
    u.out.arm = s.out.arm ∧ u.out.syncExpired = s.out.syncExpired := by
  simpa only [State.armed, Prod.mk.injEq] using h

/-! ### A ramp's phase taken by the outputs, and a ramp that stops (R307, R310) -/

/-- Taking a ramp's phase writes of the domain how much is taken, and of PULSE outputs none of their settings. -/
theorem State.foldRamp_keep {α : Type} (p : State → α) (d : Fin 8)
    (hp : ∀ (u : State) (f : Pulse → Pulse), (∀ x, (f x).settings = x.settings) →
      p (u.onOut fun o => { o with pl := vmap o.pl f }) = p u)
    (hd : ∀ (u : State) (v : Int), p (u.domMod d fun y => { y with rampFold := v }) = p u) (s : State) :
    p (s.foldRamp d) = p s := by
  unfold State.foldRamp
  dsimp only
  split
  · rfl
  · rw [hd]
    refine hp s _ fun x => ?_
    split
    · exact s.plJudge_settings _
    · rfl

theorem State.foldRamp_dom {α : Type} (q : Domain → α) (hq : ∀ y v, q { y with rampFold := v } = q y) (s : State)
    (d k : Fin 8) : q ((s.foldRamp d).dom k) = q (s.dom k) :=
  State.foldRamp_keep (fun u => q (u.dom k)) d (fun _ _ _ => rfl)
    (fun _ v => State.domMod_keep q (fun y => hq y v) d k) s

theorem State.foldRamp_dom_ne {s : State} {d k : Fin 8} (h : k ≠ d) : (s.foldRamp d).dom k = s.dom k :=
  State.foldRamp_keep (State.dom · k) d (fun _ _ _ => rfl) (fun _ _ => State.dom_domMod_ne h) s

@[simp] theorem State.foldRamp_cks (s : State) (d : Fin 8) : (s.foldRamp d).out.ck = s.out.ck :=
  State.foldRamp_keep (·.out.ck) d (fun _ _ _ => rfl) (fun _ _ => rfl) s

@[simp] theorem State.foldRamp_armed (s : State) (d : Fin 8) : (s.foldRamp d).armed = s.armed :=
  State.foldRamp_keep State.armed d (fun _ _ _ => rfl) (fun _ _ => rfl) s

@[simp] theorem State.foldRamp_settings (s : State) (d : Fin 8) (n : Fin 16) :
    ((s.foldRamp d).pl n).settings = (s.pl n).settings :=
  State.foldRamp_keep (fun u => (u.pl n).settings) d
    (fun _ _ hf => (congrArg Pulse.settings (vget_vmap _ _ _)).trans (hf _)) (fun _ _ => rfl) s

/-- A domain without a ramp, its phase made so far `w` (R310). -/
def Domain.rampOff (y : Domain) (w : Int) : Domain :=
  { y with rampPhase := w, ramp := .idle, rampR := 0, rampSeg := 0, rampRuns := 0 }

theorem State.rampIdle_eq (s : State) (d : Fin 8) :
    s.rampIdle d = (s.foldRamp d).domMod d fun y => y.rampOff (y.rampSum (s.foldRamp d).now) := rfl

/-- What stopping a ramp leaves of a domain (R310). -/
theorem State.rampIdle_dom {α : Type} (q : Domain → α) (hf : ∀ y v, q { y with rampFold := v } = q y)
    (hr : ∀ y w, q (y.rampOff w) = q y) (s : State) (d k : Fin 8) : q ((s.rampIdle d).dom k) = q (s.dom k) := by
  rw [State.rampIdle_eq, State.domMod_keep q fun y => hr y _, s.foldRamp_dom q hf]

theorem State.rampIdle_dom_ne {s : State} {d k : Fin 8} (h : k ≠ d) : (s.rampIdle d).dom k = s.dom k :=
  (State.dom_domMod_ne h).trans (State.foldRamp_dom_ne h)

theorem State.rampIdle_idle (s : State) (d : Fin 8) :
    ((s.rampIdle d).dom d).ramp = .idle ∧ ((s.rampIdle d).dom d).rampR = 0 := by
  rw [State.rampIdle_eq, State.dom_domMod_same]
  exact ⟨rfl, rfl⟩

/-! ### A domain starts, stops, powers up and down (R302, R306, R310) -/

theorem State.armLapse_doms (s : State) (d : Fin 8) : (s.armLapse d).out.doms = s.out.doms := by
  unfold State.armLapse
  split
  · rfl
  · exact ite_keep (fun u : State => u.out.doms) _ _ s rfl

/-- A domain out of lock, its outputs stopped (R306). -/
def Domain.stopped (y : Domain) : Domain := { y with running := false, locked := false, retuning := false }

theorem State.domStop_doms (s : State) (d : Fin 8) :
    (s.domStop d).out.doms = (s.domMod d Domain.stopped).out.doms :=
  congrArg (vmod · d Domain.stopped) (State.armLapse_doms (s.count _) d)

theorem State.domStop_dom_same (s : State) (d : Fin 8) : (s.domStop d).dom d = (s.dom d).stopped := by
  rw [State.dom_of_doms (s.domStop_doms d), State.dom_domMod_same]

theorem State.domStop_dom_ne {s : State} {d k : Fin 8} (h : k ≠ d) : (s.domStop d).dom k = s.dom k := by
  rw [State.dom_of_doms (s.domStop_doms d), State.dom_domMod_ne h]

/-- A domain in lock, its outputs running (R306). -/
def Domain.started (y : Domain) : Domain :=
  { y with running := true, locked := true, filling := false, retuning := false }

theorem State.domStart_doms (s : State) (d : Fin 8) :
    (s.domStart d).out.doms = ((s.foldRamp d).domMod d Domain.started).out.doms := rfl

/-- A start leaves of its domain all but the flags it sets, and the ramp's phase that its outputs have taken. -/
theorem State.domStart_dom_same {α : Type} (q : Domain → α) (hq : ∀ y v, q { y with rampFold := v } = q y) (s : State)
    (d : Fin 8) : q ((s.domStart d).dom d) = q (s.dom d).started := by
  rw [State.dom_of_doms (s.domStart_doms d), State.dom_domMod_same]
  exact s.foldRamp_dom (fun y => q y.started) (fun y v => hq y.started v) d d

theorem State.domStart_dom_ne {s : State} {d k : Fin 8} (h : k ≠ d) : (s.domStart d).dom k = s.dom k := by
  rw [State.dom_of_doms (s.domStart_doms d), State.dom_domMod_ne h, State.foldRamp_dom_ne h]

/-- A domain's lock: out of a fill or a retune, its PLL locked and its outputs running. -/
def Domain.lock (y : Domain) : Bool × Bool × Bool × Bool := (y.locked, y.running, y.filling, y.retuning)

theorem State.domStart_lock (s : State) (d : Fin 8) : ((s.domStart d).dom d).lock = (true, true, false, false) :=
  s.domStart_dom_same Domain.lock (fun _ _ => rfl) d

/-- Power and rate of a domain. -/
def Domain.power (y : Domain) : Bool × Nat × Nat := (y.enable, y.num, y.den)

theorem State.domUp_power (s : State) (d : Fin 8) :
    ((s.domUp d).dom d).power = (true, (s.dom d).num, (s.dom d).den) := by
  unfold State.domUp
  rw [State.dom_domMod_same, State.domStop_dom_same]
  rfl

theorem State.domUp_dom_ne {s : State} {d k : Fin 8} (h : k ≠ d) : (s.domUp d).dom k = s.dom k :=
  (State.dom_domMod_ne h).trans (State.domStop_dom_ne h)

/-- A domain that is powered down (R302). -/
def Domain.poweredDown (y : Domain) : Domain :=
  { y with enable := false, running := false, locked := false, filling := false, retuning := false, noBand := false,
           lowMargin := false }

theorem State.domDown_doms (s : State) (d : Fin 8) :
    (s.domDown d).out.doms = ((s.rampIdle d).domMod d Domain.poweredDown).out.doms := rfl

theorem State.domDown_power (s : State) (d : Fin 8) :
    ((s.domDown d).dom d).power = (false, (s.dom d).num, (s.dom d).den) := by
  rw [State.dom_of_doms (s.domDown_doms d), State.dom_domMod_same]
  exact s.rampIdle_dom (fun y => y.poweredDown.power) (fun _ _ => rfl) (fun _ _ => rfl) d d

theorem State.domDown_dom_ne {s : State} {d k : Fin 8} (h : k ≠ d) : (s.domDown d).dom k = s.dom k := by
  rw [State.dom_of_doms (s.domDown_doms d), State.dom_domMod_ne h, State.rampIdle_dom_ne h]

/-! ### A CKOUT output starts, and is gated (R312, R313, R412) -/

/-- The fields that OUT_CONFIG sets and nothing else writes, so far as the statements speak of them (R333). -/
def Ckout.settings (k : Ckout) : Bool × Nat × Fin 8 × Nat × Nat := (k.enable, k.format, k.domain, k.div, k.phaseAdj)

theorem State.ckStart_settings (s : State) (n : Fin 24) : ((s.ckStart n).ck n).settings = (s.ck n).settings := by
  unfold State.ckStart
  dsimp only
  split
  · rw [State.ck_ckMod_same]
    rfl
  · rw [State.ck_ckMod_same]
    split <;> rfl

theorem State.ckStart_ck_ne {s : State} {n k : Fin 24} (h : k ≠ n) : (s.ckStart n).ck k = s.ck k := by
  unfold State.ckStart
  dsimp only
  split <;> exact State.ck_ckMod_ne h

@[simp] theorem State.ckStart_doms (s : State) (n : Fin 24) : (s.ckStart n).out.doms = s.out.doms := by
  unfold State.ckStart
  dsimp only
  split <;> rfl

/-- Outside a strobe a start takes effect at once: the output is aligned where it is enabled and its domain runs. -/
theorem State.ckStart_aligned {s : State} {n : Fin 24} (h : s.mb.applying = false) :
    ((s.ckStart n).ck n).aligned = ((s.ck n).enable && (s.dom (s.ck n).domain).running) ∧
    ((s.ckStart n).ck n).holdFrom = none := by
  unfold State.ckStart
  dsimp only
  rw [if_neg (ne_true_of_eq_false h), State.ck_ckMod_same]
  split
  next hr => exact ⟨hr.symm, rfl⟩
  next hr => exact ⟨(eq_false_of_ne_true hr).symm, rfl⟩

@[simp] theorem outGate_doms (s : State) : (outGate s).out.doms = s.out.doms := rfl

theorem outGate_ck_settings (s : State) (n : Fin 24) : ((outGate s).ck n).settings = (s.ck n).settings :=
  (congrArg Ckout.settings (vget_vmap s.out.ck _ n)).trans rfl

theorem outGate_pl_settings (s : State) (n : Fin 16) : ((outGate s).pl n).settings = (s.pl n).settings :=
  (congrArg Pulse.settings (vget_vmap s.out.pl _ n)).trans rfl

/-! ### Reports that are recorded and no more (R457, R458) -/

/-- `p` reads none of what the recording of a report writes: the collector, the host interface and, with a record of
the NVS, what the time properties write too. -/
structure RecordKeeps {α : Type} (p : State → α) : Prop extends UtcKeeps p where
  hif : ∀ (s : State) (f : Hif → Hif), p (s.onHif f) = p s
  flt : ∀ (s : State) (f : Flt → Flt), p (s.onFlt f) = p s

theorem out_recordKeeps : RecordKeeps State.out where
  toUtcKeeps := out_keeps
  hif _ _ := rfl
  flt _ _ := rfl

namespace RecordKeeps
variable {α : Type} {p : State → α} (h : RecordKeeps p)
include h

theorem anyChime (s : State) (b : Nat) : p (s.chime b) = p s := h.hif s _

theorem cntCls (s : State) (c : Cls) : p (s.cntCls c) = p s := by
  cases c
  case none => rfl
  all_goals
    unfold State.cntCls
    dsimp only
    rw [h.hif, h.flt]

theorem noted (s : State) (k : Taken) : p (s.noted k) = p s := by
  have he (u : State) (b : Nat) : p (u.hifErr b) = p u := h.hif u _
  have hn (u : State) : p (u.nvsClear k false) = p u := by
    simp only [State.nvsClear, State.hwClear, apply_ite p, h.anyChime, he, h.hif, ite_self]
  exact (hn _).trans (h.cntCls s _)

theorem putRec (s : State) (k : Taken) (t l : Bool) (n : Nat) (g : Bool) : p (s.putRec k t l n g) = p s := by
  have hr (f : Flt → Flt) : p ((if g && !s.flt.nvsTaken then s.fwWrite 0x0030 else s).onFlt f) = p s :=
    (h.flt _ f).trans (ite_keep p _ _ s (h.fwWrite s _))
  have hc (u : State) (c : Cls) (hu : p u = p s) :
      p ((match c with
        | .corrected => fun s : State => s.chime 2
        | .contained => fun s => s.chime 3
        | _ => fun s => s) u) = p s := by
    cases c
    case corrected | contained => exact (h.anyChime u _).trans hu
    all_goals exact hu
  unfold State.putRec State.putRec.fresh
  dsimp only
  split
  · split
    · exact hc _ _ (hr _)
    · exact hc _ _ (hr _)
  · exact hc _ _ (hr _)

/-- A contained report with the default reaction, of a code that resets nothing, is at most recorded. -/
theorem take_default (s : State) {k : Taken} (ht : k.r.transient = false) (hi : k.injected = false)
    (hc : k.r.cls = .contained) (hr : s.flt.react = []) (hd : codeResets k.r.code = false) : p (s.take k) = p s := by
  have hn : (s.noted k).reactionOf k false = 3 := reactionOf_default _ hi hc ((noted_react s k).trans hr) hd
  generalize hu : s.take k = u
  have hk : Took s k u := hu ▸ take_took s k ht
  cases hk with
  | dropped => rfl
  | masked => rw [h.count, h.cntCls]
  | recorded => rw [h.putRec, h.noted]
  | fatal h' | gong h' | escalated _ _ h' | reset _ _ h' => cases hn.symm.trans h'

end RecordKeeps

end Sys2Proof.Machine

/-!
SETTLING. The commands SYN_CONFIG, SYN_RAMP_LOAD and SYN_RAMP_RUN (O36).
-/

namespace Sys2Proof.Machine

/-! ### SYN_CONFIG (R302, R303, R328) -/

/-- Domain `d` is powered up or down as `on` says. -/
def State.setPower (s : State) (d : Fin 8) (on : Bool) : State :=
  if on && !(s.dom d).enable then s.domUp d else if !on && (s.dom d).enable then s.domDown d else s

theorem State.setPower_power (s : State) (d : Fin 8) (on : Bool) :
    ((s.setPower d on).dom d).power = (on, (s.dom d).num, (s.dom d).den) := by
  unfold State.setPower
  split
  next h =>
    obtain ⟨rfl, -⟩ := Bool.and_eq_true_iff.1 h
    exact s.domUp_power d
  next hu =>
    split
    next h =>
      obtain ⟨hon, -⟩ := Bool.and_eq_true_iff.1 h
      rw [s.domDown_power, (Bool.not_eq_true' _).mp hon]
    next hd =>
      have he : (s.dom d).enable = on := by
        cases on
        · simpa using hd
        · simpa using hu
      rw [Domain.power, he]

theorem State.setPower_dom_ne {s : State} {d k : Fin 8} {on : Bool} (h : k ≠ d) :
    (s.setPower d on).dom k = s.dom k := by
  unfold State.setPower
  split
  · exact State.domUp_dom_ne h
  · exact ite_keep (State.dom · k) _ _ s (State.domDown_dom_ne h)

/-- A SYN_CONFIG that keeps the rate, with a band for it, only powers its domain up or down (R303, R328). -/
theorem applySynConfig_same_rate {a : Args} {s : State}
    (hr : fdArg a (s.dom (argDom a)) = ((s.dom (argDom a)).num, (s.dom (argDom a)).den))
    (hb : (s.dom (argDom a)).noBandFor (s.dom (argDom a)).num (s.dom (argDom a)).den = false) :
    applySynConfig a s =
      (s.domMod (argDom a) fun y => { y with num := (s.dom (argDom a)).num, den := (s.dom (argDom a)).den }).setPower
        (argDom a) (ab a 0 31 || decide ((argDom a).val = 0)) := by
  unfold applySynConfig State.setPower
  dsimp only
  rw [hr]
  dsimp only
  rw [hb, if_neg Bool.false_ne_true, if_pos (Nat.mul_comm _ _), State.dom_domMod_same]

section
variable {s : State} {t : Nat} {i : Fin 48}

theorem exec_synConfig (h : (s.advance t).ready i .synConfig false = true) :
    ∃ w, w.length = 3 ∧
      exec (.synConfig t i) s = done ((applySynConfig (s.tag i).args (s.advance t)).holdOk i w) := by
  rw [← State.advance_tag t s]
  exact ⟨_, rfl, runCmd_answers (ch := synConfigChecks) (body := synConfigBody) (readyTurn_of_ready h rfl) rfl⟩

theorem synConfig_powers (h : (s.advance t).ready i .synConfig false = true)
    (hr : fdArg (s.tag i).args (s.dom (argDom (s.tag i).args)) =
      ((s.dom (argDom (s.tag i).args)).num, (s.dom (argDom (s.tag i).args)).den))
    (hb : (s.dom (argDom (s.tag i).args)).noBandFor (s.dom (argDom (s.tag i).args)).num
      (s.dom (argDom (s.tag i).args)).den = false) :
    Completes (exec (.synConfig t i) s) fun u =>
      (u.dom (argDom (s.tag i).args)).enable = (ab (s.tag i).args 0 31 || decide ((argDom (s.tag i).args).val = 0)) ∧
      (u.dom (argDom (s.tag i).args)).num = (s.dom (argDom (s.tag i).args)).num ∧
      (u.dom (argDom (s.tag i).args)).den = (s.dom (argDom (s.tag i).args)).den ∧
      (∀ d, d ≠ argDom (s.tag i).args → u.dom d = s.dom d) ∧ ∃ d, u.heldOk i d ∧ d.length = 3 := by
  obtain ⟨w, hw, he⟩ := exec_synConfig h
  rw [he, applySynConfig_same_rate (by simpa using hr) (by simpa using hb), completes_done]
  have hp := State.setPower_power ((s.advance t).domMod (argDom (s.tag i).args) fun y =>
      { y with num := ((s.advance t).dom (argDom (s.tag i).args)).num,
               den := ((s.advance t).dom (argDom (s.tag i).args)).den })
    (argDom (s.tag i).args) (ab (s.tag i).args 0 31 || decide ((argDom (s.tag i).args).val = 0))
  simp only [Domain.power, Prod.mk.injEq, State.dom_domMod_same, State.advance_dom] at hp
  obtain ⟨hon, hnum, hden⟩ := hp
  refine ⟨by simpa using hon, by simpa using hnum, by simpa using hden, fun k hk => ?_, w, holdOk_heldOk .., hw⟩
  simp [State.setPower_dom_ne hk, State.dom_domMod_ne hk]

/-! ### SYN_RAMP_LOAD (R309, R329) -/

theorem exec_synRampLoad (h : (s.advance t).ready i .synRampLoad false = true) :
    ∃ w, exec (.synRampLoad t i) s = done ((applyRampLoad (s.tag i).args (s.advance t)).holdOk i [w]) := by
  rw [← State.advance_tag t s]
  exact ⟨_, runCmd_answers (ch := synRampLoadChecks) (body := synRampLoadBody) (readyTurn_of_ready h rfl) rfl⟩

theorem applyRampLoad_seg (a : Args) (s : State) (k : Fin 32) :
    vget ((applyRampLoad a s).dom (argDom a)).segs k =
      if af a 0 20 16 ≤ k.val ∧ k.val < af a 0 20 16 + af a 0 12 8 then some (segArg a (k.val - af a 0 20 16))
      else vget (s.dom (argDom a)).segs k := by
  unfold applyRampLoad
  dsimp only
  rw [State.dom_domMod_same]
  exact vget_vmapIdx ..

theorem applyRampLoad_dom_ne {a : Args} {s : State} {k : Fin 8} (h : k ≠ argDom a) :
    (applyRampLoad a s).dom k = s.dom k := State.dom_domMod_ne h

/-! ### SYN_RAMP_RUN (R309, R310, R330) -/

@[simp] theorem State.advance_rampRefused (t : Nat) (s : State) (d : Fin 8) :
    (s.advance t).rampRefused d = s.rampRefused d := by
  simp [State.rampRefused]

/-- A domain whose ramp starts at Kettle instant `now` with the arguments of SYN_RAMP_RUN (R308, R330). -/
def Domain.rampStarted (a : Args) (now : Nat) (y : Domain) : Domain :=
  { y with ramp := .running, rampLast := af a 0 20 16, rampLoop := ab a 0 30, rampRepeat := af a 0 15 8, rampSeg := 0,
           rampRuns := 0, rampR := 0, rampFrom := now }

theorem applyRampRun_starts {a : Args} {s : State} (hb : ab a 0 31 = false) (hr : s.rampRefused (argDom a) = false)
    (hi : (s.dom (argDom a)).ramp = .idle) :
    applyRampRun a s =
      (s.count (0x0700 + 16 * (argDom a).val + 3)).domMod (argDom a) (Domain.rampStarted a s.now) := by
  unfold applyRampRun
  dsimp only
  rw [if_neg (ne_true_of_eq_false hb), if_neg (ne_true_of_eq_false hr), if_neg (not_not_intro hi)]
  rfl

theorem applyRampRun_stops {a : Args} {s : State} (hb : ab a 0 31 = true) (hi : (s.dom (argDom a)).ramp ≠ .idle) :
    applyRampRun a s = s.rampIdle (argDom a) := by
  unfold applyRampRun
  dsimp only
  rw [if_pos hb, if_neg hi]

theorem exec_synRampRun (h : (s.advance t).ready i .synRampRun false = true) :
    ∃ w, exec (.synRampRun t i) s = done ((applyRampRun (s.tag i).args (s.advance t)).holdOk i [w]) := by
  rw [← State.advance_tag t s]
  exact ⟨_, runCmd_answers (ch := synRampRunChecks) (body := synRampRunBody) (readyTurn_of_ready h rfl) rfl⟩

theorem synRampRun_starts (h : (s.advance t).ready i .synRampRun false = true) (hb : ab (s.tag i).args 0 31 = false)
    (hr : s.rampRefused (argDom (s.tag i).args) = false) (hi : (s.dom (argDom (s.tag i).args)).ramp = .idle) :
    Completes (exec (.synRampRun t i) s) fun u =>
      (u.dom (argDom (s.tag i).args)).ramp = .running ∧ (u.dom (argDom (s.tag i).args)).rampSeg = 0 ∧
      (u.dom (argDom (s.tag i).args)).rampR = 0 ∧
      (u.dom (argDom (s.tag i).args)).rampLast = af (s.tag i).args 0 20 16 ∧
      (∀ d, d ≠ argDom (s.tag i).args → u.dom d = s.dom d) ∧ ∃ d, u.heldOk i d ∧ d.length = 1 := by
  obtain ⟨w, he⟩ := exec_synRampRun h
  rw [he, applyRampRun_starts hb (by simpa) (by simpa), completes_done]
  refine ⟨?_, ?_, ?_, ?_, fun k hk => ?_, _, holdOk_heldOk .., rfl⟩
  case refine_5 =>
    rw [State.commit_dom, State.holdOk_dom, State.dom_domMod_ne hk]
    exact s.advance_dom t k
  all_goals simp [Domain.rampStarted]

end

/-- Settles O36, a lemma for each command's effect. -/
theorem synthesisCommandsAct : Obligations.SynthesisCommandsAct := by
  refine ⟨fun _ _ _ h hr hb => synConfig_powers h hr hb, fun s t i k h => ?_,
    fun _ _ _ h hb hr hi => synRampRun_starts h hb hr hi, fun s t i h hb hi => ?_⟩
  · obtain ⟨w, he⟩ := exec_synRampLoad h
    rw [he, completes_done]
    refine ⟨?_, fun d hd => ?_, _, holdOk_heldOk .., rfl⟩
    · simp [applyRampLoad_seg]
    · simp [applyRampLoad_dom_ne hd]
  · obtain ⟨w, he⟩ := exec_synRampRun h
    rw [he, applyRampRun_stops hb (by simpa), completes_done, State.commit_dom, State.holdOk_dom]
    exact State.rampIdle_idle ..

end Sys2Proof.Machine

/-!
SETTLING. The commands OUT_CONFIG, OUT_PULSE_CONFIG, OUT_SLEW, OUT_SYNC_ARM and OUT_REALIGN (O37).
-/

namespace Sys2Proof.Machine

/-! ### OUT_CONFIG (R313, R333) -/

/-- A CKOUT output with the configuration of the arguments; a word that COUNT leaves out keeps its field (R333). -/
def Ckout.configured (a : Args) (k : Ckout) : Ckout :=
  { k with enable := ab a 0 31, format := af a 0 30 29, invert := ab a 0 28, domain := argDom8 a,
           div := dflt a 1 (af a 1 15 0) k.div, phaseAdj := dflt a 2 (af a 2 15 0) k.phaseAdj }

section
variable {a : Args} {s : State} {n : Fin 24}

theorem applyOutConfig_settings (h : argCk a = some n) :
    ((applyOutConfig a s).ck n).settings = ((s.ck n).configured a).settings := by
  unfold applyOutConfig
  rw [h]
  dsimp only
  split
  · rw [State.ck_ckMod_same, State.ck_ckMod_same]
    rfl
  · split
    · rw [outGate_ck_settings, State.ckStart_settings, State.ck_ckMod_same]
      rfl
    · split <;> simp only [State.ck_ckMod_same] <;> rfl

theorem applyOutConfig_doms (a : Args) (s : State) : (applyOutConfig a s).out.doms = s.out.doms := by
  unfold applyOutConfig
  split
  · rfl
  · dsimp only
    split
    · rfl
    · split
      · rw [outGate_doms, State.ckStart_doms, State.ckMod_doms]
      · split <;> rfl

/-- A running output whose divider changes is out of alignment until its hold ends (R313). -/
theorem applyOutConfig_unaligned (h : argCk a = some n) (hb : ab a 0 31 = true) (he : (s.ck n).enable = true)
    (hd : dflt a 1 (af a 1 15 0) (s.ck n).div ≠ (s.ck n).div) : ((applyOutConfig a s).ck n).aligned = false := by
  unfold applyOutConfig
  rw [h]
  dsimp only
  rw [if_neg (by simp [hb]), if_neg (by simp [he]), if_pos (by simp [hd]), State.ck_ckMod_same]
  simp [hd]

end

section
variable {s : State} {t : Nat} {i : Fin 48}

theorem exec_outConfig {n : Fin 24} (h : (s.advance t).ready i .outConfig false = true)
    (hn : argCk (s.tag i).args = some n) :
    ∃ w, exec (.outConfig t i) s = done ((applyOutConfig (s.tag i).args (s.advance t)).holdOk i [w]) := by
  rw [← State.advance_tag t s] at hn ⊢
  refine ⟨(applyOutConfig ((s.advance t).tag i).args (s.advance t)).ckWord n,
    runCmd_answers (ch := outConfigChecks) (body := outConfigBody) (readyTurn_of_ready h rfl) ?_⟩
  unfold outConfigBody
  rw [hn]

theorem outConfig_configures {n : Fin 24} (h : (s.advance t).ready i .outConfig false = true)
    (hn : argCk (s.tag i).args = some n) :
    Completes (exec (.outConfig t i) s) fun u =>
      (u.ck n).enable = ab (s.tag i).args 0 31 ∧ (u.ck n).format = af (s.tag i).args 0 30 29 ∧
      (u.ck n).domain = argDom8 (s.tag i).args ∧
      (u.ck n).div = dflt (s.tag i).args 1 (af (s.tag i).args 1 15 0) (s.ck n).div ∧
      (u.ck n).phaseAdj = dflt (s.tag i).args 2 (af (s.tag i).args 2 15 0) (s.ck n).phaseAdj ∧
      (ab (s.tag i).args 0 31 = true → (s.ck n).enable = true → (u.ck n).div ≠ (s.ck n).div →
        (u.ck n).aligned = false) ∧
      u.out.doms = s.out.doms ∧ ∃ d, u.heldOk i d ∧ d.length = 1 := by
  obtain ⟨w, he⟩ := exec_outConfig h hn
  have hs := applyOutConfig_settings (s := s.advance t) hn
  simp only [Ckout.settings, Ckout.configured, State.advance_ck, Prod.mk.injEq] at hs
  obtain ⟨hen, hform, hdom, hdiv, hadj⟩ := hs
  rw [he, completes_done, State.commit_ck, State.holdOk_ck]
  refine ⟨hen, hform, hdom, hdiv, hadj, fun hb hk hd => ?_, ?_, _, holdOk_heldOk .., rfl⟩
  · exact applyOutConfig_unaligned hn hb (by simpa using hk) (by simpa [hdiv] using hd)
  · rw [State.commit_out_doms, State.holdOk_out, applyOutConfig_doms, State.advance_out]

/-! ### OUT_PULSE_CONFIG (R317, R318, R334) -/

theorem applyPulseConfig_settings (a : Args) (s : State) :
    ((applyPulseConfig a s).pl (argPl a)).settings =
      (ab a 0 31, ab a 0 28, argDom8 a, dflt a 4 (as32 a 4) (s.pl (argPl a)).delay, (s.pl (argPl a)).auto,
       (s.pl (argPl a)).slewRate) := by
  have hp : (((s.foldRamp (s.pl (argPl a)).domain).foldRamp (argDom8 a)).pl (argPl a)).settings =
      (s.pl (argPl a)).settings := by
    rw [State.foldRamp_settings, State.foldRamp_settings]
  simp only [Pulse.settings, Prod.mk.injEq] at hp
  obtain ⟨-, -, -, hdelay, hauto, hrate⟩ := hp
  unfold applyPulseConfig
  dsimp only [plRate]
  rw [outGate_pl_settings, State.pl_plMod_same, State.plJudge_settings, ← hdelay, ← hauto, ← hrate]
  (repeat' split) <;> rfl

theorem exec_outPulseConfig (h : (s.advance t).ready i .outPulseConfig false = true) :
    ∃ w, w.length = 2 ∧
      exec (.outPulseConfig t i) s = done ((applyPulseConfig (s.tag i).args (s.advance t)).holdOk i w) := by
  rw [← State.advance_tag t s]
  exact ⟨_, rfl,
    runCmd_answers (ch := outPulseConfigChecks) (body := outPulseConfigBody) (readyTurn_of_ready h rfl) rfl⟩

theorem outPulseConfig_configures (h : (s.advance t).ready i .outPulseConfig false = true) :
    Completes (exec (.outPulseConfig t i) s) fun u =>
      (u.pl (argPl (s.tag i).args)).enable = ab (s.tag i).args 0 31 ∧
      (u.pl (argPl (s.tag i).args)).half = ab (s.tag i).args 0 28 ∧
      (u.pl (argPl (s.tag i).args)).domain = argDom8 (s.tag i).args ∧
      (u.pl (argPl (s.tag i).args)).delay =
        dflt (s.tag i).args 4 (as32 (s.tag i).args 4) (s.pl (argPl (s.tag i).args)).delay ∧
      ∃ d, u.heldOk i d ∧ d.length = 2 := by
  obtain ⟨w, hw, he⟩ := exec_outPulseConfig h
  have hs := (State.commit_pl_settings _ _).trans
    ((congrArg Pulse.settings (State.holdOk_pl _ i w _)).trans
      (applyPulseConfig_settings (s.tag i).args (s.advance t)))
  simp only [Pulse.settings, State.advance_pl, Prod.mk.injEq] at hs
  obtain ⟨hen, hhalf, hdom, hdelay, -⟩ := hs
  rw [he, completes_done]
  exact ⟨hen, hhalf, hdom, hdelay, w, holdOk_heldOk .., hw⟩

/-! ### OUT_SLEW (R322, R336) -/

/-- PULSE output `n` after an OUT_SLEW, while slews may run as `on` says (R322, R336). -/
def Pulse.slewSet (a : Args) (on : Bool) (n : Nat) (p : Pulse) : Pulse :=
  if ab a 0 n then
    { p with auto := ab a 0 30, slewRate := dflt a 1 (af a 1 15 0) p.slewRate,
             slewReq := p.slewReq || ab a 0 31 }.judge on
  else p

theorem exec_outSlew (h : (s.advance t).ready i .outSlew false = true) :
    ∃ w, exec (.outSlew t i) s = done (((s.advance t).onOut fun o =>
      { o with pl := vmapIdx o.pl (Pulse.slewSet (s.tag i).args (s.advance t).slewOn) }).holdOk i [w]) := by
  rw [← State.advance_tag t s]
  exact ⟨_, runCmd_answers (ch := outSlewChecks) (body := outSlewBody) (readyTurn_of_ready h rfl) rfl⟩

theorem Pulse.slewSet_sets (a : Args) (on : Bool) (n : Nat) (p : Pulse) :
    (p.slewSet a on n).auto = (if ab a 0 n then ab a 0 30 else p.auto) ∧
    (p.slewSet a on n).slewRate = if ab a 0 n then dflt a 1 (af a 1 15 0) p.slewRate else p.slewRate := by
  unfold Pulse.slewSet
  split <;> exact ⟨rfl, rfl⟩

theorem outSlew_sets (n : Fin 16) (h : (s.advance t).ready i .outSlew false = true) :
    Completes (exec (.outSlew t i) s) fun u =>
      (u.pl n).auto = (if ab (s.tag i).args 0 n.val then ab (s.tag i).args 0 30 else (s.pl n).auto) ∧
      (u.pl n).slewRate = (if ab (s.tag i).args 0 n.val
        then dflt (s.tag i).args 1 (af (s.tag i).args 1 15 0) (s.pl n).slewRate else (s.pl n).slewRate) ∧
      u.out.ck = s.out.ck ∧ u.out.doms = s.out.doms ∧ ∃ d, u.heldOk i d ∧ d.length = 1 := by
  obtain ⟨w, he⟩ := exec_outSlew h
  obtain ⟨hauto, hrate⟩ := Pulse.slewSet_sets (s.tag i).args (s.advance t).slewOn n ((s.advance t).pl n)
  rw [State.advance_pl] at hauto hrate
  have hpl : ((s.advance t).onOut fun o =>
      { o with pl := vmapIdx o.pl (Pulse.slewSet (s.tag i).args (s.advance t).slewOn) }).pl n =
        (s.pl n).slewSet (s.tag i).args (s.advance t).slewOn n := by
    rw [← State.advance_pl s t]
    exact vget_vmapIdx ..
  rw [he, completes_done]
  refine ⟨?_, ?_, by simp, by simp, _, holdOk_heldOk .., rfl⟩
  · rw [State.commit_pl_keep (·.auto) fun _ => rfl, State.holdOk_pl, hpl, hauto]
  · rw [State.commit_pl_keep (·.slewRate) fun _ => rfl, State.holdOk_pl, hpl, hrate]

/-! ### OUT_SYNC_ARM (R324, R337) -/

/-- The arm of the arguments, held from Kettle instant `now` (R324, R337). -/
def syncArmArg (a : Args) (now : Nat) : SyncArm :=
  { SyncArm.init with falling := ab a 0 30, ckout := BitVec.ofNat 24 (af a 0 23 0),
                      pulse := BitVec.ofNat 16 (af a 1 15 0), timeout := dflt a 2 (arg a 2).toNat 10000, from_ := now }

/-- The Carillon after an OUT_SYNC_ARM at Kettle instant `now` (R337). -/
def Out.syncArmed (a : Args) (now : Nat) (o : Out) : Out :=
  if ab a 0 31 then { o with arm := none } else { o with syncExpired := false, arm := some (syncArmArg a now) }

theorem Out.syncArmed_ck (a : Args) (now : Nat) (o : Out) : (o.syncArmed a now).ck = o.ck := by
  unfold Out.syncArmed
  split <;> rfl

theorem exec_outSyncArm (h : (s.advance t).ready i .outSyncArm false = true) :
    ∃ w, exec (.outSyncArm t i) s = done (((forFin 8 State.foldRamp (s.advance t)).onOut
      (Out.syncArmed (s.tag i).args (s.advance t).now)).holdOk i [w]) := by
  rw [← State.advance_tag t s]
  exact ⟨_, runCmd_answers (ch := outSyncArmChecks) (body := outSyncArmBody)
    (readyTurn_of_ready h rfl) rfl⟩

theorem outSyncArm_arms (h : (s.advance t).ready i .outSyncArm false = true) :
    Completes (exec (.outSyncArm t i) s) fun u =>
      (ab (s.tag i).args 0 31 = true → u.out.arm = none) ∧
      (ab (s.tag i).args 0 31 = false → ∃ a, u.out.arm = some a ∧ a.falling = ab (s.tag i).args 0 30 ∧
        a.ckout = BitVec.ofNat 24 (af (s.tag i).args 0 23 0) ∧ a.from_ = (s.advance t).now ∧
        u.out.syncExpired = false) ∧
      u.out.ck = s.out.ck ∧ ∃ d, u.heldOk i d ∧ d.length = 1 := by
  obtain ⟨w, he⟩ := exec_outSyncArm h
  obtain ⟨harm, hexp⟩ := State.armed_parts (State.commit_armed (((forFin 8 State.foldRamp (s.advance t)).onOut
    (Out.syncArmed (s.tag i).args (s.advance t).now)).holdOk i [w]))
  have hck : (forFin 8 State.foldRamp (s.advance t)).out.ck = s.out.ck := by
    rw [forFin_keep 8 State.foldRamp _ (·.out.ck) fun d u => u.foldRamp_cks d, State.advance_out]
  rw [he, completes_done]
  refine ⟨fun hb => ?_, fun hb => ⟨syncArmArg (s.tag i).args (s.advance t).now, ?_, rfl, rfl, rfl, ?_⟩, ?_, _,
    holdOk_heldOk .., rfl⟩
  · simp [harm, Out.syncArmed, hb]
  · simp [harm, Out.syncArmed, hb]
  · simp [hexp, Out.syncArmed, hb]
  · rw [State.commit_out_ck, State.holdOk_out, State.onOut_out, Out.syncArmed_ck, hck]

/-! ### OUT_REALIGN (R335) -/

theorem exec_outRealign (h : (s.advance t).ready i .outRealign false = true) :
    exec (.outRealign t i) s = done ((applyRealign (s.tag i).args (s.advance t)).holdOk i
      (time96 (applyRealign (s.tag i).args (s.advance t)).mt)) := by
  rw [← State.advance_tag t s]
  exact runCmd_answers (ch := outRealignChecks) (body := outRealignBody) (readyTurn_of_ready h rfl) rfl

theorem State.commit_holdOk_mt (v : State) (i : Fin 48) (d : List Word) : (v.holdOk i d).commit.mt = v.mt :=
  mt_of_clock (congrArg Time.clock (State.commit_time _))

theorem outRealign_answers (h : (s.advance t).ready i .outRealign false = true) :
    Completes (exec (.outRealign t i) s) fun u => u.heldOk i (time96 u.mt) := by
  rw [exec_outRealign h, completes_done, State.commit_holdOk_mt]
  exact holdOk_heldOk ..

end

/-- Settles O37, a lemma for each command. -/
theorem outputCommandsAct : Obligations.OutputCommandsAct :=
  ⟨fun _ _ _ _ h hn => outConfig_configures h hn,
   fun _ _ _ h => outPulseConfig_configures h,
   fun _ _ _ n h => outSlew_sets n h,
   fun _ _ _ h => outSyncArm_arms h,
   fun _ _ _ h => outRealign_answers h⟩

end Sys2Proof.Machine

/-!
SETTLING. The events of the domains, the ramps, the outputs, SYNC_IN and the hand-off (O45).
-/

namespace Sys2Proof.Machine

/-! ### The domain PLLs (R302 to R304, R306) -/

theorem State.domStop_flt (s : State) (d : Fin 8) : (s.domStop d).flt = s.flt := by
  have ha (u : State) : (u.armLapse d).flt = u.flt := by
    unfold State.armLapse
    split
    · rfl
    · exact ite_keep State.flt _ _ u rfl
  exact ha (s.count _)

/-- A contained report of a domain's lock with the default reaction leaves the Carillon as it is (R306, R457). -/
theorem report_lock_out {s : State} (d : Fin 8) (hr : s.flt.react = []) :
    (s.report (domSource d) .contained 0x22).out = s.out :=
  out_recordKeeps.take_default s rfl rfl rfl hr rfl

/-- A domain whose table of bands has been measured by Kettle instant `now` (R302). -/
def Domain.measured (table : List (Nat × Nat)) (now : Nat) (y : Domain) : Domain :=
  { y with table := table, filled := true, fillAt := now, filling := false, lowMargin := false }

/-- A domain in band `b` (R303). -/
def Domain.inBand (b : Nat) (y : Domain) : Domain := { y with band := b, noBand := false }

/-- What the end of a fill and the start after it write of a domain. -/
def Domain.fill (y : Domain) : Bool × List (Nat × Nat) × Nat × Bool × Bool × Bool × Bool :=
  (y.filled, y.table, y.band, y.running, y.locked, y.filling, y.noBand)

section
variable {s : State} {t : Nat} {d : Fin 8}

theorem domainBandFillDone_starts {table : List (Nat × Nat)} {b : Nat} (he : (s.dom d).enable = true)
    (hf : (s.dom d).filling = true) (hl : table.length = 128) (hr : s.root.inLoss = false)
    (hb : bandPick table (s.dom d).num (s.dom d).den = some b) :
    Completes (exec (.domainBandFillDone t d table) s) fun u =>
      (u.dom d).filled = true ∧ (u.dom d).table = table ∧ (u.dom d).band = b ∧ (u.dom d).running = true ∧
      (u.dom d).locked = true ∧ (u.dom d).filling = false ∧ (u.dom d).noBand = false := by
  have hx : execDomainBandFillDone t d table s =
      done ((((s.advance t).domMod d (Domain.measured table (s.advance t).now)).domMod d (Domain.inBand b)).domStart d) := by
    unfold execDomainBandFillDone
    dsimp only
    rw [if_pos (by simp [he, hf, hl, hr]), State.advance_dom, hb]
    rfl
  have hd := State.domStart_dom_same Domain.fill (fun _ _ => rfl)
    (((s.advance t).domMod d (Domain.measured table (s.advance t).now)).domMod d (Domain.inBand b)) d
  rw [State.dom_domMod_same, State.dom_domMod_same] at hd
  simp only [Domain.fill, Prod.mk.injEq] at hd
  show Completes (execDomainBandFillDone t d table s) _
  rw [hx, completes_done, State.commit_dom]
  exact hd

theorem domainLock_stops (he : (s.dom d).enable = true) (hl : (s.dom d).locked = true)
    (hr : (s.dom d).running = true) (hq : s.quietFaults = true) :
    Completes (exec (.domainLock t d) s) fun u =>
      (u.dom d).locked = false ∧ (u.dom d).running = false ∧ (u.dom d).enable = true ∧
      ∀ k, k ≠ d → u.dom k = s.dom k := by
  have hx : execDomainLock t d s = done (((s.advance t).domStop d).report (domSource d) .contained 0x22) := by
    simp [execDomainLock, he, hl, hr]
  have hf : ((s.advance t).domStop d).flt.react = [] := by
    rw [State.domStop_flt, State.advance_flt, react_of_quietFaults hq]
  have hd (k : Fin 8) : (((s.advance t).domStop d).report (domSource d) .contained 0x22).commit.dom k =
      ((s.advance t).domStop d).dom k := by
    rw [State.commit_dom, State.dom_of_doms (congrArg Out.doms (report_lock_out d hf))]
  show Completes (execDomainLock t d s) _
  rw [hx, completes_done, hd, State.domStop_dom_same, State.advance_dom]
  refine ⟨rfl, rfl, he, fun k hk => ?_⟩
  rw [hd, State.domStop_dom_ne hk, State.advance_dom]

/-- A domain that starts is locked and runs, and no other domain changes. -/
theorem domStart_runs (s : State) (t : Nat) (d : Fin 8) :
    Completes (done ((s.advance t).domStart d)) fun u =>
      (u.dom d).lock = (true, true, false, false) ∧ ∀ k, k ≠ d → u.dom k = s.dom k := by
  rw [completes_done, State.commit_dom, State.domStart_lock]
  refine ⟨rfl, fun k hk => ?_⟩
  rw [State.commit_dom, State.domStart_dom_ne hk, State.advance_dom]

theorem domainRelock_starts (he : (s.dom d).enable = true) (hl : (s.dom d).locked = false)
    (hf : (s.dom d).filling = false) (hr : (s.dom d).retuning = false) (hn : (s.dom d).noBand = false) :
    Completes (exec (.domainRelock t d) s) fun u =>
      (u.dom d).locked = true ∧ (u.dom d).running = true ∧ ∀ k, k ≠ d → u.dom k = s.dom k := by
  have hx : execDomainRelock t d s = done ((s.advance t).domStart d) := by
    simp [execDomainRelock, he, hl, hf, hr, hn]
  obtain ⟨u, hu, hd, hk⟩ := domStart_runs s t d
  simp only [Domain.lock, Prod.mk.injEq] at hd
  obtain ⟨hlock, hrun, -⟩ := hd
  exact ⟨u, hx.trans hu, hlock, hrun, hk⟩

theorem domainRetuneDone_starts (he : (s.dom d).enable = true) (hr : (s.dom d).retuning = true) :
    Completes (exec (.domainRetuneDone t d) s) fun u =>
      (u.dom d).retuning = false ∧ (u.dom d).running = true ∧ ∀ k, k ≠ d → u.dom k = s.dom k := by
  have hx : execDomainRetuneDone t d s = done ((s.advance t).domStart d) := by
    simp [execDomainRetuneDone, he, hr]
  obtain ⟨u, hu, hd, hk⟩ := domStart_runs s t d
  simp only [Domain.lock, Prod.mk.injEq] at hd
  obtain ⟨-, hrun, -, hret⟩ := hd
  exact ⟨u, hx.trans hu, hret, hrun, hk⟩

@[simp] theorem State.advance_rolls (s : State) (t : Nat) : (s.advance t).rolls = s.rolls := by
  simp [State.rolls]

/-- A domain whose band's margin is low (R304). -/
def Domain.atLowMargin (y : Domain) : Domain := { y with lowMargin := true }

theorem bandCheck_lowMargin {dev m : Nat} (he : (s.dom d).enable = true) (hl : (s.dom d).locked = true)
    (hv : dev ≤ 100) (hm : m < 560) (hr : s.rolls = true) :
    Completes (exec (.bandCheck t d dev m) s) fun u =>
      (u.dom d).lowMargin = true ∧ ∀ k, k ≠ d → u.dom k = s.dom k := by
  have hx : execBandCheck t d dev m s = done (((s.advance t).domMod d Domain.atLowMargin).rollDone 4) := by
    unfold execBandCheck
    dsimp only
    rw [if_pos (by simp [he, hl, hr]), if_pos hm, if_neg (Nat.not_lt.2 hv)]
    rfl
  have hd (k : Fin 8) : (((s.advance t).domMod d Domain.atLowMargin).rollDone 4).commit.dom k =
      ((s.advance t).domMod d Domain.atLowMargin).dom k :=
    (State.commit_dom _ k).trans rfl
  show Completes (execBandCheck t d dev m s) _
  rw [hx, completes_done, hd, State.dom_domMod_same]
  refine ⟨rfl, fun k hk => ?_⟩
  rw [hd, State.dom_domMod_ne hk, State.advance_dom]

/-! ### Ramps (R308) -/

/-- Where a domain stands in its profile: the segment, whether its ramp runs, and r at the segment's start. -/
def Domain.progress (y : Domain) : Nat × RampState × Int := (y.rampSeg, y.ramp, y.rampR)

/-- A segment that is not the last gives way to the next with its TARGET applied (R308). -/
theorem Domain.nextSeg_progress {y : Domain} (h : y.rampSeg < y.rampLast) :
    y.nextSeg.progress = (y.rampSeg + 1, y.ramp, y.seg.target) := by
  unfold Domain.nextSeg
  dsimp only
  rw [if_pos h]
  rfl

theorem rampSegmentEnd_advances (hr : (s.dom d).ramp = .running) (hs : (s.dom d).rampSeg < (s.dom d).rampLast)
    (hp : (s.advance t).past (s.dom d).rampFrom ((s.dom d).seg.len (s.dom d).rampR) = true) :
    Completes (exec (.rampSegmentEnd t d) s) fun u =>
      (u.dom d).rampSeg = (s.dom d).rampSeg + 1 ∧ (u.dom d).ramp = .running ∧
      (u.dom d).rampR = (s.dom d).seg.target ∧ ∀ k, k ≠ d → u.dom k = s.dom k := by
  have hx : execRampSegmentEnd t d s = done (((s.advance t).foldRamp d).domMod d Domain.nextSeg) := by
    simp [execRampSegmentEnd, hr, hp]
  have hq := State.foldRamp_dom (fun y => (y.rampSeg, y.rampLast, y.ramp, y.seg)) (fun _ _ => rfl) (s.advance t) d d
  simp only [Prod.mk.injEq, State.advance_dom] at hq
  obtain ⟨hseg, hlast, hramp, hsg⟩ := hq
  have hn := Domain.nextSeg_progress (y := ((s.advance t).foldRamp d).dom d) (by rwa [hseg, hlast])
  simp only [Domain.progress, Prod.mk.injEq, hseg, hramp, hsg, hr] at hn
  obtain ⟨h1, h2, h3⟩ := hn
  show Completes (execRampSegmentEnd t d s) _
  rw [hx, completes_done, State.commit_dom, State.dom_domMod_same]
  refine ⟨h1, h2, h3, fun k hk => ?_⟩
  rw [State.commit_dom, State.dom_domMod_ne hk, State.foldRamp_dom_ne hk, State.advance_dom]

end

/-! ### The holds of the outputs, pulses and slews (R313, R318, R322) -/

/-- A CKOUT output whose FORMAT or INVERT hold has ended (R313). -/
def Ckout.formed (k : Ckout) : Ckout := { k with formFrom := none }

/-- The FORMAT or INVERT hold of CKOUT output `n` has lasted its 2 us (R313). -/
def State.formOver (s : State) (n : Fin 24) : Bool := (s.ck n).formFrom.any fun f => s.past f (2 * usU)

/-- The FORMAT or INVERT hold of CKOUT output `n` ends if it is over (R313). -/
def State.formEnd (s : State) (n : Fin 24) : State := if s.formOver n then s.ckMod n Ckout.formed else s

theorem State.formEnd_keep {α : Type} (p : State → α) {s : State} {n : Fin 24}
    (h : p (s.ckMod n Ckout.formed) = p s) : p (s.formEnd n) = p s := ite_keep p _ _ s h

theorem execOutputHoldEnd_ck (s : State) (t : Nat) (n : Fin 24) :
    execOutputHoldEnd t (.ck n) s =
      done (if ((s.advance t).ck n).holdFrom.isSome then ((s.advance t).formEnd n).ckStart n
        else (s.advance t).formEnd n) := rfl

section
variable {s : State} {t f : Nat}

theorem outputHoldEnd_formed {n : Fin 24} (hf : (s.ck n).formFrom = some f) (hh : (s.ck n).holdFrom = none)
    (hp : (s.advance t).past f (2 * usU) = true) :
    Completes (exec (.outputHoldEnd t (.ck n)) s) fun u =>
      u.ck n = { s.ck n with formFrom := none } ∧ ∀ k, k ≠ n → u.ck k = s.ck k := by
  have ho : (s.advance t).formOver n = true := by
    rw [State.formOver, State.advance_ck, hf, Option.any_some, hp]
  show Completes (execOutputHoldEnd t (.ck n) s) _
  rw [execOutputHoldEnd_ck, State.advance_ck, hh, Option.isSome_none, if_neg Bool.false_ne_true, State.formEnd, ho,
    if_pos rfl, completes_done, State.commit_ck, State.ck_ckMod_same, State.advance_ck]
  refine ⟨rfl, fun k hk => ?_⟩
  rw [State.commit_ck, State.ck_ckMod_ne hk, State.advance_ck]

theorem outputHoldEnd_restarts {n : Fin 24} (hf : (s.ck n).holdFrom = some f) (ha : s.mb.applying = false) :
    Completes (exec (.outputHoldEnd t (.ck n)) s) fun u =>
      (u.ck n).holdFrom = none ∧ (u.ck n).aligned = ((s.ck n).enable && (s.dom (s.ck n).domain).running) ∧
      (u.ck n).div = (s.ck n).div ∧ ∀ k, k ≠ n → u.ck k = s.ck k := by
  have hm : ((s.advance t).formEnd n).mb.applying = false := by
    rw [State.formEnd_keep State.mb (State.ckMod_mb ..), State.advance_mb, ha]
  have hs : (((s.advance t).formEnd n).ck n).settings = (s.ck n).settings := by
    rw [State.formEnd_keep (fun u => (u.ck n).settings) (by rw [State.ck_ckMod_same]; rfl), State.advance_ck]
  have hd (d : Fin 8) : ((s.advance t).formEnd n).dom d = s.dom d := by
    rw [State.formEnd_keep (State.dom · d) (State.ckMod_dom ..), State.advance_dom]
  obtain ⟨hal, hnone⟩ := State.ckStart_aligned hm
  have hset := (State.ckStart_settings _ n).trans hs
  simp only [Ckout.settings, Prod.mk.injEq] at hs hset
  obtain ⟨hen, -, hdom, -⟩ := hs
  obtain ⟨-, -, -, hdiv, -⟩ := hset
  show Completes (execOutputHoldEnd t (.ck n) s) _
  rw [execOutputHoldEnd_ck, State.advance_ck, hf, Option.isSome_some, if_pos rfl, completes_done, State.commit_ck]
  refine ⟨hnone, ?_, hdiv, fun k hk => ?_⟩
  · rw [hal, hen, hdom, hd]
  · rw [State.commit_ck, State.ckStart_ck_ne hk, State.formEnd_keep (State.ck · k) (State.ck_ckMod_ne hk),
      State.advance_ck]

theorem outputHoldEnd_pulse {n : Fin 16} (hf : (s.pl n).holdFrom = some f)
    (hp : (s.advance t).past f (10 * usU) = true) :
    Completes (exec (.outputHoldEnd t (.pl n)) s) fun u =>
      (u.pl n).holdFrom = none ∧ (u.pl n).enable = (s.pl n).enable := by
  have hx : execOutputHoldEnd t (.pl n) s = done ((s.advance t).plMod n fun p => { p with holdFrom := none }) := by
    simp [execOutputHoldEnd, hf, hp]
  show Completes (execOutputHoldEnd t (.pl n) s) _
  rw [hx, completes_done, State.commit_pl_keep (·.holdFrom) fun _ => rfl, State.commit_pl_keep (·.enable) fun _ => rfl,
    State.pl_plMod_same, State.advance_pl]
  exact ⟨rfl, rfl⟩

theorem pulseEdge_falls {p : Fin 16} (hr : (s.dom (s.pl p).domain).running = true) (hl : s.kettle.lost = false)
    (hh : (s.pl p).high = true) (hf : (s.pl p).fallAt ≤ (s.advance t).now) :
    Completes (exec (.pulseEdge t p false) s) fun u => (u.pl p).high = false ∧ u.out.doms = s.out.doms := by
  have hx : execPulseEdge t p false s = done ((s.advance t).plMod p fun x => { x with high := false }) := by
    simp [execPulseEdge, hr, hl, hh, hf]
  show Completes (execPulseEdge t p false s) _
  rw [hx, completes_done, State.commit_pl_keep (·.high) fun _ => rfl, State.pl_plMod_same, State.commit_out_doms,
    State.plMod_doms, State.advance_out]
  exact ⟨rfl, rfl⟩

theorem slewEnd_stops {p : Fin 16} (hs : (s.pl p).slewing = true) (hp : (s.pl p).phi.natAbs * 1000 ≤ 5 * 65536) :
    Completes (exec (.slewEnd t p) s) fun u =>
      (u.pl p).slewing = false ∧ (u.pl p).slewReq = false ∧ (u.pl p).phi = (s.pl p).phi := by
  have hx : execSlewEnd t p s = done ((s.advance t).plMod p Pulse.stopped) := by
    unfold execSlewEnd
    dsimp only
    rw [if_pos (by simp [hs, hp])]
    rfl
  have hpl := State.pl_plMod_same (s.advance t) p Pulse.stopped
  rw [State.advance_pl] at hpl
  show Completes (execSlewEnd t p s) _
  rw [hx, completes_done]
  obtain h | h := State.commit_pl ((s.advance t).plMod p Pulse.stopped) p <;> rw [h, hpl] <;> exact ⟨rfl, rfl, rfl⟩

end

/-! ### SYNC_IN (R324, R326) -/

theorem State.ckSync_armed (s : State) (w : List Nat) (n : Fin 24) : (s.ckSync w n).armed = s.armed := by
  unfold State.ckSync
  dsimp only
  split <;> rfl

theorem State.plSync_armed (s : State) (w : List Nat) (n : Fin 16) : (s.plSync w n).armed = s.armed := by
  unfold State.plSync
  dsimp only
  split
  · exact s.foldRamp_armed _
  · rfl

/-- Restarting the armed outputs of a domain leaves the arm (R324). -/
theorem State.syncDomain_armed (s : State) (w : List Nat) (a : SyncArm) (d : Fin 8) :
    (s.syncDomain w a d).armed = s.armed := by
  unfold State.syncDomain
  dsimp only
  split
  · rfl
  · rw [foldl_keep _ State.armed fun u n => u.plSync_armed w n, foldl_keep _ State.armed fun u n => u.ckSync_armed w n]
    rfl

section
variable {s : State} {t : Nat} {a : SyncArm}

theorem syncInEdge_consumes {f : Bool} (w : List Nat) (ha : s.out.arm = some a) (hr : s.out.released = true)
    (hf : a.falling = f) (hn : (s.advance t).now ≤ a.from_ + a.timeout * msU) :
    Completes (exec (.syncInEdge t f w) s) fun u => u.out.arm = none ∧ u.out.syncExpired = s.out.syncExpired := by
  have hx : execSyncInEdge t f w s =
      done (forFin 8 (State.syncDomain w a) ((s.advance t).onOut fun o => { o with arm := none })) := by
    simp [execSyncInEdge, ha, hr, hf, hn]
  obtain ⟨harm, hexp⟩ := State.armed_parts ((State.commit_armed _).trans
    (forFin_keep 8 (State.syncDomain w a) ((s.advance t).onOut fun o => { o with arm := none }) State.armed
      fun d u => u.syncDomain_armed w a d))
  show Completes (execSyncInEdge t f w s) _
  rw [hx, completes_done, harm, hexp, State.onOut_out, State.advance_out]
  exact ⟨rfl, rfl⟩

theorem syncArmTimeout_lapses (ha : s.out.arm = some a) (hp : (s.advance t).past a.from_ (a.timeout * msU) = true)
    (hc : (s.advance t).syncComing a = false) :
    Completes (exec (.syncArmTimeout t) s) fun u =>
      u.out.arm = none ∧ u.out.syncExpired = true ∧ u.out.ck = s.out.ck := by
  have hx : execSyncArmTimeout t s =
      done ((s.advance t).onOut fun o => { o with arm := none, syncExpired := true }) := by
    simp [execSyncArmTimeout, ha, hp, hc]
  obtain ⟨harm, hexp⟩ := State.armed_parts
    (State.commit_armed ((s.advance t).onOut fun o => { o with arm := none, syncExpired := true }))
  show Completes (execSyncArmTimeout t s) _
  rw [hx, completes_done, harm, hexp, State.commit_out_ck, State.onOut_out, State.advance_out]
  exact ⟨rfl, rfl, rfl⟩

end

/-! ### The hand-off point (R430, R431) -/

/-- Phase of a CKOUT output's edges on domain `x`: the divider's, and PHASE_ADJ in periods of the VCO (R312, R313). -/
def Ckout.edgePhase (k : Ckout) (x : Domain) : Int :=
  k.dphi + ((k.phaseAdj * x.den * secU / (x.k * x.num) : Nat) : Int)

/-- A CKOUT output out of KEEP (R431). -/
def Ckout.unkept (k : Ckout) : Ckout := { k with keep := false }

theorem outputHandoff_releases {s : State} {t : Nat} {n : Fin 24} (hg : (s.advance t).gates = false)
    (hd : s.pair.hoDone = false) (he : (s.ck n).enable = true) (hk : (s.ck n).keep = true)
    (ho : handOk ((s.advance t).domAt (s.ck n).domain (s.advance t).now)
      ((s.ck n).edgePhase (s.dom (s.ck n).domain))
      (periodOf (s.dom (s.ck n).domain).num ((s.dom (s.ck n).domain).den * (s.ck n).div) / 2 : Nat)
      (s.dom (s.ck n).domain).num ((s.dom (s.ck n).domain).den * (s.ck n).div) = true) :
    Completes (exec (.outputHandoff t (.ck n)) s) fun u =>
      (u.ck n).keep = false ∧ ∀ k, k ≠ n → u.ck k = s.ck k := by
  have hx : ∃ v : State, execOutputHandoff t (.ck n) s = done v ∧
      v.out.ck = ((s.advance t).ckMod n Ckout.unkept).out.ck := by
    unfold execOutputHandoff
    dsimp only
    rw [State.advance_pair, hd, hg]
    simp only [Bool.false_and, Bool.false_eq_true, if_false, State.advance_ck, State.advance_dom]
    rw [if_pos (by simpa [he, hk, Ckout.edgePhase] using ho)]
    refine ⟨_, rfl, ?_⟩
    split <;> rfl
  obtain ⟨v, hv, hc⟩ := hx
  show Completes (execOutputHandoff t (.ck n) s) _
  rw [hv, completes_done, State.commit_ck, State.ck_of_cks hc, State.ck_ckMod_same]
  refine ⟨rfl, fun k hkn => ?_⟩
  rw [State.commit_ck, State.ck_of_cks hc, State.ck_ckMod_ne hkn, State.advance_ck]

/-- Settles O45, a lemma for each row. -/
theorem carillonEvents : Obligations.CarillonEvents :=
  ⟨fun _ _ _ _ _ he hf hl hr hb => domainBandFillDone_starts he hf hl hr hb,
   fun _ _ _ he hl hr hq => domainLock_stops he hl hr hq,
   fun _ _ _ he hl hf hr hn => domainRelock_starts he hl hf hr hn,
   fun _ _ _ he hr => domainRetuneDone_starts he hr,
   fun _ _ _ _ _ he hl hv hm hr => bandCheck_lowMargin he hl hv hm hr,
   fun _ _ _ hr hs hp => rampSegmentEnd_advances hr hs hp,
   fun _ _ _ _ hf hh hp => outputHoldEnd_formed hf hh hp,
   fun _ _ _ _ hf ha => outputHoldEnd_restarts hf ha,
   fun _ _ _ _ hf hp => outputHoldEnd_pulse hf hp,
   fun _ _ _ hr hl hh hf => pulseEdge_falls hr hl hh hf,
   fun _ _ _ hs hp => slewEnd_stops hs hp,
   fun _ _ _ w _ ha hr hf hn => syncInEdge_consumes w ha hr hf hn,
   fun _ _ _ ha hp hc => syncArmTimeout_lapses ha hp hc,
   fun _ _ _ hg hd he hk ho => outputHandoff_releases hg hd he hk ho⟩

end Sys2Proof.Machine

/-!
SUPPORT. The links: reading one lane after an update, and what selection, the time properties and the monitors of the
references leave of the PTP unit. Of a lane they write the time properties that its port's parent announces alone.
-/

namespace Sys2Proof.Machine

/-! ### Lanes read after an update -/

section
variable (s : State) (l : Fin 48) (f : Lane → Lane)

@[simp] theorem State.lane_laneMod_same : (s.laneMod l f).lane l = f (s.lane l) := vget_vmod_same s.ptp.lanes l f

theorem State.lane_laneMod_ne {k : Fin 48} (h : k ≠ l) : (s.laneMod l f).lane k = s.lane k :=
  vget_vmod_ne s.ptp.lanes l k f h.symm

theorem State.laneMod_laneMod (g : Lane → Lane) : (s.laneMod l f).laneMod l g = s.laneMod l fun x => g (f x) := by
  simp [State.laneMod, State.onPtp, vmod]

theorem State.laneMod_congr {g : Lane → Lane} (h : f (s.lane l) = g (s.lane l)) : s.laneMod l f = s.laneMod l g := by
  have hv : f s.ptp.lanes[l.val] = g s.ptp.lanes[l.val] := h
  simp [State.laneMod, State.onPtp, vmod, hv]

@[simp] theorem State.laneCount_ptp (k : Fin 48) (i : Nat) : (s.laneCount k i).ptp = s.ptp := rfl
@[simp] theorem State.laneCount_lane (k : Fin 48) (i : Nat) : (s.laneCount k i).lane l = s.lane l := rfl
@[simp] theorem State.chime_lane (b : Nat) : (s.chime b).lane l = s.lane l := rfl
@[simp] theorem State.chanMod_lane (c : Fin 66) (g : Chan → Chan) : (s.chanMod c g).lane l = s.lane l := rfl
@[simp] theorem State.rollDone_lane (k : Fin 13) : (s.rollDone k).lane l = s.lane l := rfl
@[simp] theorem State.holdOk_lane (i : Fin 48) (d : List Word) : (s.holdOk i d).lane l = s.lane l := rfl

/-- What the update keeps of its lane it keeps of every lane. -/
theorem State.laneMod_keep {α : Type} (q : Lane → α) (hf : q (f (s.lane l)) = q (s.lane l)) (k : Fin 48) :
    q ((s.laneMod l f).lane k) = q (s.lane k) := by
  by_cases h : k = l
  · rw [h, State.lane_laneMod_same, hf]
  · rw [State.lane_laneMod_ne s l f h]

end

/-! ### The links without the announced time properties -/

theorem vmap_vmap {α β γ : Type} {n : Nat} (v : Vector α n) (f : α → β) (g : β → γ) :
    vmap (vmap v f) g = vmap v fun x => g (f x) := by
  simp only [vmap, List.map_map]
  rfl

/-- A lane without the time properties that its port's parent announces (R127). -/
def Lane.bare (x : Lane) : Lane := { x with src := TimeSrc.init }

/-- The PTP unit without those properties of any lane, which follow the Metronome (R128). -/
def State.links (s : State) : Ptp := { s.ptp with lanes := vmap s.ptp.lanes Lane.bare }

/-- The PTP unit without its lanes. -/
def Ptp.sansLanes (p : Ptp) : Ptp := { p with lanes := Ptp.init.lanes }

theorem State.links_of_ptp {s u : State} (h : u.ptp = s.ptp) : u.links = s.links := by rw [State.links, h, State.links]

theorem State.bare_of_links {s u : State} (h : u.links = s.links) (l : Fin 48) :
    (u.lane l).bare = (s.lane l).bare := by
  have hl := congrArg (fun p : Ptp => vget p.lanes l) h
  simpa only [State.links, vget_vmap, State.lane] using hl

theorem State.sansLanes_of_links {s u : State} (h : u.links = s.links) : u.ptp.sansLanes = s.ptp.sansLanes :=
  (congrArg Ptp.sansLanes h :)

@[simp] theorem State.laneMod_sansLanes (s : State) (l : Fin 48) (f : Lane → Lane) :
    (s.laneMod l f).ptp.sansLanes = s.ptp.sansLanes := rfl

section
variable (s : State)

@[simp] theorem State.onTime_links (f : Time → Time) : (s.onTime f).links = s.links := rfl
@[simp] theorem State.onLoop_links (f : LoopU → LoopU) : (s.onLoop f).links = s.links := rfl
@[simp] theorem State.onRef_links (f : RefU → RefU) : (s.onRef f).links = s.links := rfl
@[simp] theorem State.dpllMod_links (d : Fin 8) (f : Dpll → Dpll) : (s.dpllMod d f).links = s.links := rfl
@[simp] theorem State.candMod_links (r : Fin 66) (f : Cand → Cand) : (s.candMod r f).links = s.links := rfl
@[simp] theorem State.count_links (i n : Nat) : (s.count i n).links = s.links := rfl
@[simp] theorem State.chime_links (b : Nat) : (s.chime b).links = s.links := rfl
@[simp] theorem State.draw_links : s.draw.2.links = s.links := rfl

@[simp] theorem State.log_links (g e u : Nat) (l : List Word) : (s.log g e u l).links = s.links :=
  State.links_of_ptp (State.log_ptp ..)

/-! ### The time properties (R126 to R128) -/

@[simp] theorem State.nvWrite_links (w : NvWrite) : (s.nvWrite w).links = s.links := by
  unfold State.nvWrite State.nvsEvent
  split
  · rw [State.chime_links, State.log_links]
    rfl
  · rfl

@[simp] theorem State.fwWrite_links (id : Nat) : (s.fwWrite id).links = s.links := State.nvWrite_links s.draw.2 _

@[simp] theorem State.rollSrcs_links : s.rollSrcs.links = s.links := by
  simp only [State.links, State.rollSrcs, State.onPtp_ptp, State.onTime_ptp, vmap_vmap]
  rfl

@[simp] theorem State.logUtc_links (old : Int) : (s.logUtc old).links = s.links := State.log_links ..

@[simp] theorem utcUpdate_links : (utcUpdate s).links = s.links := by
  simp [utcUpdate, apply_ite State.links]

/-! ### Selection and switching (R226 to R294) -/

section
variable (d : Fin 8)

@[simp] theorem State.setDState_links (n : DState) : (s.setDState d n).links = s.links := by
  simp [State.setDState, apply_ite State.links]

@[simp] theorem State.refreshTe_links : (s.refreshTe d).links = s.links := by
  simp [State.refreshTe, apply_ite State.links]

@[simp] theorem State.feedStop_links : (s.feedStop d).links = s.links := by
  simp [State.feedStop, apply_ite State.links]

@[simp] theorem State.holdStart_links : (s.holdStart d).links = s.links := by
  simp [State.holdStart, State.utcFollow, apply_ite State.links]

@[simp] theorem State.enterHold_links (c : HoCause) : (s.enterHold d c).links = s.links := by
  simp [State.enterHold, State.entryEdge, State.freerunHold, apply_ite State.links]

@[simp] theorem State.startSwitch_links (r : Fin 66) : (s.startSwitch d r).links = s.links := by
  simp [State.startSwitch, apply_ite State.links]

@[simp] theorem State.disable_links : (s.disable d).links = s.links := by simp [State.disable]

@[simp] theorem State.endSwitch_links (n : Nat) : (s.endSwitch d n).links = s.links := by
  simp [State.endSwitch, apply_ite State.links]

@[simp] theorem State.fallback_links : (s.fallback d).links = s.links := by
  unfold State.fallback
  dsimp only
  split
  · rfl
  · split <;> simp [apply_ite State.links]

@[simp] theorem State.lostOne_links (r : Fin 66) : (s.lostOne r d).links = s.links := by
  unfold State.lostOne
  dsimp only
  split
  · rfl
  · (repeat' split) <;> simp

end

section
variable (r : Fin 66)

@[simp] theorem State.lostAct_links : (s.lostAct r).links = s.links :=
  forFin_keep _ _ _ State.links fun d u => u.lostOne_links d r

@[simp] theorem State.unqualified_links : (s.unqualified r).links = s.links :=
  forFin_keep _ _ _ State.links fun d u => by simp [State.unqualOne, apply_ite State.links]

@[simp] theorem evalAll_links : (evalAll s).links = s.links :=
  forFin_keep _ _ _ State.links fun d u => u.dpllMod_links d _

/-! ### Candidates (R199 to R216) -/

@[simp] theorem State.dropPairs_links : (s.dropPairs r).links = s.links :=
  forFin_keep _ _ _ State.links fun d u => by simp [State.disOne, apply_ite State.links]

@[simp] theorem State.candSet_links (f : Cand → Cand) (b : Bool) : (s.candSet r f b).links = s.links := by
  simp [State.candSet, apply_ite State.links]

@[simp] theorem refLoss_links : (refLoss r s).links = s.links := by simp [refLoss, apply_ite State.links]

@[simp] theorem refCond_links : (refCond r s).links = s.links := by simp [refCond, apply_ite State.links]

@[simp] theorem refExtRej_links (b : Bool) : (refExtRej r b s).links = s.links := by
  simp [refExtRej, apply_ite State.links]

/-! ### A sample reaches the monitors and the DPLLs (R196 to R204, R260) -/

@[simp] theorem State.absorb_links (d : Fin 8) (e : Int) : (s.absorb d r e).2.links = s.links := by
  unfold State.absorb
  dsimp only
  split
  · split <;> simp
  · rfl

@[simp] theorem State.filter_links (d : Fin 8) (e : Int) : (s.filter d e).links = s.links := by
  have h (p : State → Ptp) (hd : ∀ (u : State) (f : Dpll → Dpll), p (u.dpllMod d f) = p u)
      (hc : ∀ (u : State) (i n : Nat), p (u.count i n) = p u) : p (s.filter d e) = p s := by
    simp only [State.filter, apply_ite p, hd, hc, ite_self]
  exact h State.links (fun _ _ => rfl) fun _ _ _ => rfl

@[simp] theorem State.judgeLock_links (d : Fin 8) (e : Int) : (s.judgeLock d e).links = s.links := by
  simp [State.judgeLock, apply_ite State.links]

@[simp] theorem State.update_links (d : Fin 8) (k : Nat) (ph : Int) : (s.update d r k ph).links = s.links := by
  simp [State.update, State.takeBw, apply_ite State.links]

@[simp] theorem State.ended_links (d : Fin 8) (n : Nat) : (s.ended d n).links = s.links := by
  unfold State.ended
  dsimp only
  split <;> simp [apply_ite State.links]

@[simp] theorem State.settling_links (d : Fin 8) : (s.settling d).links = s.links := by
  simp [State.settling, apply_ite State.links]

@[simp] theorem State.feed_links (k : Nat) (ph : Int) : (s.feed r k ph).links = s.links :=
  forFin_keep _ _ _ State.links fun d u => by simp [State.feedOne, apply_ite State.links]

@[simp] theorem refPhase_links (k : Nat) (ph : Int) : (refPhase r k ph s).links = s.links := by
  simp [refPhase, apply_ite State.links]

@[simp] theorem refTick_links (k : Nat) : (refTick r k s).links = s.links := by
  simp [refTick, refGained, apply_ite State.links]

@[simp] theorem refFreqSample_links (k : Nat) (tau : Int) : (refFreqSample r k tau s).links = s.links := by
  unfold refFreqSample
  split
  · simp [apply_ite State.links]
  · rfl

@[simp] theorem refSample_links (k : Nat) (ph : Int) : (refSample r k ph s).links = s.links := by
  simp [refSample, apply_ite State.links]

end

end

end Sys2Proof.Machine

/-!
SUPPORT. What the BMCA leaves of the PTP unit (R349): of a port it writes the state, the parent and the exchange with
it, and, with the peer-delay mechanism, no peer delay.
-/

namespace Sys2Proof.Machine

/-! ### A lane without what the BMCA and reception write -/

/-- A lane without the port's state, its parent, the exchange with it and its token bucket; `keep`: with its peer delay,
which is no parent's (R349, R352, R361). -/
def Lane.beyond (keep : Bool) (x : Lane) : Lane :=
  { x with
    pstate := 0, preAt := none, parentId := 0, parentPort := 0, annAt := 0, src := TimeSrc.init, timeAct := false,
    t1 := none, fu := none, parSync := none, syncAt := none, bucket := 0, bucketAt := 0,
    t3 := if keep then x.t3 else none, pdT4 := if keep then x.pdT4 else none,
    delayAt := if keep then x.delayAt else none, pd := if keep then x.pd else [] }

theorem Lane.noParent_beyond (keep : Bool) (x : Lane) : (x.noParent keep).beyond keep = x.beyond keep := by
  cases keep <;> rfl

theorem Lane.beyond_of_bare {x y : Lane} (keep : Bool) (h : x.bare = y.bare) : x.beyond keep = y.beyond keep :=
  (congrArg (Lane.beyond keep) h :)

/-- What the BMCA keeps of the unit and of one port. -/
def State.beyondPort (s : State) (l : Fin 48) : Ptp × Bool × Lane :=
  (s.ptp.sansLanes, s.peer l, (s.lane l).beyond (s.peer l))

/-- `p` follows neither what port `k` writes of itself in the BMCA nor the announced time properties. -/
structure PortKeeps {α : Type} (k : Fin 48) (p : State → α) : Prop where
  links : ∀ s u : State, u.links = s.links → p u = p s
  lane : ∀ (s : State) (f : Lane → Lane), (∀ x, (f x).beyond (s.peer k) = x.beyond (s.peer k)) →
    p (s.laneMod k f) = p s

theorem State.peer_of_links {s u : State} (h : u.links = s.links) (l : Fin 48) : u.peer l = s.peer l := by
  have hp : u.ptp.profile = s.ptp.profile := (congrArg Ptp.profile h :)
  have hl : (u.lane l).p2p = (s.lane l).p2p := (congrArg Lane.p2p (State.bare_of_links h l) :)
  rw [State.peer, hp, hl, State.peer]

theorem State.peer_laneMod (s : State) (k l : Fin 48) {f : Lane → Lane} (hf : (f (s.lane k)).p2p = (s.lane k).p2p) :
    (s.laneMod k f).peer l = s.peer l := by
  rw [State.peer, State.laneMod_keep s k f Lane.p2p hf l]
  rfl

theorem beyondPort_keeps (k l : Fin 48) : PortKeeps k fun s => s.beyondPort l where
  links s u h := by
    have hb := Lane.beyond_of_bare (s.peer l) (State.bare_of_links h l)
    simp only [State.beyondPort, State.sansLanes_of_links h, State.peer_of_links h, hb]
  lane s f hf := by
    have hp := State.peer_laneMod s k l (f := f) (congrArg Lane.p2p (hf (s.lane k)) :)
    have hb : ((s.laneMod k f).lane l).beyond (s.peer l) = (s.lane l).beyond (s.peer l) := by
      by_cases hl : l = k
      · subst hl
        rw [State.lane_laneMod_same, hf]
      · rw [State.lane_laneMod_ne s k f hl]
    simp only [State.beyondPort, State.laneMod_sansLanes, hp, hb]

theorem otherLane_keeps {k l : Fin 48} (h : l ≠ k) : PortKeeps k fun s => (s.lane l).bare where
  links _ _ hu := State.bare_of_links hu l
  lane s f _ := by rw [State.lane_laneMod_ne s k f h]

/-! ### The operations of the BMCA (R349, R353) -/

namespace PortKeeps
variable {α : Type} {k : Fin 48} {p : State → α} (h : PortKeeps k p)
include h

theorem chime (s : State) (b : Nat) : p (s.chime b) = p s := h.links _ _ rfl

theorem setPort (s : State) (n : Nat) : p (s.setPort k n) = p s := by
  unfold State.setPort
  split
  · rfl
  · exact (h.chime _ _).trans (h.lane s _ fun _ => rfl)

theorem timeActOff (s : State) : p (s.timeActOff k) = p s :=
  ite_keep p _ _ s ((h.links _ _ (refCond_links _ _)).trans (h.lane s _ fun _ => rfl))

end PortKeeps

theorem State.timeActOff_peer (s : State) (k l : Fin 48) : (s.timeActOff k).peer l = s.peer l :=
  (congrArg (·.2.1) ((beyondPort_keeps k l).timeActOff s) :)

namespace PortKeeps
variable {α : Type} {k : Fin 48} {p : State → α} (h : PortKeeps k p)
include h

/-- Time activity ends and the parent is forgotten; `g` is what else is written of the port. -/
theorem forget (s : State) {g : Lane → Lane} (hg : ∀ x, (g x).beyond (s.peer k) = x.beyond (s.peer k)) :
    p ((s.timeActOff k).laneMod k g) = p s := by
  rw [h.lane _ g (by rwa [State.timeActOff_peer]), h.timeActOff]

theorem leaveSlave (s : State) : p (s.leaveSlave k) = p s := by
  unfold State.leaveSlave
  split
  · exact h.forget s fun x => x.noParent_beyond (s.peer k)
  · rfl

theorem toSlave (s : State) (m : DataSet) : p (s.toSlave k m) = p s := by
  unfold State.toSlave
  dsimp only
  split
  · rfl
  · rw [h.setPort]
    exact h.forget s fun x => x.noParent_beyond (s.peer k)

theorem toMaster (s : State) (n : Nat) : p (s.toMaster k n) = p s := by
  have hs := h.setPort s
  have hl (u : State) (a : Option Nat) : p (u.laneMod k fun x => { x with preAt := a }) = p u := h.lane u _ fun _ => rfl
  simp only [State.toMaster, apply_ite p, hl, hs, ite_self]

theorem bmcaOne (s : State) (d0 : DataSet × Bool) (eb : Option DataSet) : p (s.bmcaOne d0 eb k) = p s := by
  unfold State.bmcaOne
  dsimp only
  (repeat' split) <;> simp only [h.toMaster, h.toSlave, h.leaveSlave, h.setPort]

end PortKeeps

theorem PortKeeps.bmcaAll {α : Type} {p : State → α} (h : ∀ k, PortKeeps k p) (s : State) : p (bmcaAll s) = p s := by
  unfold Machine.bmcaAll
  split
  · rfl
  · rw [(h 0).links _ _ (utcUpdate_links _)]
    exact forFin_keep _ _ _ p fun l s => (h l).bmcaOne s _ _

theorem PortKeeps.promote {α : Type} {p : State → α} (h : ∀ k, PortKeeps k p) (s : State) (l : Fin 48) :
    p (s.promote l) = p s := by
  have hb (u : State) : p (if (u.lane l).preAt.isNone then Machine.bmcaAll u else u) = p u :=
    ite_keep p _ _ u (PortKeeps.bmcaAll h u)
  unfold State.promote
  dsimp only
  split
  · rfl
  · split
    · exact (ite_keep p _ _ _ ((h l).setPort _ 6)).trans (hb s)
    · exact hb s

theorem bmcaAll_beyondPort (s : State) (l : Fin 48) : (bmcaAll s).beyondPort l = s.beyondPort l :=
  PortKeeps.bmcaAll (fun k => beyondPort_keeps k l) s

theorem State.promote_beyondPort (s : State) (k l : Fin 48) : (s.promote k).beyondPort l = s.beyondPort l :=
  PortKeeps.promote (fun k => beyondPort_keeps k l) s k

theorem State.promote_of_state {s : State} {l : Fin 48} (h : (s.lane l).pstate ≠ 5) : s.promote l = s := if_pos h

theorem beyondPort_parts {s u : State} {l : Fin 48} (h : u.beyondPort l = s.beyondPort l) :
    u.ptp.sansLanes = s.ptp.sansLanes ∧ u.peer l = s.peer l ∧
      (u.lane l).beyond (s.peer l) = (s.lane l).beyond (s.peer l) := by
  simp only [State.beyondPort, Prod.mk.injEq] at h
  obtain ⟨hs, hp, hl⟩ := h
  rw [hp] at hl
  exact ⟨hs, hp, hl⟩

end Sys2Proof.Machine

/-!
SUPPORT. Reception (R361): what a message that passes the defences has changed when its own meaning acts.
-/

namespace Sys2Proof.Machine

theorem nowTime_of_clock {s u : State} (h : u.time.clock = s.time.clock) (e : Stamp) : u.nowTime e = s.nowTime e := by
  have hs : u.time.stepSeq = s.time.stepSeq := (congrArg Time.stepSeq h :)
  have hk : u.time.stepK = s.time.stepK := (congrArg Time.stepK h :)
  have hl : u.time.stepLast = s.time.stepLast := (congrArg Time.stepLast h :)
  rw [State.nowTime, hs, hk, hl, State.nowTime]

theorem now_of_clock {s u : State} (h : u.time.clock = s.time.clock) : u.now = s.now := (congrArg Time.now h :)

theorem SelectionKeeps.promote {α : Type} {p : State → α} (h : SelectionKeeps p) (s : State) (l : Fin 48) :
    p (s.promote l) = p s := by
  have hb (u : State) : p (if (u.lane l).preAt.isNone then Machine.bmcaAll u else u) = p u :=
    ite_keep p _ _ u (h.bmcaAll u)
  unfold State.promote
  dsimp only
  split
  · rfl
  · split
    · exact (ite_keep p _ _ _ (h.setPort _ l 6)).trans (hb s)
    · exact hb s

/-- The message of lane `l` has taken a token and is counted (R361). -/
def State.tookToken (s : State) (l : Fin 48) (n a : Nat) : State :=
  (s.laneMod l fun x => { x with bucket := n, bucketAt := a }).laneCount l 0

theorem State.tookToken_beyondPort (s : State) (l k : Fin 48) (n a : Nat) :
    (s.tookToken l n a).beyondPort k = s.beyondPort k :=
  (beyondPort_keeps l k).lane s _ fun _ => rfl

theorem Lane.refill_eq (now : Nat) (x : Lane) : ∃ n a, x.refill now = { x with bucket := n, bucketAt := a } := by
  unfold Lane.refill
  dsimp only
  (repeat' split) <;> exact ⟨_, _, rfl⟩

theorem receive_tookToken {s r : State} {l : Fin 48} {h : MsgHdr} (hr : s.receive l h = (r, true)) :
    ∃ n a, r = s.tookToken l n a := by
  obtain ⟨n, a, hn⟩ := (s.lane l).refill_eq s.now
  refine ⟨n - 1, a, ?_⟩
  have hu : (s.laneMod l (Lane.refill s.now)).laneMod l (fun x => { x with bucket := x.bucket - 1 }) =
      s.laneMod l fun x => { x with bucket := n - 1, bucketAt := a } := by
    rw [State.laneMod_laneMod]
    exact State.laneMod_congr s l _ (by rw [hn])
  simp only [State.receive, hu] at hr
  (repeat' split at hr) <;> simp only [Prod.mk.injEq, reduceCtorEq, and_false, and_true] at hr
  exact hr.symm

theorem rxWith_taken {s r : State} {t : Nat} {l : Fin 48} {h : MsgHdr}
    (hr : ((s.advance t).promote l).receive l h = (r, true)) (f : State → State) : rxWith t l h f s = done (f r) := by
  rw [rxWith, hr]

section
variable {s r : State} {t : Nat} {l : Fin 48} {h : MsgHdr} (hr : ((s.advance t).promote l).receive l h = (r, true))
include hr

/-- A port that is not PRE_MASTER meets the message in the state it has. -/
theorem received_settled (hs : (s.lane l).pstate ≠ 5) : ∃ n a, r = (s.advance t).tookToken l n a := by
  rw [State.promote_of_state (by rwa [State.advance_lane])] at hr
  exact receive_tookToken hr

theorem received_beyondPort (k : Fin 48) : r.beyondPort k = s.beyondPort k := by
  obtain ⟨n, a, rfl⟩ := receive_tookToken hr
  rw [State.tookToken_beyondPort, State.promote_beyondPort]
  simp only [State.beyondPort, State.advance_ptp, State.advance_lane, State.peer]

theorem received_clock : r.time.clock = (s.advance t).time.clock := by
  obtain ⟨n, a, rfl⟩ := receive_tookToken hr
  obtain ⟨hc, -, -⟩ := besideSelection_parts (besideSelection_keeps.promote (s.advance t) l)
  exact hc

theorem received_now : r.now = (s.advance t).now := now_of_clock (received_clock hr)

theorem received_mt : r.mt = (s.advance t).mt := mt_of_clock (received_clock hr)

theorem received_nowTime (e : Stamp) : r.nowTime e = s.nowTime e := by
  rw [nowTime_of_clock (received_clock hr)]
  simp [State.nowTime]

end

end Sys2Proof.Machine

/-!
SUPPORT. Samples and what leaves a port: an offset and a path-delay sample leave the port's exchange as it is (R352), and
what a lane sends is what it was given (R354).
-/

namespace Sys2Proof.Machine

/-! ### Samples (R352, R353) -/

/-- The instants of a port's exchange with its parent or its peer (R352). -/
def Lane.exchange (x : Lane) : Option Int × Int × Option Stamp × Option Int × Option Int := (x.t1, x.t2, x.fu, x.t3, x.pdT4)

section
variable (s : State) (l : Fin 48)

theorem exchange_of_links {u : State} (h : u.links = s.links) : (u.lane l).exchange = (s.lane l).exchange :=
  (congrArg Lane.exchange (State.bare_of_links h l) :)

theorem exchange_laneMod {f : Lane → Lane} (hf : ∀ x, (f x).exchange = x.exchange) :
    ((s.laneMod l f).lane l).exchange = (s.lane l).exchange := by rw [State.lane_laneMod_same, hf]

theorem setPort_exchange (n : Nat) : ((s.setPort l n).lane l).exchange = (s.lane l).exchange := by
  unfold State.setPort
  split
  · rfl
  · exact exchange_laneMod s l fun _ => rfl

theorem timeActOff_exchange : ((s.timeActOff l).lane l).exchange = (s.lane l).exchange := by
  unfold State.timeActOff
  split
  · exact (exchange_of_links _ l (refCond_links ..)).trans (exchange_laneMod s l fun _ => rfl)
  · rfl

theorem judgeAct_exchange : ((s.judgeAct l).lane l).exchange = (s.lane l).exchange := by
  unfold State.judgeAct
  split
  · split
    · rfl
    · exact (exchange_of_links _ l (refCond_links ..)).trans (exchange_laneMod s l fun _ => rfl)
  · exact timeActOff_exchange s l

theorem accBound_links (n : Nat) : (s.accBound n).2.links = s.links := by
  unfold State.accBound
  split
  · rfl
  · split
    · rfl
    · split
      · rfl
      · exact s.draw_links

theorem teRefUpd_exchange : ((s.teRefUpd l).lane l).exchange = (s.lane l).exchange := by
  unfold State.teRefUpd
  split
  · rfl
  · dsimp only
    rw [State.lane_laneMod_same]
    exact exchange_of_links s l (accBound_links s _)

theorem delaySample_exchange (v : Int) : ((s.delaySample l v).lane l).exchange = (s.lane l).exchange := by
  unfold State.delaySample
  split
  · rfl
  · rw [judgeAct_exchange, teRefUpd_exchange]
    exact exchange_laneMod s l fun _ => rfl

theorem offsetSample_exchange (t1 : Int) (x : Stamp) :
    ((s.offsetSample l t1 x).lane l).exchange = (s.lane l).exchange := by
  have hr (u : State) (c : Prop) [Decidable c] (o : Int) :
      ((if c then refSample (linkRef l) x.edge o u else u).lane l).exchange = (u.lane l).exchange :=
    ite_keep (fun u => (u.lane l).exchange) _ _ u (exchange_of_links u l (refSample_links ..))
  have hp (u : State) : ((if (u.lane l).pstate = 8 then u.setPort l 9 else u).lane l).exchange = (u.lane l).exchange :=
    ite_keep (fun u => (u.lane l).exchange) _ _ u (setPort_exchange u l 9)
  unfold State.offsetSample
  split
  · rfl
  · rw [hr, judgeAct_exchange, hp]
    exact exchange_laneMod s l fun _ => rfl

end

theorem Lane.exchange_eq {x y : Lane} :
    x.exchange = y.exchange ↔ x.t1 = y.t1 ∧ x.t2 = y.t2 ∧ x.fu = y.fu ∧ x.t3 = y.t3 ∧ x.pdT4 = y.pdT4 := by
  simp only [Lane.exchange, Prod.mk.injEq]

/-! ### What leaves a lane (R354, R364) -/

section
variable (s : State) (l : Fin 48) (dest : Option Nat) (ms : List TxMsg)

/-- A projection that reads no counter does not see what is counted of messages sent (R377). -/
theorem countTxs_keep {α : Type} {p : State → α} (h : ∀ (s : State) (i n : Nat), p (s.count i n) = p s) :
    p (ms.foldl (fun s _ => s.countTx l) s) = p s :=
  foldl_keep _ p (fun s _ => (ite_keep p _ _ _ (h _ _ 1)).trans (h s _ 1)) ms s

theorem countTxs_lane (k : Fin 48) : (ms.foldl (fun s _ => s.countTx l) s).lane k = s.lane k :=
  countTxs_keep (p := fun s => s.lane k) s l ms fun _ _ _ => rfl

@[simp] theorem State.send_lane :
    (s.send l dest ms).lane l = { s.lane l with sent := ms.map (s.ptpFrame l dest) } := by
  rw [State.send, State.lane_laneMod_same, countTxs_lane]

theorem State.send_lane_ne {k : Fin 48} (h : k ≠ l) : (s.send l dest ms).lane k = s.lane k := by
  rw [State.send, State.lane_laneMod_ne _ l _ h, countTxs_lane]

theorem State.send_msgs : ((s.send l dest ms).lane l).sent.map (·.msg) = ms := by
  rw [State.send_lane, List.map_map]
  exact List.map_id ms

@[simp] theorem State.send_sansLanes : (s.send l dest ms).ptp.sansLanes = s.ptp.sansLanes := by
  rw [State.send, State.laneMod_sansLanes, countTxs_keep (p := State.ptp) s l ms fun _ _ _ => rfl]

@[simp] theorem State.send_clients : (s.send l dest ms).ptp.clients = s.ptp.clients :=
  (congrArg Ptp.clients (s.send_sansLanes l dest ms) :)

/-- A Signaling message takes the port's next sequence number (R354). -/
theorem State.signal_seqSig (a : Nat) (f : Nat → TxMsg) : ((s.signal l a f).lane l).seqSig = seqNext (s.lane l).seqSig := by
  rw [State.signal, State.lane_laneMod_same, State.send_lane]

theorem State.signal_msgs (a : Nat) (f : Nat → TxMsg) :
    ((s.signal l a f).lane l).sent.map (·.msg) = [f (s.lane l).seqSig] := by
  rw [State.signal, State.lane_laneMod_same]
  exact s.send_msgs l _ _

theorem State.signal_clients (a : Nat) (f : Nat → TxMsg) : (s.signal l a f).ptp.clients = s.ptp.clients :=
  s.send_clients l (some a) [f (s.lane l).seqSig]

end

end Sys2Proof.Machine

/-!
SETTLING SyncAndDelayMessages (O51).
-/

namespace Sys2Proof.Machine

@[simp] theorem State.tookToken_lane (s : State) (l : Fin 48) (n a : Nat) :
    (s.tookToken l n a).lane l = { s.lane l with bucket := n, bucketAt := a } :=
  State.lane_laneMod_same s l _

theorem State.tookToken_lane_ne (s : State) (l : Fin 48) (n a : Nat) {k : Fin 48} (h : k ≠ l) :
    (s.tookToken l n a).lane k = s.lane k :=
  State.lane_laneMod_ne s l _ h

theorem evAt_of_evs {s u : State} {l : Fin 48} (h : (u.lane l).evs = (s.lane l).evs) (k : Nat) : u.evAt l k = s.evAt l k := by
  rw [State.evAt, h, State.evAt]

section
variable (s : State) (l : Fin 48) (k : Nat)

/-- A message's stamp is taken (R162). -/
theorem State.evDone_lane :
    (s.evDone l k).lane l = { s.lane l with evs := (s.lane l).evs.filter fun e => decide (k < e.latch) } :=
  State.lane_laneMod_same s l _

theorem State.evDone_lane_ne {j : Fin 48} (h : j ≠ l) : (s.evDone l k).lane j = s.lane j := State.lane_laneMod_ne s l _ h

theorem State.evDone_peer : (s.evDone l k).peer l = s.peer l := State.peer_laneMod s l l rfl

theorem State.evDone_suspended : (s.evDone l k).suspended l = s.suspended l := by
  rw [State.suspended, State.portQuiet, State.evDone_lane]
  rfl

theorem State.evDone_answers (h : MsgHdr) (id port : Nat) : (s.evDone l k).answers l h id port = s.answers l h id port := by
  rw [State.answers, State.evDone_lane]
  rfl

end

theorem Lane.state_of_fromParent {x : Lane} {h : MsgHdr} (hf : x.fromParent h = true) : x.pstate ≠ 5 := by
  intro h5
  simp [Lane.fromParent, h5] at hf

section
variable {s r : State} {t : Nat} {l : Fin 48} {h : MsgHdr} {e : Stamp}
  (hr : ((s.advance t).promote l).receive l h = (r, true))
include hr

theorem received_lane : (r.lane l).beyond (s.peer l) = (s.lane l).beyond (s.peer l) := by
  obtain ⟨-, -, hl⟩ := beyondPort_parts (received_beyondPort hr l)
  exact hl

theorem received_evAt (k : Nat) : r.evAt l k = s.evAt l k := evAt_of_evs (congrArg Lane.evs (received_lane hr) :) k

/-! ### The parent's Sync and its Follow_Up -/

section
variable (hf : (s.lane l).fromParent h = true)
include hf

/-- A port with a parent meets its messages as it is, but for the token taken. -/
theorem received_ofParent : ∃ n a, r.lane l = { s.lane l with bucket := n, bucketAt := a } := by
  obtain ⟨n, a, rfl⟩ := received_settled hr (Lane.state_of_fromParent hf)
  exact ⟨n, a, by rw [State.tookToken_lane, State.advance_lane]⟩

theorem received_fromParent : (r.lane l).fromParent h = true := by
  obtain ⟨n, a, hl⟩ := received_ofParent hr hf
  rw [hl]
  exact hf

theorem parentMsg_taken {k : GrantKind} (hu : r.unsolicited l h k = false) (f : State → State) :
    r.parentMsg l h k f = f r := by
  simp [State.parentMsg, hu, received_fromParent hr hf]

end

end

/-- The state in which a parent's Sync acts, its interval noted and its stamp taken. -/
def syncMet (l : Fin 48) (h : MsgHdr) (r : State) : State :=
  (if h.logInt.isSome then r.laneMod l fun x => { x with parSync := h.logInt } else r).evDone l h.rx

/-- A two-step Sync waits with its stamp for its Follow_Up (R352). -/
def Lane.awaits (h : MsgHdr) (e : Stamp) (x : Lane) : Lane := { x with fu := some e, syncSeq := h.seq, syncCorr := h.corr }

/-- A Sync is complete: T1 with its corrections, and T2 (R352). -/
def Lane.synced (t1 t2 : Int) (x : Lane) : Lane := { x with t1 := some t1, t2 := t2, fu := none }

theorem synced_offsetSample (s : State) (l : Fin 48) (t1 t2 : Int) (e : Stamp) :
    let x := ((s.laneMod l (Lane.synced t1 t2)).offsetSample l t1 e).lane l
    x.t1 = some t1 ∧ x.t2 = t2 ∧ x.fu = none := by
  obtain ⟨h1, h2, hfu, -, -⟩ := Lane.exchange_eq.1 (offsetSample_exchange (s.laneMod l (Lane.synced t1 t2)) l t1 e)
  rw [State.lane_laneMod_same] at h1 h2 hfu
  exact ⟨h1, h2, hfu⟩

theorem syncMet_offset (r : State) (l : Fin 48) (h : MsgHdr) : ((syncMet l h r).lane l).offset = (r.lane l).offset := by
  unfold syncMet State.evDone
  rw [State.lane_laneMod_same]
  exact ite_keep (fun u => (u.lane l).offset) _ _ r (by rw [State.lane_laneMod_same])

theorem syncMet_nowTime (r : State) (l : Fin 48) (h : MsgHdr) (e : Stamp) : (syncMet l h r).nowTime e = r.nowTime e := by
  unfold syncMet State.evDone
  split <;> rfl

theorem execRxSync_eq (s : State) (t origin : Nat) (l : Fin 48) (h : MsgHdr) (b : Bool) :
    execRxSync t l h b origin s = rxWith t l h (fun r => r.parentMsg l h .sync fun r =>
      match r.evAt l h.rx with
      | none => syncMet l h r
      | some e =>
        if e.invalid then syncMet l h r
        else if b then (syncMet l h r).laneMod l (Lane.awaits h e)
        else ((syncMet l h r).laneMod l (Lane.synced (origin + h.corr) ((syncMet l h r).nowTime e))).offsetSample l
          (origin + h.corr) e) s := by
  have hev (r : State) : (if h.logInt.isSome then r.laneMod l fun x => { x with parSync := h.logInt } else r).evAt l h.rx =
      r.evAt l h.rx := ite_keep (fun u => u.evAt l h.rx) _ _ r (evAt_of_evs (by rw [State.lane_laneMod_same]) _)
  simp only [execRxSync, hev]
  rfl

section
variable {s r : State} {t origin : Nat} {l : Fin 48} {h : MsgHdr} {e : Stamp}
  (hr : ((s.advance t).promote l).receive l h = (r, true)) (hu : r.unsolicited l h .sync = false)
  (hf : (s.lane l).fromParent h = true)
include hr hu hf

theorem completes_rxSync {b : Bool} (he : s.evAt l h.rx = some e) (hi : e.invalid = false) {P : State → Prop}
    (hP : P (if b then (syncMet l h r).laneMod l (Lane.awaits h e)
      else ((syncMet l h r).laneMod l (Lane.synced (origin + h.corr) (s.nowTime e))).offsetSample l (origin + h.corr) e).commit) :
    Completes (exec (.rxSync t l h b origin) s) P := by
  show Completes (execRxSync t l h b origin s) P
  rw [execRxSync_eq, rxWith_taken hr, parentMsg_taken hr hf hu, received_evAt hr, he, completes_done]
  simpa [hi, syncMet_nowTime, received_nowTime hr] using hP

theorem rxSync_oneStep (he : s.evAt l h.rx = some e) (hi : e.invalid = false) :
    Completes (exec (.rxSync t l h false origin) s) fun u =>
      (u.lane l).t1 = some (origin + h.corr) ∧ (u.lane l).t2 = s.nowTime e ∧ (u.lane l).fu = none := by
  refine completes_rxSync hr hu hf he hi ?_
  rw [State.commit_lane]
  exact synced_offsetSample ..

theorem rxSync_twoStep (he : s.evAt l h.rx = some e) (hi : e.invalid = false) :
    Completes (exec (.rxSync t l h true origin) s) fun u =>
      (u.lane l).fu = some e ∧ (u.lane l).syncSeq = h.seq ∧ (u.lane l).syncCorr = h.corr ∧
      (u.lane l).offset = (s.lane l).offset := by
  refine completes_rxSync hr hu hf he hi ?_
  obtain ⟨n, a, hl⟩ := received_ofParent hr hf
  have ho := syncMet_offset r l h
  rw [hl] at ho
  rw [if_pos rfl, State.commit_lane, State.lane_laneMod_same]
  exact ⟨rfl, rfl, rfl, ho⟩

theorem rxFollowUp_exchange (he : (s.lane l).fu = some e) (hq : (s.lane l).syncSeq = h.seq) :
    Completes (exec (.rxFollowUp t l h origin) s) fun u =>
      (u.lane l).t1 = some (origin + h.corr + (s.lane l).syncCorr) ∧ (u.lane l).t2 = s.nowTime e ∧ (u.lane l).fu = none := by
  obtain ⟨n, a, hl⟩ := received_ofParent hr hf
  have hn := received_nowTime hr e
  show Completes (execRxFollowUp t l h origin s) _
  rw [execRxFollowUp, rxWith_taken hr, parentMsg_taken hr hf hu, completes_done, State.commit_lane]
  simp only [hl, he, hq, if_pos, hn]
  exact synced_offsetSample ..

end

/-! ### Delay responses -/

section
variable {s r : State} {t id port : Nat} {l : Fin 48} {h : MsgHdr} {e : Stamp} {a b : Int}
  (hr : ((s.advance t).promote l).receive l h = (r, true))
include hr

theorem received_peer : r.peer l = s.peer l := by
  obtain ⟨-, hp, -⟩ := beyondPort_parts (received_beyondPort hr l)
  exact hp

theorem received_answers : r.answers l h id port = s.answers l h id port := by
  obtain ⟨hs, -, hl⟩ := beyondPort_parts (received_beyondPort hr l)
  have hc : r.ptp.clockId = s.ptp.clockId := (congrArg Ptp.clockId hs :)
  have hq : (r.lane l).reqSeq = (s.lane l).reqSeq := (congrArg Lane.reqSeq hl :)
  rw [State.answers, hc, hq, State.answers]

/-- The peer delay in hand outlives PRE_MASTER's end (R352). -/
theorem received_peerDelay (hp : s.peer l = true) : (r.lane l).t3 = (s.lane l).t3 ∧ (r.lane l).pdT4 = (s.lane l).pdT4 := by
  have hl := received_lane hr
  rw [hp] at hl
  exact ⟨(congrArg Lane.t3 hl :), (congrArg Lane.pdT4 hl :)⟩

theorem rxDelayResp_exchange {t4 : Nat} (hp : s.peer l = false) (hf : (s.lane l).fromParent h = true)
    (ha : s.answers l h id port = true) (h1 : (s.lane l).t1 = some a) (h3 : (s.lane l).t3 = some b) :
    Completes (exec (.rxDelayResp t l h t4 id port) s) fun u => (u.lane l).t3 = none ∧ (u.lane l).t1 = some a := by
  obtain ⟨m, k, hl⟩ := received_ofParent hr hf
  have hr1 : (r.lane l).t1 = some a := (congrArg Lane.t1 hl).trans h1
  have hr3 : (r.lane l).t3 = some b := (congrArg Lane.t3 hl).trans h3
  have hx (c : Bool) (u : State) (v : Int) : ((if c then u.delaySample l v else u).lane l).exchange = (u.lane l).exchange :=
    ite_keep (fun u => (u.lane l).exchange) _ _ u (delaySample_exchange u l v)
  show Completes (execRxDelayResp t l h t4 id port s) _
  rw [execRxDelayResp, rxWith_taken hr, completes_done, State.commit_lane]
  simp only [received_peer hr, hp, received_fromParent hr hf, received_answers hr, ha, hr1, hr3, Bool.not_true,
    Bool.or_self, Bool.false_eq_true, if_false]
  obtain ⟨e1, -, -, e3, -⟩ := Lane.exchange_eq.1 (hx _ _ _)
  rw [e1, e3, State.lane_laneMod_same]
  exact ⟨rfl, hr1⟩

theorem rxPdelayResp_waits {t2 : Nat} (hp : s.peer l = true) (ha : s.answers l h id port = true)
    (h3 : (s.lane l).t3 = some a) (he : s.evAt l h.rx = some e) (hi : e.invalid = false) :
    Completes (exec (.rxPdelayResp t l h true t2 id port) s) fun u =>
      (u.lane l).pdT4 = some (s.nowTime e) ∧ (u.lane l).pdT2 = (t2 : Int) - h.corr ∧ (u.lane l).t3 = some a := by
  obtain ⟨e3, -⟩ := received_peerDelay hr hp
  have hd : ((r.evDone l h.rx).lane l).t3 = some a := by rw [State.evDone_lane, e3, h3]
  have hn : (r.evDone l h.rx).nowTime e = s.nowTime e := received_nowTime hr e
  show Completes (execRxPdelayResp t l h true t2 id port s) _
  rw [execRxPdelayResp, rxWith_taken hr, completes_done, State.commit_lane]
  simp only [State.evDone_peer, received_peer hr, hp, State.evDone_answers, received_answers hr, ha, hd,
    received_evAt hr, he, hi, hn, Bool.not_true, Bool.or_self, Bool.false_eq_true, if_false, if_true]
  rw [State.lane_laneMod_same]
  exact ⟨rfl, rfl, hd⟩

theorem rxPdelayRespFollowUp_exchange {t3 : Nat} (hp : s.peer l = true) (ha : s.answers l h id port = true)
    (h3 : (s.lane l).t3 = some a) (h4 : (s.lane l).pdT4 = some b) :
    Completes (exec (.rxPdelayRespFollowUp t l h t3 id port) s) fun u => (u.lane l).t3 = none ∧ (u.lane l).pdT4 = none := by
  obtain ⟨e3, e4⟩ := received_peerDelay hr hp
  show Completes (execRxPdelayRespFollowUp t l h t3 id port s) _
  rw [execRxPdelayRespFollowUp, rxWith_taken hr, completes_done, State.commit_lane]
  simp only [received_peer hr, hp, received_answers hr, ha, e3, h3, e4, h4, Bool.not_true, Bool.or_self,
    Bool.false_eq_true, if_false]
  obtain ⟨-, -, -, n3, n4⟩ := Lane.exchange_eq.1 (delaySample_exchange _ l _)
  rw [n3, n4, State.lane_laneMod_same]
  exact ⟨rfl, rfl⟩

/-! ### Requests the port serves -/

theorem rxDelayReq_answered (hp : s.peer l = false) (hm : (s.lane l).pstate = 6) (hu : h.unicast = false)
    (hs : r.suspended l = false) (hc : r.ptp.clients = []) (he : s.evAt l h.rx = some e) (hi : e.invalid = false) :
    Completes (exec (.rxDelayReq t l h) s) fun u =>
      (u.lane l).sent.map (·.msg) = [.delayResp h.seq e.time (h.corr - (s.lane l).asym) h.id h.port] ∧
      ∀ k, k ≠ l → u.lane k = s.lane k := by
  obtain ⟨n, m, hq⟩ := received_settled hr (by rw [hm]; decide)
  have hl : r.lane l = { s.lane l with bucket := n, bucketAt := m } := by rw [hq, State.tookToken_lane, State.advance_lane]
  have hrm : ((r.evDone l h.rx).lane l).pstate = 6 := by rw [State.evDone_lane, hl, ← hm]
  have hra : ((r.evDone l h.rx).lane l).asym = (s.lane l).asym := by rw [State.evDone_lane, hl]
  have hcr : (r.evDone l h.rx).clientReq l h = (r.evDone l h.rx, true) := by
    rw [State.clientReq, show (r.evDone l h.rx).ptp.clients = [] from hc]
    rfl
  show Completes (execRxDelayReq t l h s) _
  rw [execRxDelayReq, rxWith_taken hr, completes_done]
  simp only [hu, State.evDone_peer, received_peer hr, hp, hrm, State.evDone_suspended, hs, hcr, hra, received_evAt hr, he,
    hi, Bool.false_and, Bool.false_eq_true, if_false, ne_eq, not_true_eq_false, decide_false, Bool.or_self,
    State.commit_lane, State.send_msgs, true_and]
  intro k hk
  rw [State.send_lane_ne _ _ _ _ hk, State.evDone_lane_ne _ _ _ hk, hq, State.tookToken_lane_ne _ _ _ _ hk,
    State.advance_lane]

section
variable (hp : s.peer l = true) (hs : r.suspended l = false) (he : s.evAt l h.rx = some e) (hi : e.invalid = false)
include hp hs he hi

theorem rxPdelayReq_answered :
    Completes (exec (.rxPdelayReq t l h) s) fun u =>
      (u.lane l).sent.map (·.msg) =
        if (s.lane l).twoStep then
          [.pdelayResp h.seq true e.time 0 h.id h.port, .pdelayRespFollowUp h.seq r.mt h.corr h.id h.port]
        else [.pdelayResp h.seq false e.time (h.corr + ((r.mt : Int) - s.nowTime e)) h.id h.port] := by
  have h2 : ((r.evDone l h.rx).lane l).twoStep = (s.lane l).twoStep := by
    rw [State.evDone_lane]
    exact (congrArg Lane.twoStep (received_lane hr) :)
  have hn : (r.evDone l h.rx).nowTime e = s.nowTime e := received_nowTime hr e
  show Completes (execRxPdelayReq t l h s) _
  rw [execRxPdelayReq, rxWith_taken hr, completes_done, State.commit_lane]
  simp only [State.evDone_peer, received_peer hr, hp, State.evDone_suspended, hs, received_evAt hr, he, hi, h2, hn,
    Bool.not_true, Bool.false_eq_true, if_false]
  split <;> exact State.send_msgs ..

end

end

/-- Settles O51, a lemma for each kind of message. -/
theorem syncAndDelayMessages : Obligations.SyncAndDelayMessages :=
  ⟨fun _ _ _ _ _ _ _ hr hu hf he hi => rxSync_oneStep hr hu hf he hi,
    fun _ _ _ _ _ _ _ hr hu hf he hi => rxSync_twoStep hr hu hf he hi,
    fun _ _ _ _ _ _ _ hr hu hf he hq => rxFollowUp_exchange hr hu hf he hq,
    fun _ _ _ _ _ _ _ _ _ _ hr hp hf ha h1 h3 => rxDelayResp_exchange hr hp hf ha h1 h3,
    fun _ _ _ _ _ _ _ _ _ _ hr hp ha h3 he hi => rxPdelayResp_waits hr hp ha h3 he hi,
    fun _ _ _ _ _ _ _ _ _ _ hr hp ha h3 h4 => rxPdelayRespFollowUp_exchange hr hp ha h3 h4,
    fun _ _ _ _ _ _ hr hp hm hu hs hc he hi => rxDelayReq_answered hr hp hm hu hs hc he hi,
    fun _ _ _ _ _ _ hr hp hs h2 he hi => by
      simpa only [h2, Bool.false_eq_true, if_false] using rxPdelayReq_answered hr hp hs he hi,
    fun _ _ _ _ _ _ hr hp hs h2 he hi => by simpa only [h2, if_true] using rxPdelayReq_answered hr hp hs he hi⟩

end Sys2Proof.Machine

/-!
SETTLING AnnounceMessages (O52).
-/

namespace Sys2Proof.Machine

/-! ### Announce received (R349, R361) -/

/-- A property that each step of a sweep keeps holds after it. -/
theorem forFin_inv {n : Nat} {f : Fin n → State → State} {P : State → Prop} (hf : ∀ i s, P s → P (f i s)) {s : State}
    (h : P s) : P (forFin n f s) :=
  List.foldlRecOn _ _ h fun s hs i _ => hf i s hs

theorem foreign_of_beyondPort {s u : State} {l : Fin 48} (h : u.beyondPort l = s.beyondPort l) :
    (u.lane l).foreign = (s.lane l).foreign := by
  obtain ⟨-, -, hl⟩ := beyondPort_parts h
  exact (congrArg Lane.foreign hl :)

theorem foreign_of_links {s u : State} {l : Fin 48} (h : u.links = s.links) : (u.lane l).foreign = (s.lane l).foreign :=
  (congrArg Lane.foreign (State.bare_of_links h l) :)

theorem teRefUpd_foreign (s : State) (l : Fin 48) : ((s.teRefUpd l).lane l).foreign = (s.lane l).foreign := by
  unfold State.teRefUpd
  split
  · rfl
  · dsimp only
    rw [State.lane_laneMod_same]
    exact foreign_of_links (accBound_links s _)

/-- The parent's Announce is taken and the BMCA judges: the table of foreign masters stays. -/
theorem announced_foreign (u : State) (l : Fin 48) (b : Bool) (f : Lane → Lane) (hf : ∀ x, (f x).foreign = x.foreign) :
    ((bmcaAll (if b then (u.laneMod l f).teRefUpd l else u)).lane l).foreign = (u.lane l).foreign := by
  rw [foreign_of_beyondPort (bmcaAll_beyondPort _ l)]
  refine ite_keep (fun u => (u.lane l).foreign) _ _ u ?_
  rw [teRefUpd_foreign, State.lane_laneMod_same, hf]

section
variable {s r : State} {t : Nat} {l : Fin 48} {h : MsgHdr} {a : AnnData}
  (hr : ((s.advance t).promote l).receive l h = (r, true))
include hr

theorem received_clockId : r.ptp.clockId = s.ptp.clockId := by
  obtain ⟨hs, -, -⟩ := beyondPort_parts (received_beyondPort hr l)
  exact (congrArg Ptp.clockId hs :)

theorem rxAnnounce_own (hc : h.id = s.ptp.clockId) :
    Completes (exec (.rxAnnounce t l h a) s) fun u =>
      (u.lane l).foreign = (s.lane l).foreign ∧ ((s.lane l).pstate ≠ 5 → (u.lane l).pstate = (s.lane l).pstate) := by
  show Completes (execRxAnnounce t l h a s) _
  rw [execRxAnnounce, rxWith_taken hr, completes_done, if_pos (hc.trans (received_clockId hr).symm), State.commit_lane,
    State.laneCount_lane]
  refine ⟨foreign_of_beyondPort (received_beyondPort hr l), fun h5 => ?_⟩
  obtain ⟨n, m, rfl⟩ := received_settled hr h5
  rw [State.tookToken_lane, State.advance_lane]

theorem rxAnnounce_first (hc : h.id ≠ s.ptp.clockId) (ha : (s.lane l).acceptN = 0) (hu : h.unicast = false)
    (hm : (s.lane l).role ≠ 2) (hf : (s.lane l).foreign = []) (hn : 0 < (s.lane l).fmMax) :
    Completes (exec (.rxAnnounce t l h a) s) fun u => (u.lane l).foreign = [foreignOf h a (s.advance t).now 1] := by
  have hl := received_lane hr
  have hra : (r.lane l).acceptN = 0 := (congrArg Lane.acceptN hl).trans ha
  have hrm : (r.lane l).role ≠ 2 := fun h2 => hm ((congrArg Lane.role hl).symm.trans h2)
  have hrf : (r.lane l).foreign = [] := (congrArg Lane.foreign hl).trans hf
  have hrx : (r.lane l).fmMax = (s.lane l).fmMax := (congrArg Lane.fmMax hl :)
  have hrn : ¬(r.lane l).fmMax ≤ 0 := by rw [hrx]; exact Nat.not_le.2 hn
  have hp : r.foreignPut l h a =
      (r.laneMod l fun x => { x with foreign := x.foreign ++ [foreignOf h a r.now 1] }, true) := by
    simp [State.foreignPut, hrf, hrn]
  show Completes (execRxAnnounce t l h a s) _
  rw [execRxAnnounce, rxWith_taken hr, completes_done, State.commit_lane]
  simp only [received_clockId hr, hc, hra, State.unsolicited, hu, hrm, hp, ne_eq, not_true_eq_false, false_and, if_false,
    Bool.false_and, Bool.false_eq_true]
  rw [announced_foreign, State.lane_laneMod_same, hrf, received_now hr]
  · rfl
  · exact fun _ => rfl

end

/-! ### What ages (R353, R361) -/

theorem foreignMasterAgeout_only {s : State} {t : Nat} {l : Fin 48} {f : Foreign} (hf : (s.lane l).foreign = [f])
    (hp : (s.advance t).past f.last (4 * logU s.ptp.annLog) = true) :
    Completes (exec (.foreignMasterAgeout t l f.id f.port) s) fun u => (u.lane l).foreign = [] := by
  show Completes (execForeignMasterAgeout t l f.id f.port s) _
  unfold execForeignMasterAgeout
  simp only [State.advance_lane, State.advance_ptp, hf, List.any_cons, hp, decide_true, and_self, Bool.and_self,
    Bool.true_or, if_true, completes_done, State.commit_lane]
  rw [foreign_of_beyondPort (bmcaAll_beyondPort _ l), State.lane_laneMod_same, State.advance_lane, hf]
  simp [hp]

theorem timeActOff_timeAct (s : State) (l : Fin 48) : ((s.timeActOff l).lane l).timeAct = false := by
  unfold State.timeActOff
  split
  · have hb := State.bare_of_links (refCond_links (s.laneMod l fun x => { x with timeAct := false }) (linkRef l)) l
    rw [State.lane_laneMod_same] at hb
    exact (congrArg Lane.timeAct hb :)
  next h => exact Bool.eq_false_iff.2 h

theorem timeActivityTimeout_ends {s : State} {t : Nat} {l : Fin 48} (ha : (s.lane l).timeAct = true)
    (hn : (s.advance t).timeActNow l = false) :
    Completes (exec (.timeActivityTimeout t l) s) fun u => (u.lane l).timeAct = false := by
  show Completes (execTimeActivityTimeout t l s) _
  unfold execTimeActivityTimeout
  simp only [State.advance_lane, ha, hn, Bool.not_false, Bool.and_self, if_true, completes_done, State.commit_lane]
  exact timeActOff_timeAct _ l

/-! ### announceReceiptTimeout (R349, R353) -/

theorem setPort_of_state {s : State} {l : Fin 48} {n : Nat} (h : (s.lane l).pstate = n) : s.setPort l n = s := if_pos h

theorem leaveSlave_of_state {s : State} {l : Fin 48} (h8 : (s.lane l).pstate ≠ 8) (h9 : (s.lane l).pstate ≠ 9) :
    s.leaveSlave l = s := if_neg (not_or.2 ⟨h8, h9⟩)

theorem setPort_bare (s : State) (l : Fin 48) (n : Nat) :
    ((s.setPort l n).lane l).bare = { (s.lane l).bare with pstate := n } := by
  unfold State.setPort
  split
  next h => rw [← h]; rfl
  · rw [State.chime_lane, State.lane_laneMod_same]
    rfl

/-- A port that the BMCA leaves as it is keeps its lane while the BMCA judges every port. -/
theorem bmcaAll_bare {s : State} {l : Fin 48} {x : Lane} (hx : (s.lane l).bare = x)
    (hl : ∀ (u : State) (d : DataSet × Bool) (eb : Option DataSet), (u.lane l).bare = x → u.bmcaOne d eb l = u) :
    ((bmcaAll s).lane l).bare = x := by
  unfold bmcaAll
  split
  · exact hx
  · rw [State.bare_of_links (utcUpdate_links _)]
    refine forFin_inv (P := fun u => (u.lane l).bare = x) (fun k u hu => ?_) hx
    by_cases hk : l = k
    · rw [← hk, hl u _ _ hu, hu]
    · exact ((otherLane_keeps hk).bmcaOne u _ _).trans hu

theorem portBest_none {u : State} {l : Fin 48} (h : (u.lane l).foreign = []) : u.portBest l = none := by
  simp [State.portBest, State.qualifiedMasters, h, bestOf]

/-- Without a foreign master a port that does not listen is recommended MASTER. -/
theorem decide3_master (own : Bool) (d0 : DataSet) (eb : Option DataSet) : ∃ n, decide3 own d0 eb none false = .master n := by
  unfold decide3
  simp only [Bool.false_eq_true, if_false]
  split
  · exact ⟨_, rfl⟩
  · unfold Recommend.beside
    split
    · split <;> exact ⟨_, rfl⟩
    · exact ⟨_, rfl⟩

theorem toMaster_of_master {u : State} {l : Fin 48} (n : Nat) (h : (u.lane l).pstate = 6) : u.toMaster l n = u := if_pos h

section
variable {u : State} {l : Fin 48} (d : DataSet × Bool) (eb : Option DataSet) (hf : (u.lane l).foreign = [])
include hf

theorem bmcaOne_listening (hs : (u.lane l).pstate = 4) (hr : (u.lane l).role = 3) : u.bmcaOne d eb l = u := by
  have h : (u.leaveSlave l).setPort l 4 = u := by
    rw [leaveSlave_of_state (by rw [hs]; decide) (by rw [hs]; decide), setPort_of_state hs]
  unfold State.bmcaOne
  simp only [hr, portBest_none hf, h, Nat.reduceEqDiff, if_false, if_true, ite_self]

theorem bmcaOne_master (hs : (u.lane l).pstate = 6) (hr : (u.lane l).role ≠ 3) : u.bmcaOne d eb l = u := by
  have hl := leaveSlave_of_state (s := u) (l := l) (by rw [hs]; decide) (by rw [hs]; decide)
  obtain ⟨n, hn⟩ := decide3_master d.2 d.1 eb
  unfold State.bmcaOne
  simp only [hr, portBest_none hf, hs, hl, hn, toMaster_of_master n hs, Nat.reduceEqDiff, decide_false, if_false, ite_self]

end

/-- The port that no Announce reaches: its parent's entry is dropped (R361). -/
def State.receiptOver (s : State) (l : Fin 48) : State :=
  (s.laneCount l 2).laneMod l fun y => { y with
    annAt := s.now,
    foreign := y.foreign.filter fun f => !decide (f.id = (s.lane l).parentId ∧ f.port = (s.lane l).parentPort) }

theorem State.advance_portUp (t : Nat) (s : State) (l : Fin 48) : (s.advance t).portUp l = s.portUp l := by
  simp [State.portUp, State.engineUp]

/-- A port that leaves SLAVE has no parent. -/
theorem leaveSlave_parentId {s : State} {l : Fin 48} (h : (s.lane l).pstate = 9) : ((s.leaveSlave l).lane l).parentId = 0 := by
  rw [State.leaveSlave, if_pos (.inr h), State.lane_laneMod_same]
  cases s.peer l <;> rfl

section
variable {s : State} {t : Nat} {l : Fin 48} (hu : s.portUp l = true) (hf : (s.lane l).foreign = [])
  (ht : (s.advance t).past (s.lane l).annAt (s.ptp.annTimeout * logU s.ptp.annLog) = true)
include hu ht

theorem receiptTimeout_eq (h : (s.lane l).pstate = 4 ∨ (s.lane l).pstate = 9) :
    exec (.announceReceiptTimeout t l) s =
      done (bmcaAll ((((s.advance t).receiptOver l).leaveSlave l).setPort l (if (s.lane l).role = 3 then 4 else 6))) := by
  have hs : (decide ((s.lane l).pstate = 4) || decide ((s.lane l).pstate = 7) || decide ((s.lane l).pstate = 8) ||
      decide ((s.lane l).pstate = 9)) = true := by
    rcases h with h | h <;> simp [h]
  show execAnnounceReceiptTimeout t l s = _
  unfold execAnnounceReceiptTimeout State.receiptOver
  simp only [State.advance_lane, State.advance_ptp, State.advance_portUp, hu, hs, ht, Bool.and_self, if_true]

include hf

omit hu ht in
theorem receiptOver_lane :
    ((s.advance t).receiptOver l).lane l = { s.lane l with annAt := (s.advance t).now, foreign := [] } := by
  rw [State.receiptOver, State.lane_laneMod_same, State.laneCount_lane, State.advance_lane, hf]
  rfl

theorem receiptTimeout_listening (hs : (s.lane l).pstate = 9) (hr : (s.lane l).role = 3) :
    Completes (exec (.announceReceiptTimeout t l) s) fun u => (u.lane l).pstate = 4 ∧ (u.lane l).parentId = 0 := by
  rw [receiptTimeout_eq hu ht (.inr hs), completes_done, if_pos hr]
  have ho := receiptOver_lane (t := t) hf
  obtain ⟨-, -, hk⟩ := beyondPort_parts ((beyondPort_keeps l l).leaveSlave ((s.advance t).receiptOver l))
  rw [ho] at hk
  have hkf : ((((s.advance t).receiptOver l).leaveSlave l).lane l).foreign = [] := (congrArg Lane.foreign hk :)
  have hkr : ((((s.advance t).receiptOver l).leaveSlave l).lane l).role = 3 := (congrArg Lane.role hk :).trans hr
  have hp := leaveSlave_parentId (s := (s.advance t).receiptOver l) (l := l) (by rw [ho, ← hs])
  generalize ((s.advance t).receiptOver l).leaveSlave l = v at hkf hkr hp ⊢
  have hx := bmcaAll_bare (setPort_bare v l 4) fun u d eb h => bmcaOne_listening d eb
    ((congrArg Lane.foreign h).trans hkf) (congrArg Lane.pstate h :) ((congrArg Lane.role h).trans hkr)
  rw [State.commit_lane]
  exact ⟨(congrArg Lane.pstate hx :), (congrArg Lane.parentId hx).trans hp⟩

theorem receiptTimeout_master (hs : (s.lane l).pstate = 4) (hr : (s.lane l).role ≠ 3) :
    Completes (exec (.announceReceiptTimeout t l) s) fun u => (u.lane l).pstate = 6 := by
  have ho := receiptOver_lane (t := t) hf
  have hb := setPort_bare ((s.advance t).receiptOver l) l 6
  rw [ho] at hb
  have hx := bmcaAll_bare hb fun u d eb h => bmcaOne_master d eb (congrArg Lane.foreign h :) (congrArg Lane.pstate h :)
    fun h3 => hr ((congrArg Lane.role h).symm.trans h3)
  rw [receiptTimeout_eq hu ht (.inl hs), completes_done, State.commit_lane, if_neg hr,
    leaveSlave_of_state (by rw [ho, hs]; decide) (by rw [ho, hs]; decide)]
  exact (congrArg Lane.pstate hx :)

end

/-- Settles O52, a lemma for each clause. -/
theorem announceMessages : Obligations.AnnounceMessages :=
  ⟨fun _ _ _ _ _ _ hr hc => rxAnnounce_own hr hc,
    fun _ _ _ _ _ _ hr hc ha hu hm hf hn => rxAnnounce_first hr hc ha hu hm hf hn,
    fun _ _ _ _ hf hp => foreignMasterAgeout_only hf hp,
    fun _ _ _ hu hs hr hf ht => receiptTimeout_listening hu hf ht hs hr,
    fun _ _ _ hu hs hr hf ht => receiptTimeout_master hu hf ht hs hr,
    fun _ _ _ ha hn => timeActivityTimeout_ends ha hn⟩

end Sys2Proof.Machine

/-!
SETTLING UnicastNegotiation (O53).
-/

namespace Sys2Proof.Machine

/-! ### Clients and their grants (R355, R356) -/

theorem Client.setGrant_grant (c : Client) (k : GrantKind) (g : Grant) : (c.setGrant k g).grant k = g := by
  cases k <;> rfl

theorem Client.setGrant_isOf (c : Client) (k : GrantKind) (g : Grant) (l : Fin 48) (h : MsgHdr) :
    (c.setGrant k g).isOf l h = c.isOf l h := by
  cases k <;> rfl

theorem Client.fresh_isOf (l : Fin 48) (s : State) (h : MsgHdr) : (Client.fresh l s h).isOf l h = true :=
  decide_eq_true ⟨rfl, rfl, rfl⟩

/-- A lane without the number that its next client takes (R373). -/
def Lane.unnumbered (x : Lane) : Lane := { x with nextNumber := 0 }

section
variable (s : State) (l j : Fin 48) (p : Client → Bool)

theorem clientMod_clients (f : Client → Client) :
    (s.clientMod l p f).ptp.clients = (s.ptp.clients.map fun c => if p c then f c else c).filter Client.any := by
  unfold State.clientMod
  dsimp only
  split <;> rfl

theorem clientMod_unnumbered (f : Client → Client) : ((s.clientMod l p f).lane j).unnumbered = (s.lane j).unnumbered := by
  unfold State.clientMod
  dsimp only
  split
  · rfl
  · exact State.laneMod_keep (s.onPtp _) l _ Lane.unnumbered rfl j

theorem clientMod_time (f : Client → Client) : (s.clientMod l p f).time = s.time := by
  unfold State.clientMod
  dsimp only
  split <;> rfl

theorem lapse_unnumbered (k : GrantKind) : ((s.lapse l p k).lane j).unnumbered = (s.lane j).unnumbered := by
  unfold State.lapse
  split
  · exact clientMod_unnumbered (s.laneCount l 3) l j _ _
  · rfl

theorem lapse_time (k : GrantKind) : (s.lapse l p k).time = s.time := by
  unfold State.lapse
  split
  · exact clientMod_time (s.laneCount l 3) l _ _
  · rfl

/-- What the end of one grant keeps is kept by the end of all that have run out. -/
theorem lapseAll_keep {α : Type} {q : State → α} (hq : ∀ (u : State) (l : Fin 48) (p : Client → Bool) (k : GrantKind),
    q (u.lapse l p k) = q u) : q s.lapseAll = q s := by
  have hc (u : State) (c : Client) : q ([GrantKind.sync, .delay, .ann].foldl
      (fun s k => s.lapse c.lane (fun y => decide (y.slot = c.slot)) k) u) = q u :=
    foldl_keep (fun s k => s.lapse c.lane (fun y => decide (y.slot = c.slot)) k) q (fun v k => hq v c.lane _ k) _ u
  exact foldl_keep (fun s c => [GrantKind.sync, .delay, .ann].foldl
    (fun s k => s.lapse c.lane (fun y => decide (y.slot = c.slot)) k) s) q hc s.ptp.clients s

theorem lapseAll_unnumbered : (s.lapseAll.lane j).unnumbered = (s.lane j).unnumbered :=
  lapseAll_keep s (q := fun u => (u.lane j).unnumbered) fun u l p k => lapse_unnumbered u l j p k

theorem lapseAll_time : s.lapseAll.time = s.time := lapseAll_keep s (q := State.time) lapse_time

/-- The clients whose grant of kind `k` is taken have none. -/
theorem clientMod_ended {k : GrantKind} {c : Client}
    (hc : c ∈ (s.clientMod l p fun y => y.setGrant k Grant.init).ptp.clients) (h : p c = true) : (c.grant k).on = false := by
  rw [clientMod_clients, List.mem_filter, List.mem_map] at hc
  obtain ⟨⟨y, -, rfl⟩, -⟩ := hc
  split
  · rw [Client.setGrant_grant]
    rfl
  next hy => rw [if_neg hy] at h; exact absurd h hy

end

/-! ### Requests (R356) -/

section
variable {s r : State} {t dur : Nat} {l : Fin 48} {h : MsgHdr} {k : GrantKind} {lg : Int}
  (hr : ((s.advance t).promote l).receive l h = (r, true))
include hr

theorem received_seqSig : (r.lane l).seqSig = (s.lane l).seqSig := (congrArg Lane.seqSig (received_lane hr) :)

theorem received_umOf (a : Nat) : (r.lane l).umOf a = (s.lane l).umOf a :=
  (congrArg (fun x => Lane.umOf x a) (received_lane hr) :)

theorem received_lapseAll : (r.lapseAll.lane l).seqSig = (s.lane l).seqSig ∧
    (r.lapseAll.lane l).maxGrant = (s.lane l).maxGrant ∧ r.lapseAll.now = (s.advance t).now := by
  have hn := lapseAll_unnumbered r l
  have ht : r.lapseAll.now = r.now := congrArg Time.now (lapseAll_time r)
  have hl := received_lane hr
  exact ⟨(congrArg Lane.seqSig hn).trans (congrArg Lane.seqSig hl :),
    (congrArg Lane.maxGrant hn).trans (congrArg Lane.maxGrant hl :), ht.trans (received_now hr)⟩

theorem rxRequestUnicast_denied (hd : r.lapseAll.denies l h k lg = true) :
    Completes (exec (.rxRequestUnicast t l h k lg dur) s) fun u =>
      (u.lane l).sent.map (·.msg) = [.grant (s.lane l).seqSig h.addr k lg 0] ∧
      (u.lane l).seqSig = seqNext (s.lane l).seqSig := by
  obtain ⟨hs, -, -⟩ := received_lapseAll hr
  show Completes (execRxRequestUnicast t l h k lg dur s) _
  rw [execRxRequestUnicast, rxWith_taken hr, completes_done]
  simp only [hd, if_true, State.commit_lane, State.signal_msgs, State.signal_seqSig, State.laneCount_lane, hs, and_self]

end

/-- The client of a granted request has an entry (R356, R373). -/
def State.entered (v : State) (l : Fin 48) (h : MsgHdr) : State :=
  if v.ptp.clients.any (Client.isOf l h) then v
  else (v.onPtp fun p => { p with clients := p.clients ++ [Client.fresh l v h] }).laneMod l fun x =>
    { x with nextNumber := x.nextNumber + 1 }

/-- The grant that a request of this duration is given (R356). -/
def State.granted (v : State) (l : Fin 48) (lg : Int) (dur : Nat) : Grant :=
  let d := min dur (v.lane l).maxGrant
  { on := true, log := lg, ends := v.mt + d * secU, endsAt := v.now + d * secU }

section
variable (v : State) (l : Fin 48) (h : MsgHdr)

theorem entered_client : ∃ c ∈ (v.entered l h).ptp.clients, c.isOf l h = true := by
  unfold State.entered
  split
  next ha =>
    obtain ⟨c, hc, hi⟩ := List.any_eq_true.1 ha
    exact ⟨c, hc, hi⟩
  · exact ⟨Client.fresh l v h, List.mem_append_right _ (List.mem_singleton_self _), Client.fresh_isOf l v h⟩

theorem entered_lane : ((v.entered l h).lane l).unnumbered = (v.lane l).unnumbered := by
  unfold State.entered
  split
  · rfl
  · rw [State.lane_laneMod_same]
    rfl

theorem grantTo_eq (k : GrantKind) (lg : Int) (dur : Nat) :
    v.grantTo l h k lg dur = ((v.entered l h).onPtp fun p =>
      { p with clients := p.clients.map fun c => if c.isOf l h then c.setGrant k (v.granted l lg dur) else c }).signal l h.addr
        fun n => .grant n h.addr k lg (min dur (v.lane l).maxGrant) := rfl

/-- A request granted: the client holds the grant and is told of it (R356). -/
theorem grantTo_grants (k : GrantKind) (lg : Int) (dur : Nat) :
    let u := v.grantTo l h k lg dur
    (u.lane l).sent.map (·.msg) = [.grant (v.lane l).seqSig h.addr k lg (min dur (v.lane l).maxGrant)] ∧
    (u.lane l).seqSig = seqNext (v.lane l).seqSig ∧
    ∃ c ∈ u.ptp.clients, c.isOf l h = true ∧ c.grant k = v.granted l lg dur := by
  obtain ⟨c, hc, hi⟩ := entered_client v l h
  have hs : ((v.entered l h).lane l).seqSig = (v.lane l).seqSig := (congrArg Lane.seqSig (entered_lane v l h) :)
  rw [grantTo_eq]
  simp only [State.signal_msgs, State.signal_seqSig, State.signal_clients]
  rw [← hs]
  refine ⟨rfl, rfl, c.setGrant k (v.granted l lg dur), List.mem_map.2 ⟨c, hc, if_pos hi⟩, ?_, c.setGrant_grant ..⟩
  rw [Client.setGrant_isOf, hi]

end

section
variable {s r : State} {t dur : Nat} {l : Fin 48} {h : MsgHdr} {k : GrantKind} {lg : Int}
  (hr : ((s.advance t).promote l).receive l h = (r, true))
include hr

theorem rxRequestUnicast_granted (hd : r.lapseAll.denies l h k lg = false) :
    Completes (exec (.rxRequestUnicast t l h k lg dur) s) fun u =>
      (u.lane l).sent.map (·.msg) = [.grant (s.lane l).seqSig h.addr k lg (min dur (s.lane l).maxGrant)] ∧
      (u.lane l).seqSig = seqNext (s.lane l).seqSig ∧
      ∃ c ∈ u.ptp.clients, c.isOf l h = true ∧ (c.grant k).on = true ∧ (c.grant k).log = lg ∧
        (c.grant k).endsAt = (s.advance t).now + min dur (s.lane l).maxGrant * secU := by
  obtain ⟨hs, hm, hn⟩ := received_lapseAll hr
  show Completes (execRxRequestUnicast t l h k lg dur s) _
  rw [execRxRequestUnicast, rxWith_taken hr, completes_done]
  simp only [hd, Bool.false_eq_true, if_false, State.commit_lane, State.commit_ptp]
  rw [← hs, ← hm, ← hn]
  obtain ⟨hmsg, hseq, c, hc, hi, hg⟩ := grantTo_grants r.lapseAll l h k lg dur
  exact ⟨hmsg, hseq, c, hc, hi, by rw [hg]; rfl, by rw [hg]; rfl, by rw [hg]; rfl⟩

/-! ### Cancels and grants received (R354, R356, R357) -/

theorem rxCancelUnicast_acknowledged :
    Completes (exec (.rxCancelUnicast t l h k) s) fun u =>
      (u.lane l).sent.map (·.msg) = [.ackCancel (s.lane l).seqSig h.addr k] ∧ (u.lane l).seqSig = seqNext (s.lane l).seqSig ∧
      ((s.lane l).umOf h.addr = none → ∀ c ∈ u.ptp.clients, c.isOf l h = true → (c.grant k).on = false) := by
  show Completes (execRxCancelUnicast t l h k s) _
  rw [execRxCancelUnicast, rxWith_taken hr, completes_done]
  simp only [received_umOf hr, State.commit_lane, State.commit_ptp, State.signal_msgs, State.signal_seqSig,
    State.signal_clients]
  cases hu : (s.lane l).umOf h.addr with
  | some m =>
    simp only [State.lane_laneMod_same, received_seqSig hr, reduceCtorEq, false_implies, and_self]
  | none =>
    have hs : ((r.clientMod l (Client.isOf l h) fun c => c.setGrant k Grant.init).lane l).seqSig = (s.lane l).seqSig :=
      (congrArg Lane.seqSig (clientMod_unnumbered r l l _ _) :).trans (received_seqSig hr)
    simp only [hs, true_and, true_implies]
    exact fun c hc h => clientMod_ended r l _ hc h

theorem rxAcknowledgeCancel_taken :
    exec (.rxAcknowledgeCancel t l h k) s = .next r.commit ∧
    Completes (exec (.rxAcknowledgeCancel t l h k) s) fun u =>
      u.ptp.clients = s.ptp.clients ∧ (u.lane l).umGrant = (s.lane l).umGrant := by
  have he : exec (.rxAcknowledgeCancel t l h k) s = done r := rxWith_taken hr _
  obtain ⟨hs, -, hl⟩ := beyondPort_parts (received_beyondPort hr l)
  refine ⟨he, ?_⟩
  rw [he, completes_done, State.commit_ptp, State.commit_lane]
  exact ⟨(congrArg Ptp.clients hs :), (congrArg Lane.umGrant hl :)⟩

theorem rxGrantUnicast_held {m : Nat} (hm : (s.lane l).umOf h.addr = some m) (hd : dur ≠ 0) :
    Completes (exec (.rxGrantUnicast t l h k lg dur) s) fun u =>
      (umKey m k, (s.advance t).now + dur * secU) ∈ (u.lane l).umGrant ∧ ∀ g ∈ (u.lane l).umRetry, g.1 ≠ umKey m k := by
  show Completes (execRxGrantUnicast t l h k lg dur s) _
  rw [execRxGrantUnicast, rxWith_taken hr, completes_done]
  simp only [received_umOf hr, hm, State.commit_lane, State.lane_laneMod_same, hd, if_false, received_now hr]
  refine ⟨by simp, fun g hg => ?_⟩
  rw [List.append_nil, List.mem_filter] at hg
  exact of_decide_eq_true hg.2

end

theorem grantExpiry_frees {s : State} {t slot : Nat} {k : GrantKind} {c : Client} (hc : s.ptp.clients = [c])
    (hs : c.slot = slot) (ho : (c.grant k).on = true) (he : (c.grant k).endsAt ≤ (s.advance t).now) :
    Completes (exec (.grantExpiry t slot k) s) fun u => ∀ y ∈ u.ptp.clients, (y.grant k).on = false := by
  show Completes (execGrantExpiry t slot k s) _
  unfold execGrantExpiry State.lapse
  simp only [State.advance_ptp, hc, hs, ho, he, List.find?_cons, decide_true, Bool.and_self, completes_done, State.commit_ptp]
  intro y hy
  rw [clientMod_clients, show ((s.advance t).laneCount c.lane 3).ptp = s.ptp from s.advance_ptp t, hc, List.map_singleton,
    List.mem_filter, List.mem_singleton] at hy
  obtain ⟨rfl, -⟩ := hy
  simp [hs, Client.setGrant_grant, Grant.init]

/-- Settles O53, a lemma for each clause. -/
theorem unicastNegotiation : Obligations.UnicastNegotiation :=
  ⟨fun _ _ _ _ _ _ _ _ hr hd => rxRequestUnicast_denied hr hd,
    fun _ _ _ _ _ _ _ _ hr hd => rxRequestUnicast_granted hr hd,
    fun _ _ _ _ _ _ hr => rxCancelUnicast_acknowledged hr,
    fun _ _ _ _ _ _ hr => rxAcknowledgeCancel_taken hr,
    fun _ _ _ _ _ _ _ _ _ hr hm hd => rxGrantUnicast_held hr hm hd,
    fun _ _ _ _ _ hc hs ho he => grantExpiry_frees hc hs ho he⟩

end Sys2Proof.Machine

/-!
SETTLING PortsSendAtTheirIntervals (O54).
-/

namespace Sys2Proof.Machine

/-! ### What passing time leaves of a port -/

section
variable (t : Nat) (s : State) (l : Fin 48)

theorem State.advance_peer : (s.advance t).peer l = s.peer l := by simp [State.peer]

theorem State.advance_portQuiet : (s.advance t).portQuiet l = s.portQuiet l := by simp [State.portQuiet]

theorem State.advance_profLog (k : GrantKind) : (s.advance t).profLog k = s.profLog k := by
  cases k <;> simp [State.profLog]

theorem State.laneMod_profLog (f : Lane → Lane) (k : GrantKind) : (s.laneMod l f).profLog k = s.profLog k := by
  cases k <;> rfl

/-- A MASTER meets its own times as it is. -/
theorem advance_promote (h : (s.lane l).pstate = 6) : (s.advance t).promote l = s.advance t :=
  State.promote_of_state (by rw [State.advance_lane, h]; decide)

end

/-- A request leaves: T3 is its departure (R352). -/
theorem requestOut_lane (v : State) (l : Fin 48) (dest : Option Nat) (m : TxMsg) :
    ((v.requestOut l dest m).lane l).sent.map (·.msg) = [m] ∧ ((v.requestOut l dest m).lane l).t3 = some (v.mt : Int) ∧
    ((v.requestOut l dest m).lane l).seqReq = seqNext (v.lane l).seqReq := by
  rw [State.requestOut, State.lane_laneMod_same]
  exact ⟨v.send_msgs l dest [m], rfl, by rw [State.send_lane]⟩

section
variable {s : State} {t : Nat} {l : Fin 48} (hu : s.portUp l = true)
include hu

/-! ### The streams of a MASTER (R352, R354, R369) -/

section
variable (hm : (s.lane l).pstate = 6)
include hm

theorem syncTx_multicast (hh : (s.advance t).syncHeld l = false) (hc : (s.lane l).multicast = true)
    (hp : (s.advance t).past (s.lane l).lastSync (logU s.ptp.syncLog) = true) :
    Completes (exec (.syncTx t l none) s) fun u =>
      (u.lane l).sent.map (·.msg) = (s.advance t).syncMsgs l (s.lane l).seqSync ∧
      (u.lane l).seqSync = seqNext (s.lane l).seqSync ∧
      (u.lane l).lastSync = (s.advance t).now := by
  have hs := (s.advance t).send_msgs l none ((s.advance t).syncMsgs l (s.lane l).seqSync)
  show Completes (execSyncTx t l none s) _
  unfold execSyncTx State.syncSent
  simp only [advance_promote t s l hm, State.advance_portUp, hu, State.advance_lane, hm, hh, hc, State.advance_ptp, hp,
    ne_eq, not_true_eq_false, decide_false, Bool.not_true, Bool.or_self, Bool.false_eq_true, if_false, and_self, if_true,
    completes_done, State.commit_lane, State.lane_laneMod_same, hs]
  simp only [State.send_lane, State.advance_lane, and_self]

theorem announceTx_multicast (hq : s.portQuiet l = false) (hc : (s.lane l).multicast = true)
    (hp : (s.advance t).past (s.lane l).lastAnn (logU s.ptp.annLog) = true) :
    Completes (exec (.announceTx t l none) s) fun u =>
      (u.lane l).sent.map (·.msg) = [.announce (s.lane l).seqAnn (s.advance t).announced] ∧
      (u.lane l).seqAnn = seqNext (s.lane l).seqAnn := by
  have hs := (s.advance t).send_msgs l none [.announce (s.lane l).seqAnn (s.advance t).announced]
  show Completes (execAnnounceTx t l none s) _
  unfold execAnnounceTx
  simp only [advance_promote t s l hm, State.advance_portUp, hu, State.advance_lane, hm, State.advance_portQuiet, hq, hc,
    State.advance_ptp, hp, ne_eq, not_true_eq_false, decide_false, Bool.not_true, Bool.or_self, Bool.false_eq_true,
    if_false, and_self, if_true, completes_done, State.commit_lane, State.lane_laneMod_same, hs]
  simp only [State.send_lane, State.advance_lane, and_self]

theorem metadataTlvTx_sent (h2 : s.ptp.profile = 2) (he : s.ptp.smEn = true)
    (hp : (s.advance t).past (s.lane l).lastMeta (logU s.ptp.smLog) = true) :
    Completes (exec (.metadataTlvTx t l) s) fun u =>
      (u.lane l).sent.length = 1 ∧ (u.lane l).seqMgmt = seqNext (s.lane l).seqMgmt ∧
      (u.lane l).lastMeta = (s.advance t).now := by
  show Completes (execMetadataTlvTx t l s) _
  unfold execMetadataTlvTx
  simp only [advance_promote t s l hm, State.advance_portUp, hu, State.advance_lane, hm, h2, he, State.advance_ptp, hp,
    decide_true, Bool.and_self, if_true, completes_done, State.commit_lane, State.lane_laneMod_same, State.send_lane,
    List.map_singleton, List.length_singleton, and_self]

end

/-! ### Requests for delays (R347, R352) -/

theorem delayReqTx_sent (hp : s.peer l = false) (hs : (s.lane l).pstate = 9)
    (hd : (s.advance t).past (s.lane l).lastReq (logU s.ptp.delayLog) = true) (ha : (s.advance t).delayAllowed l = true) :
    Completes (exec (.delayReqTx t l) s) fun u =>
      (u.lane l).sent.map (·.msg) = [.delayReq (s.lane l).seqReq] ∧ (u.lane l).t3 = some ((s.advance t).mt : Int) ∧
      (u.lane l).seqReq = seqNext (s.lane l).seqReq := by
  have hr := requestOut_lane (s.advance t) l ((s.advance t).parentAddr l) (.delayReq (s.lane l).seqReq)
  show Completes (execDelayReqTx t l s) _
  unfold execDelayReqTx
  simp only [State.advance_portUp, hu, State.advance_peer, hp, State.advance_lane, hs, State.advance_ptp, hd, ha,
    decide_true, Bool.or_true, Bool.not_false, Bool.and_self, if_true, completes_done, State.commit_lane]
  rwa [State.advance_lane] at hr

theorem pdelayReqTx_sent (hp : s.peer l = true) (hd : (s.advance t).past (s.lane l).lastReq (logU s.ptp.delayLog) = true) :
    Completes (exec (.pdelayReqTx t l) s) fun u =>
      (u.lane l).sent.map (·.msg) = [.pdelayReq (s.lane l).seqReq] ∧ (u.lane l).t3 = some ((s.advance t).mt : Int) := by
  obtain ⟨hm, h3, -⟩ := requestOut_lane (s.advance t) l none (.pdelayReq (s.lane l).seqReq)
  show Completes (execPdelayReqTx t l s) _
  unfold execPdelayReqTx
  simp only [State.advance_portUp, hu, State.advance_peer, hp, State.advance_lane, State.advance_ptp, hd, Bool.and_self,
    if_true, completes_done, State.commit_lane]
  exact ⟨hm, h3⟩

end

/-! ### Requests for grants (R357, R364) -/

section
variable (v : State) (l : Fin 48)

theorem State.signal_lane (a : Nat) (f : Nat → TxMsg) : (v.signal l a f).lane l =
    { v.lane l with sent := [v.ptpFrame l (some a) (f (v.lane l).seqSig)], seqSig := seqNext (v.lane l).seqSig } := by
  rw [State.signal, State.lane_laneMod_same, State.send_lane]
  rfl

/-- The request that asks master `m` for a grant. -/
def State.grantRequest (m : Nat) (k : GrantKind) : TxMsg :=
  .request (v.lane l).seqSig ((v.lane l).masters.getD m 0) k (v.profLog k) (v.lane l).maxGrant

theorem needAddr_known {a : Nat} (h : (v.lane l).transport = 0 ∨ a ∈ (v.lane l).resolved) : v.needAddr l a = v :=
  if_pos (h.imp_right List.contains_iff_mem.2)

theorem needAddr_asked {a : Nat} (h0 : (v.lane l).transport ≠ 0) (ha : a ∉ (v.lane l).resolved) :
    v.needAddr l a = v.laneMod l fun y =>
      { y with sent := v.tagged l (.resolve a) :: y.sent, resolving := y.resolving.filter (· ≠ a) ++ [a] } :=
  if_neg (not_or.2 ⟨h0, fun h => ha (List.contains_iff_mem.1 h)⟩)

variable (m : Nat) (k : GrantKind)

theorem askGrant_known (h : (v.lane l).transport = 0 ∨ (v.lane l).masters.getD m 0 ∈ (v.lane l).resolved) :
    let u := v.askGrant l m k
    (u.lane l).sent.map (·.msg) = [v.grantRequest l m k] ∧ (u.lane l).umRetry = (v.lane l).umRetry := by
  unfold State.askGrant
  dsimp only
  rw [needAddr_known _ l (by rwa [State.signal_lane]), State.signal_lane]
  exact ⟨rfl, rfl⟩

theorem askGrant_unknown (h0 : (v.lane l).transport ≠ 0) (h : (v.lane l).masters.getD m 0 ∉ (v.lane l).resolved) :
    let u := v.askGrant l m k
    (u.lane l).sent.map (·.msg) = [.resolve ((v.lane l).masters.getD m 0), v.grantRequest l m k] ∧
    (v.lane l).masters.getD m 0 ∈ (u.lane l).resolving := by
  unfold State.askGrant
  dsimp only
  rw [needAddr_asked _ l (by rwa [State.signal_lane]) (by rwa [State.signal_lane]), State.lane_laneMod_same, State.signal_lane]
  exact ⟨rfl, List.mem_append_right _ (List.mem_singleton_self _)⟩

end

theorem advance_grantRequest (s : State) (t : Nat) (l : Fin 48) (m : Fin 2) (k : GrantKind) :
    (s.advance t).grantRequest l m.val k =
    .request (s.lane l).seqSig ((s.lane l).masters.getD m.val 0) k (s.profLog k) (s.lane l).maxGrant := by
  rw [State.grantRequest, State.advance_profLog, State.advance_lane]

section
variable {s : State} {t : Nat} {l : Fin 48} {m : Fin 2} {k : GrantKind} (hu : s.portUp l = true)
  (hm : m.val < (s.lane l).umUsed)
include hu hm

theorem grantRenewal_asks (hg : (s.lane l).umGrant = []) (hr : (s.lane l).umRetry = []) :
    exec (.grantRenewal t l m k) s = done ((s.advance t).askGrant l m.val k) := by
  show execGrantRenewal t l m k s = _
  unfold execGrantRenewal
  simp only [State.advance_portUp, hu, State.advance_lane, hm, hg, hr, List.any_nil, decide_true, Bool.not_false,
    Bool.and_self, if_true]

theorem grantRenewal_overEthernet (hg : (s.lane l).umGrant = []) (hr : (s.lane l).umRetry = []) (h0 : (s.lane l).transport = 0) :
    Completes (exec (.grantRenewal t l m k) s) fun u => (u.lane l).sent.map (·.msg) =
      [.request (s.lane l).seqSig ((s.lane l).masters.getD m.val 0) k (s.profLog k) (s.lane l).maxGrant] := by
  obtain ⟨ha, -⟩ := askGrant_known (s.advance t) l m.val k (.inl (by rw [State.advance_lane, h0]))
  rw [grantRenewal_asks hu hm hg hr, completes_done, State.commit_lane, ha, advance_grantRequest]

theorem grantRenewal_resolves (hg : (s.lane l).umGrant = []) (hr : (s.lane l).umRetry = []) (h0 : (s.lane l).transport ≠ 0)
    (hn : (s.lane l).masters.getD m.val 0 ∉ (s.lane l).resolved) :
    Completes (exec (.grantRenewal t l m k) s) fun u =>
      (u.lane l).sent.map (·.msg) = [.resolve ((s.lane l).masters.getD m.val 0),
        .request (s.lane l).seqSig ((s.lane l).masters.getD m.val 0) k (s.profLog k) (s.lane l).maxGrant] ∧
      (s.lane l).masters.getD m.val 0 ∈ (u.lane l).resolving := by
  have ha := askGrant_unknown (s.advance t) l m.val k (by rwa [State.advance_lane]) (by rwa [State.advance_lane])
  rw [advance_grantRequest, State.advance_lane] at ha
  rwa [grantRenewal_asks hu hm hg hr, completes_done, State.commit_lane]

theorem grantDenialRetry_asks {f : Nat} (hr : (s.lane l).umRetry = [(umKey m.val k, f)])
    (hp : (s.advance t).past f (16 * secU) = true) (hd : (s.lane l).masters.getD m.val 0 ∈ (s.lane l).resolved) :
    Completes (exec (.grantDenialRetry t l m k) s) fun u =>
      (u.lane l).sent.map (·.msg) =
        [.request (s.lane l).seqSig ((s.lane l).masters.getD m.val 0) k (s.profLog k) (s.lane l).maxGrant] ∧
      (u.lane l).umRetry = [] := by
  have hv : ((s.advance t).laneMod l fun x =>
      { x with umRetry := x.umRetry.filter fun g => decide (g.1 ≠ umKey m.val k) }).lane l =
        { s.lane l with umRetry := [] } := by
    rw [State.lane_laneMod_same, State.advance_lane, hr]
    simp
  show Completes (execGrantDenialRetry t l m k s) _
  unfold execGrantDenialRetry
  simp only [State.advance_portUp, hu, State.advance_lane, hm, hr, hp, List.any_cons, decide_true, Bool.and_self,
    Bool.true_or, if_true, completes_done, State.commit_lane]
  obtain ⟨ha, hu'⟩ := askGrant_known _ l m.val k (.inr (by rwa [hv]))
  rw [ha, hu', State.grantRequest, hv, State.laneMod_profLog, State.advance_profLog]
  exact ⟨rfl, rfl⟩

end

/-! ### The ESMC PDU (R366) -/

theorem esmcInfoTx_sent {s : State} {t : Nat} {l : Fin 48} (hu : (s.lane l).lstate = .up) (he : (s.lane l).esmcTx = true)
    (hp : (s.advance t).past (s.lane l).esmcSent secU = true) :
    Completes (exec (.esmcInfoTx t l) s) fun u =>
      (u.lane l).sent = [({ msg := .esmc (decide ((s.advance t).qlOut l ≠ (s.lane l).txQl)) ((s.advance t).qlOut l),
                            vlan := (s.lane l).tag } : TxFrame)] ∧
      (u.lane l).txQl = (s.advance t).qlOut l ∧ (u.lane l).esmcSent = (s.advance t).now := by
  show Completes (execEsmcInfoTx t l s) _
  unfold execEsmcInfoTx State.putFrame State.tagged
  simp only [State.advance_lane, hu, he, hp, ne_eq, not_true_eq_false, Bool.not_true, Bool.false_eq_true, or_self, if_false,
    if_true, completes_done, State.commit_lane, State.lane_laneMod_same, and_self]

/-- Settles O54, a lemma for each kind of message. -/
theorem portsSendAtTheirIntervals : Obligations.PortsSendAtTheirIntervals :=
  ⟨fun _ _ _ hu hm hh hc hp => syncTx_multicast hu hm hh hc hp,
    fun _ _ _ hu hm hq hc hp => announceTx_multicast hu hm hq hc hp,
    fun _ _ _ hu hp hs hd ha => delayReqTx_sent hu hp hs hd ha,
    fun _ _ _ hu hp hd => pdelayReqTx_sent hu hp hd,
    fun _ _ _ _ _ hu hm hg hr h0 => grantRenewal_overEthernet hu hm hg hr h0,
    fun _ _ _ _ _ hu hm hg hr h0 hn => grantRenewal_resolves hu hm hg hr h0 hn,
    fun _ _ _ _ _ _ hu hm hr hp _ hd => grantDenialRetry_asks hu hm hr hp hd,
    fun _ _ _ hu h2 he hm hp => metadataTlvTx_sent hu hm h2 he hp,
    fun _ _ _ hu he hp => esmcInfoTx_sent hu he hp⟩

end Sys2Proof.Machine

/-!
SUPPORT. A port sent back to LISTENING (R349, R369, R370): what it forgets and what it keeps.
-/

namespace Sys2Proof.Machine

/-- A lane whose port has neither parent nor foreign master (R349). -/
def Lane.afresh (a : Nat) (x : Lane) : Lane :=
  { x.noParent false with foreign := [], annAt := a, src := TimeSrc.init, preAt := none }

section
variable (s : State) (l : Fin 48)

theorem timeActOff_bare : ((s.timeActOff l).lane l).bare = { (s.lane l).bare with timeAct := false } := by
  unfold State.timeActOff
  split
  · rw [State.bare_of_links (refCond_links ..), State.lane_laneMod_same]
    rfl
  next h => rw [← Bool.eq_false_iff.2 h]; rfl

theorem toListening_bare : ∃ n, ((s.toListening l).lane l).bare =
    { (s.lane l).bare.afresh s.now with timeAct := false, pstate := n } := by
  have ht := congrArg (Lane.afresh s.now) (timeActOff_bare s l)
  have hn (n : Nat) : ((((s.timeActOff l).laneMod l (Lane.afresh s.now)).setPort l n).lane l).bare =
      { (s.lane l).bare.afresh s.now with timeAct := false, pstate := n } := by
    rw [setPort_bare, State.lane_laneMod_same]
    exact congrArg (fun x : Lane => { x with pstate := n }) ht
  exact ⟨_, hn (((s.timeActOff l).laneMod l (Lane.afresh s.now)).portStart l)⟩

end

/-- A lane without its multicast groups and what it last sent (R364). -/
def Lane.ungrouped (x : Lane) : Lane := { x with joined := [], sent := [] }

theorem joinGroups_ungrouped (s : State) (l k : Fin 48) : ((s.joinGroups l).lane k).ungrouped = (s.lane k).ungrouped :=
  State.laneMod_keep s l _ Lane.ungrouped rfl k

/-- The BMCA judges and the port joins its groups: what neither writes stays. -/
theorem judged_lane (s : State) (l : Fin 48) : ((((bmcaAll s).joinGroups l).lane l).ungrouped).beyond (s.peer l) =
    (s.lane l).ungrouped.beyond (s.peer l) := by
  obtain ⟨-, -, hb⟩ := beyondPort_parts (bmcaAll_beyondPort s l)
  rw [joinGroups_ungrouped]
  exact congrArg Lane.ungrouped hb

section
variable (s : State) (l : Fin 48)

theorem setPort_sansLanes (n : Nat) : (s.setPort l n).ptp.sansLanes = s.ptp.sansLanes := by
  unfold State.setPort
  split <;> rfl

end

end Sys2Proof.Machine

/-!
SETTLING LaneEvents (O50).
-/

namespace Sys2Proof.Machine

/-! ### Lane states and delays (R343, R345) -/

section
variable (s : State) (l : Fin 48)

/-- Without a change held back the lane stays as it is (R370). -/
theorem applyHeld_none (h : (s.lane l).held = none) : s.applyHeld l = s := by rw [State.applyHeld, h]

theorem laneTo_lane (st : LaneState) : ((s.laneTo l st).lane l).lstate = st ∧ ((s.laneTo l st).lane l).parentId = 0 ∧
    ((s.laneTo l st).lane l).foreign = [] := by
  have h (v : State) (hv : (v.lane l).lstate = st) :
      let x := (if st = .up then v.toListening l else refLoss (linkRef l) (v.toListening l)).lane l
      x.lstate = st ∧ x.parentId = 0 ∧ x.foreign = [] := by
    obtain ⟨n, hn⟩ := toListening_bare v l
    have hb : ((if st = .up then v.toListening l else refLoss (linkRef l) (v.toListening l)).lane l).bare =
        ((v.toListening l).lane l).bare := by
      split
      · rfl
      · exact State.bare_of_links (refLoss_links ..) l
    rw [hn] at hb
    exact ⟨(congrArg Lane.lstate hb).trans hv, congrArg Lane.parentId hb, congrArg Lane.foreign hb⟩
  exact h _ (by rw [State.lane_laneMod_same])

end

theorem laneMeasuringEnd_measured {s : State} {t tx rx : Nat} {l : Fin 48} (hm : (s.lane l).lstate = .measuring)
    (hh : (s.lane l).held = none) (hp : (s.advance t).past (s.lane l).measFrom (3500 * usU) = true) :
    Completes (exec (.laneMeasuringEnd t l tx rx) s) fun u =>
      (u.lane l).lstate = .down ∧ (u.lane l).txDelay = satU 32 tx ∧ (u.lane l).rxDelay = satU 32 rx ∧
      (u.chan (linkChan l)).dIn = ofPs rx ∧ ∀ k, k ≠ l → u.lane k = s.lane k := by
  show Completes (execLaneMeasuringEnd t l tx rx s) _
  unfold execLaneMeasuringEnd
  simp only [State.advance_lane, hm, hp, and_self, if_true, completes_done]
  rw [applyHeld_none]
  · simp only [State.commit_lane, State.commit_chan, State.chan_chanMod_same, State.chanMod_lane, State.lane_laneMod_same,
      true_and]
    intro k hk
    rw [State.lane_laneMod_ne _ _ _ hk, State.advance_lane]
  · rw [State.chanMod_lane, State.lane_laneMod_same, State.advance_lane, hh]

theorem blockLockGained_up {s : State} {t : Nat} {l : Fin 48} (hd : (s.lane l).lstate = .down) :
    Completes (exec (.blockLockGained t l) s) fun u => (u.lane l).lstate = .up ∧ (u.lane l).foreign = [] := by
  obtain ⟨hu, -, hf⟩ := laneTo_lane (s.advance t) l .up
  show Completes (execBlockLockGained t l s) _
  unfold execBlockLockGained
  simp only [State.advance_lane, hd, if_true, completes_done, State.commit_lane]
  generalize (s.advance t).laneTo l .up = v at hu hf
  have hj := judged_lane v l
  exact ⟨(congrArg Lane.lstate hj).trans hu, (congrArg Lane.foreign hj).trans hf⟩

theorem blockLockLost_down {s : State} {t : Nat} {l : Fin 48} (hu : (s.lane l).lstate = .up) :
    Completes (exec (.blockLockLost t l) s) fun u => (u.lane l).lstate = .down ∧ (u.lane l).parentId = 0 := by
  obtain ⟨hd, hp, -⟩ := laneTo_lane ((s.advance t).laneCount l 22) l .down
  show Completes (execBlockLockLost t l s) _
  unfold execBlockLockLost
  simp only [State.advance_lane, hu, if_true, completes_done, State.commit_lane]
  exact ⟨hd, hp⟩

theorem advance_loopbackBusy (s : State) (t : Nat) : (s.advance t).loopbackBusy = s.loopbackBusy := by
  simp [State.loopbackBusy, State.ringed]

theorem laneDelay_within {s : State} {t tx : Nat} {l : Fin 48} (hb : s.loopbackBusy = false) (hr : s.rolls = true)
    (hu : (s.lane l).lstate = .up) (hp : (s.advance t).past (s.lane l).checkAt (600 * secU) = true)
    (hd : ((tx : Int) - (s.lane l).txDelay).natAbs ≤ 50) :
    Completes (exec (.laneDelay t (some l) tx) s) fun u =>
      (u.lane l).checkAt = (s.advance t).now ∧ (u.lane l).txDelay = (s.lane l).txDelay := by
  show Completes (execLaneDelay t (some l) tx s) _
  unfold execLaneDelay State.checkLane
  simp only [advance_loopbackBusy, hb, State.advance_rolls, hr, State.advance_lane, hu, hp, Bool.not_true, Bool.or_self,
    Bool.false_eq_true, or_true, and_self, if_false, if_true, completes_done, Nat.not_lt.2 hd,
    Nat.not_lt.2 (Nat.le_trans hd (by decide : 50 ≤ 250)), State.commit_lane, State.rollDone_lane, State.laneCount_lane,
    State.lane_laneMod_same]

theorem serdesAdapt_kept {s : State} {t m : Nat} {l : Fin 48} (hu : (s.lane l).lstate = .up) (hr : s.rolls = true) :
    Completes (exec (.serdesAdapt t l m) s) fun u =>
      (u.lane l).eyeMargin = satU 16 m ∧ (u.lane l).adaptAt = (s.advance t).now ∧ ∀ k, k ≠ l → u.lane k = s.lane k := by
  show Completes (execSerdesAdapt t l m s) _
  unfold execSerdesAdapt
  simp only [State.advance_lane, hu, State.advance_rolls, hr, and_self, if_true, completes_done, State.commit_lane,
    State.rollDone_lane, State.lane_laneMod_same, true_and]
  intro k hk
  rw [State.lane_laneMod_ne _ _ _ hk, State.advance_lane]

/-! ### ESMC (R366) -/

theorem ssmUpd_bare (s : State) (l : Fin 48) : ((s.ssmUpd l).lane l).bare = (s.lane l).bare :=
  State.bare_of_links (refExtRej_links ..) l

/-- An UP lane takes a frame that carries its tag (R348, R364). -/
theorem frameIn_taken {v : State} {l : Fin 48} {vlan : Option Nat} (hu : (v.lane l).lstate = .up)
    (ht : (v.lane l).tagOk vlan = true) (f : State → State) : v.frameIn l vlan f = f v := by
  simp [State.frameIn, hu, ht]

theorem rxEsmc_taken {s : State} {t : Nat} {l : Fin 48} {vlan : Option Nat} {ql : BitVec 4} (hu : (s.lane l).lstate = .up)
    (ht : (s.lane l).tagOk vlan = true) (he : (s.lane l).esmcRx = true) :
    Completes (exec (.rxEsmc t l vlan ql) s) fun u => (u.lane l).rxQl = ql.toNat ∧ (u.lane l).esmcTimeout = false := by
  have hb := ssmUpd_bare ((s.advance t).laneMod l fun x =>
    { x with rxQl := ql.toNat, esmcAt := (s.advance t).now, esmcTimeout := false }) l
  rw [State.lane_laneMod_same] at hb
  show Completes (execRxEsmc t l vlan ql s) _
  unfold execRxEsmc
  simp only [frameIn_taken (v := s.advance t) (by rwa [State.advance_lane]) (by rwa [State.advance_lane]), State.advance_lane,
    he, if_true, completes_done, State.commit_lane]
  exact ⟨(congrArg Lane.rxQl hb :), (congrArg Lane.esmcTimeout hb :)⟩

theorem esmcTimeout_set {s : State} {t : Nat} {l : Fin 48} (he : (s.lane l).esmcRx = true) (hn : (s.lane l).esmcTimeout = false)
    (hp : (s.advance t).past (s.lane l).esmcAt (5 * secU) = true) :
    Completes (exec (.esmcTimeout t l) s) fun u => (u.lane l).esmcTimeout = true ∧ (u.lane l).rxQl = 15 := by
  have hb := ssmUpd_bare (((s.advance t).laneMod l fun x => { x with esmcTimeout := true, rxQl := 15 }).laneCount l 23) l
  rw [State.laneCount_lane, State.lane_laneMod_same] at hb
  show Completes (execEsmcTimeout t l s) _
  unfold execEsmcTimeout
  simp only [State.advance_lane, he, hn, hp, Bool.not_false, Bool.and_self, if_true, completes_done, State.commit_lane]
  exact ⟨(congrArg Lane.esmcTimeout hb :), (congrArg Lane.rxQl hb :)⟩

/-! ### Frames of the host and frames for it (R364, R365) -/

theorem hostFrameSend_sent {s : State} {t : Nat} {l : Fin 48} {b : List (BitVec 8)} {q : List (List (BitVec 8))}
    (hu : (s.lane l).lstate = .up) (hq : (s.lane l).sendQ = b :: q) :
    Completes (exec (.hostFrameSend t l) s) fun u =>
      (u.lane l).sent = [({ msg := .host b } : TxFrame)] ∧ (u.lane l).sendQ = q := by
  show Completes (execHostFrameSend t l s) _
  unfold execHostFrameSend State.putFrame
  simp only [State.advance_lane, hq, hu, if_true, completes_done, State.commit_lane, State.laneCount_lane,
    State.lane_laneMod_same, and_self]

theorem toHost_queued {v : State} (l : Fin 48) (b : List (BitVec 8)) (h : v.ptp.hostQ.length < 32) :
    (v.toHost l b).ptp.hostQ = v.ptp.hostQ ++ [{ lane := l, at_ := v.mt, bytes := b.take 1522 }] := by
  rw [State.toHost, if_neg (Nat.not_le.2 h)]
  rfl

/-- A frame that waits for the host has its Chime bit (R78). -/
theorem commit_chime_hostQ {v : State} (h : v.ptp.hostQ ≠ []) : v.commit.hif.chimeStatus.getLsbD 13 = true := by
  have hc : v.commit.chimeRaw.getLsbD 13 = true := by
    have hq : v.commit.ptp.hostQ.isEmpty = false := by
      rw [State.commit_ptp]
      simpa using h
    have h13 : (bit18 true 13).getLsbD 13 = true := by decide
    simp only [State.chimeRaw, hq, Bool.not_false, BitVec.getLsbD_or, h13, Bool.or_true, Bool.true_or]
  have hl : v.commit.hif.chimeStatus &&& v.commit.chimeRaw = v.commit.chimeRaw := of_decide_eq_true v.commit_inv.1
  rw [← hl, BitVec.getLsbD_and, Bool.and_eq_true] at hc
  exact hc.1

theorem rxManagement_queued {s r : State} {t : Nat} {l : Fin 48} {h : MsgHdr} {b : List (BitVec 8)}
    (hr : ((s.advance t).promote l).receive l h = (r, true)) (hc : (s.lane l).hostCopy = true) (hn : s.ptp.hostQ.length < 32) :
    Completes (exec (.rxManagement t l h b) s) fun u =>
      u.ptp.hostQ = s.ptp.hostQ ++ [{ lane := l, at_ := (s.advance t).mt, bytes := b.take 1522 }] ∧
      u.hif.chimeStatus.getLsbD 13 = true := by
  obtain ⟨hs, -, hl⟩ := beyondPort_parts (received_beyondPort hr l)
  have hq : r.ptp.hostQ = s.ptp.hostQ := (congrArg Ptp.hostQ hs :)
  have hrc : (r.lane l).hostCopy = true := (congrArg Lane.hostCopy hl :).trans hc
  have ht := toHost_queued (v := r) l b (by rwa [hq])
  rw [hq, received_mt hr] at ht
  show Completes (execRxManagement t l h b s) _
  rw [execRxManagement, rxWith_taken hr, completes_done, if_pos hrc, State.commit_ptp]
  exact ⟨ht, commit_chime_hostQ (by rw [ht]; simp)⟩

/-! ### Frames beside PTP (R364) -/

section
variable {s : State} {t : Nat} {l : Fin 48} {vlan : Option Nat} (hu : (s.lane l).lstate = .up)
include hu

section
variable (ht : (s.lane l).tagOk vlan = true)
include ht

theorem advance_frameIn (f : State → State) : (s.advance t).frameIn l vlan f = f (s.advance t) :=
  frameIn_taken (by rwa [State.advance_lane]) (by rwa [State.advance_lane]) f

theorem rxArpNdp_own (ans : Option Nat) (b : List (BitVec 8)) :
    Completes (exec (.rxArpNdp t l vlan true ans b) s) fun u =>
      (u.lane l).sent = [({ msg := .answer, vlan := (s.lane l).tag } : TxFrame)] ∧ u.ptp.hostQ = s.ptp.hostQ := by
  show Completes (execRxArpNdp t l vlan true ans b s) _
  rw [execRxArpNdp, advance_frameIn hu ht, completes_done, if_pos rfl, State.commit_lane, State.commit_ptp, State.putFrame,
    State.lane_laneMod_same, State.tagged, State.advance_lane]
  exact ⟨rfl, show (s.advance t).ptp.hostQ = _ by rw [State.advance_ptp]⟩

theorem rxArpNdp_resolved {a : Nat} (ha : a ∈ (s.lane l).resolving) (b : List (BitVec 8)) :
    Completes (exec (.rxArpNdp t l vlan false (some a) b) s) fun u =>
      (u.lane l).resolved = (s.lane l).resolved ++ [a] ∧ a ∉ (u.lane l).resolving := by
  have hf : ((some a).filter fun a => (s.lane l).resolving.contains a) = some a := by simp [ha]
  show Completes (execRxArpNdp t l vlan false (some a) b s) _
  rw [execRxArpNdp, advance_frameIn hu ht, completes_done]
  simp only [State.advance_lane, Bool.false_eq_true, if_false, hf, State.commit_lane, State.lane_laneMod_same, true_and]
  simp

theorem rxArpNdp_toHost (b : List (BitVec 8)) (hc : (s.lane l).hostCopy = true) (hn : s.ptp.hostQ.length < 32) :
    Completes (exec (.rxArpNdp t l vlan false none b) s) fun u =>
      u.ptp.hostQ = s.ptp.hostQ ++ [{ lane := l, at_ := (s.advance t).mt, bytes := b.take 1522 }] := by
  have hq := toHost_queued (v := s.advance t) l b (by rwa [State.advance_ptp])
  rw [State.advance_ptp] at hq
  show Completes (execRxArpNdp t l vlan false none b s) _
  rw [execRxArpNdp, advance_frameIn hu ht, completes_done]
  simpa [State.advance_lane, hc] using hq

theorem rxIgmpMld_reports :
    Completes (exec (.rxIgmpMld t l vlan true) s) fun u =>
      (u.lane l).sent = (s.lane l).joined.map fun a => { msg := .join a, vlan := (s.lane l).tag } := by
  show Completes (execRxIgmpMld t l vlan true s) _
  rw [execRxIgmpMld, advance_frameIn hu ht, completes_done, if_pos rfl, State.commit_lane, State.lane_laneMod_same]
  simp only [State.tagged, State.advance_lane]

end

theorem rxOtherFrame_dropped :
    Completes (exec (.rxOtherFrame t l) s) fun u => u.ptp.hostQ = s.ptp.hostQ ∧ ∀ k, u.lane k = s.lane k := by
  show Completes (execRxOtherFrame t l s) _
  rw [execRxOtherFrame, if_pos (by rw [State.advance_lane, hu]), completes_done]
  simp

end

/-- Settles O50, a lemma for each event. -/
theorem laneEvents : Obligations.LaneEvents :=
  ⟨fun _ _ _ _ _ hm hh hp => laneMeasuringEnd_measured hm hh hp,
    fun _ _ _ hd => blockLockGained_up hd,
    fun _ _ _ hu => blockLockLost_down hu,
    fun _ _ _ _ hb hr hu hp hd => laneDelay_within hb hr hu hp hd,
    fun _ _ _ _ hu hr => serdesAdapt_kept hu hr,
    fun _ _ _ _ _ hu ht he => rxEsmc_taken hu ht he,
    fun _ _ _ he hn hp => esmcTimeout_set he hn hp,
    fun _ _ _ _ _ hu hq => hostFrameSend_sent hu hq,
    fun _ _ _ _ _ _ hr hc hn => rxManagement_queued hr hc hn,
    fun _ _ _ _ ans b hu ht => rxArpNdp_own hu ht ans b,
    fun _ _ _ _ _ b hu ht ha => rxArpNdp_resolved hu ht ha b,
    fun _ _ _ _ b hu ht hc hn => rxArpNdp_toHost hu ht b hc hn,
    fun _ _ _ _ hu ht => rxIgmpMld_reports hu ht,
    fun _ _ _ hu => rxOtherFrame_dropped hu⟩

end Sys2Proof.Machine

/-!
SETTLING PtpCommandsAct (O38).
-/

namespace Sys2Proof.Machine

/-! ### PTP_PROFILE (R369) -/

/-- What PTP_PROFILE sets of the unit, and its keys. -/
def Ptp.profileSet (p : Ptp) : Bool × Nat × Nat × Nat × Vector Key 16 := (p.en, p.profile, p.prio1, p.prio2, p.keys)

theorem profileSet_of_sansLanes {s u : State} (h : u.ptp.sansLanes = s.ptp.sansLanes) :
    u.ptp.profileSet = s.ptp.profileSet := (congrArg Ptp.profileSet h :)

theorem bmcaAll_sansLanes (s : State) : (bmcaAll s).ptp.sansLanes = s.ptp.sansLanes := by
  obtain ⟨hs, -, -⟩ := beyondPort_parts (bmcaAll_beyondPort s 0)
  exact hs

theorem toListening_sansLanes (s : State) (l : Fin 48) : (s.toListening l).ptp.sansLanes = s.ptp.sansLanes := by
  obtain ⟨ht, -, -⟩ := beyondPort_parts ((beyondPort_keeps l l).timeActOff s)
  unfold State.toListening
  dsimp only
  rw [setPort_sansLanes]
  exact ht

theorem portsRestart_profileSet (s : State) : (portsRestart s).ptp.profileSet = s.ptp.profileSet :=
  forFin_keep _ _ _ (fun u => u.ptp.profileSet) fun l u => profileSet_of_sansLanes (toListening_sansLanes u l)

/-- Ports that restart under a new profile leave what it set. -/
theorem profileRestart_profileSet (s : State) :
    (forFin 48 State.joinGroups (bmcaAll (portsRestart s))).ptp.profileSet = s.ptp.profileSet := by
  rw [forFin_keep 48 State.joinGroups _ (fun u => u.ptp.profileSet) fun _ _ => rfl, profileSet_of_sansLanes (bmcaAll_sansLanes _),
    portsRestart_profileSet]

theorem applyPtpProfile_profileSet (a : Args) (s : State) :
    (applyPtpProfile a s).ptp.profileSet = (ab a 0 31, af a 0 30 28, af a 0 23 16, af a 0 15 8, s.ptp.keys) := by
  unfold applyPtpProfile
  exact (ite_keep (fun u => u.ptp.profileSet) _ _ _ (profileRestart_profileSet _)).trans rfl

section
variable {s : State} {t : Nat} {i l : Fin 48}

theorem ptpProfile_sets (h : (s.advance t).ready i .ptpProfile false = true) :
    Completes (exec (.ptpProfile t i) s) fun u =>
      u.ptp.en = ab (s.tag i).args 0 31 ∧ u.ptp.profile = af (s.tag i).args 0 30 28 ∧
      u.ptp.prio1 = af (s.tag i).args 0 23 16 ∧ u.ptp.prio2 = af (s.tag i).args 0 15 8 ∧ u.ptp.keys = s.ptp.keys ∧
      ∃ d, u.heldOk i d ∧ d.length = 1 := by
  have he : ∃ d, d.length = 1 ∧
      exec (.ptpProfile t i) s = done ((applyPtpProfile (s.tag i).args (s.advance t)).holdOk i d) := by
    rw [← State.advance_tag t s]
    exact ⟨_, rfl, runCmd_answers (ch := ptpProfileChecks) (body := ptpProfileBody) (readyTurn_of_ready h rfl) rfl⟩
  obtain ⟨d, hd, he⟩ := he
  have hp := applyPtpProfile_profileSet (s.tag i).args (s.advance t)
  simp only [Ptp.profileSet, Prod.mk.injEq, State.advance_ptp] at hp
  obtain ⟨hen, hprof, h1, h2, hk⟩ := hp
  rw [he, completes_done, State.commit_ptp, State.holdOk_ptp]
  exact ⟨hen, hprof, h1, h2, hk, d, holdOk_heldOk .., hd⟩

/-! ### PTP_SYNCE_CONFIG and PTP_SECURITY (R371, R374) -/

theorem ptpSynceConfig_sets (h : (s.advance t).ready i .ptpSynceConfig false = true) (hl : argLane (s.tag i).args = some l) :
    Completes (exec (.ptpSynceConfig t i) s) fun u =>
      (u.lane l).esmcTx = ab (s.tag i).args 0 31 ∧ (u.lane l).esmcRx = ab (s.tag i).args 0 30 ∧
      (u.lane l).qlFixed = af (s.tag i).args 0 27 24 ∧
      (ab (s.tag i).args 0 30 = false → (u.lane l).rxQl = 0 ∧ (u.lane l).esmcTimeout = false) ∧
      ∃ d, u.heldOk i d ∧ d.length = 1 := by
  have he : ∃ d, d.length = 1 ∧
      exec (.ptpSynceConfig t i) s = done ((applySynce (s.tag i).args (s.advance t)).holdOk i d) := by
    rw [← State.advance_tag t s]
    exact ⟨_, rfl, runCmd_answers (ch := ptpSynceChecks) (body := ptpSynceBody) (readyTurn_of_ready h rfl) rfl⟩
  obtain ⟨d, hd, he⟩ := he
  have hb : ((applySynce (s.tag i).args (s.advance t)).lane l).bare = Lane.bare { s.lane l with
      esmcTx := ab (s.tag i).args 0 31, esmcRx := ab (s.tag i).args 0 30, option2 := ab (s.tag i).args 0 29,
      qlAuto := ab (s.tag i).args 0 28, qlFixed := af (s.tag i).args 0 27 24, qlRefin := af (s.tag i).args 0 23 20,
      rxQl := if ab (s.tag i).args 0 30 then (s.lane l).rxQl else 0,
      esmcTimeout := ab (s.tag i).args 0 30 && (s.lane l).esmcTimeout,
      esmcAt := if ab (s.tag i).args 0 30 && !(s.lane l).esmcRx then (s.advance t).now else (s.lane l).esmcAt } := by
    unfold applySynce
    rw [hl]
    dsimp only
    rw [ssmUpd_bare, State.lane_laneMod_same, State.advance_lane]
  rw [he, completes_done, State.commit_lane, State.holdOk_lane]
  refine ⟨(congrArg Lane.esmcTx hb :), (congrArg Lane.esmcRx hb :), (congrArg Lane.qlFixed hb :), fun h0 => ?_, d,
    holdOk_heldOk .., hd⟩
  rw [h0] at hb
  exact ⟨(congrArg Lane.rxQl hb :), (congrArg Lane.esmcTimeout hb :)⟩

theorem ptpSecurity_fills {k : Fin 16} (h : (s.advance t).ready i .ptpSecurity false = true)
    (h0 : af (s.tag i).args 0 31 30 = 0) (hk : k.val = af (s.tag i).args 0 19 16) :
    Completes (exec (.ptpSecurity t i) s) fun u =>
      (vget u.ptp.keys k).filled = true ∧ (vget u.ptp.keys k).id = arg (s.tag i).args 1 ∧
      (∀ j, j ≠ k → vget u.ptp.keys j = vget s.ptp.keys j) ∧ u.ptp.lanes = s.ptp.lanes ∧
      ∃ d, u.heldOk i d ∧ d.length = 1 := by
  have hb : ∃ w, ptpSecurityBody i (s.tag i).args (s.advance t) = ((s.advance t).onPtp fun p =>
      { p with keys := vmod p.keys k fun _ => { filled := true, id := arg (s.tag i).args 1,
                                                bytes := (keyBytes (s.tag i).args).take (af (s.tag i).args 2 5 0) } },
      .ok [w]) := by
    have hs : (⟨af (s.tag i).args 0 19 16, by rw [← hk]; exact k.isLt⟩ : Fin 16) = k := Fin.ext hk.symm
    simp only [ptpSecurityBody, h0, if_true, hs]
    exact ⟨_, rfl⟩
  obtain ⟨w, hb⟩ := hb
  have he := runCmd_answers (ch := ptpSecurityChecks) (body := ptpSecurityBody) (readyTurn_of_ready h rfl)
    (by rw [State.advance_tag]; exact hb)
  show Completes (runCmd .ptpSecurity i ptpSecurityChecks ptpSecurityBody (s.advance t)) _
  rw [he, completes_done, State.commit_ptp, State.holdOk_ptp, State.onPtp_ptp, State.advance_ptp]
  exact ⟨by rw [vget_vmod_same], by rw [vget_vmod_same], fun j hj => vget_vmod_ne _ _ _ _ hj.symm, rfl, [w],
    holdOk_heldOk .., rfl⟩

/-! ### PTP_FRAME_TX and PTP_FRAME_RX (R375, R376) -/

/-- The last piece: the frame waits to be sent (R365, R375). -/
theorem ptpFrameTxBody_last {a : Args} {v : State} (hl : argLane a = some l) (hb : ab a 0 30 = true) :
    ∃ w, ptpFrameTxBody i a v = (w, .ok [pack [pbit true 31, ((pieceBytes a (v.lane l)).length, 15, 0)]]) ∧
      (w.lane l).sendQ = (v.lane l).sendQ ++ [pieceBytes a (v.lane l)] ∧ (w.lane l).frame = [] := by
  have hm := v.lane_laneMod_same l fun x =>
    { x with frame := [], frameTotal := none, sendQ := x.sendQ ++ [pieceBytes a (v.lane l)] }
  unfold ptpFrameTxBody
  rw [hl]
  dsimp only
  rw [hb]
  exact ⟨_, rfl, congrArg Lane.sendQ hm, congrArg Lane.frame hm⟩

/-- A piece before the last waits for the next (R375). -/
theorem ptpFrameTxBody_piece {a : Args} {v : State} (hl : argLane a = some l) (hb : ab a 0 30 = false) :
    ∃ w d, ptpFrameTxBody i a v = (w, .ok d) ∧ (w.lane l).frame = pieceBytes a (v.lane l) ∧
      (w.lane l).sendQ = (v.lane l).sendQ := by
  have hm := v.lane_laneMod_same l fun x =>
    { x with frame := pieceBytes a (v.lane l), frameTotal := some (af a 1 31 16) }
  unfold ptpFrameTxBody
  rw [hl]
  simp only [hb, Bool.false_eq_true, if_false]
  exact ⟨_, _, rfl, (congrArg Lane.frame hm :), (congrArg Lane.sendQ hm :)⟩

section
variable (h : (s.advance t).readyTurn i .ptpFrameTx ptpFrameTxTurn = true) (hl : argLane (s.tag i).args = some l)
include h hl

theorem ptpFrameTx_waits (hb : ab (s.tag i).args 0 30 = true) :
    Completes (exec (.ptpFrameTx t i) s) fun u =>
      (u.lane l).sendQ = (s.lane l).sendQ ++ [pieceBytes (s.tag i).args (s.lane l)] ∧ (u.lane l).frame = [] ∧
      u.heldOk i [pack [pbit true 31, ((pieceBytes (s.tag i).args (s.lane l)).length, 15, 0)]] := by
  obtain ⟨w, hw, hq, hf⟩ := ptpFrameTxBody_last (i := i) (v := s.advance t) hl hb
  rw [State.advance_lane] at hw hq
  have he : exec (.ptpFrameTx t i) s = done (w.holdOk i _) := runCmd_answers h (by rw [State.advance_tag, hw])
  rw [he, completes_done, State.commit_lane, State.holdOk_lane]
  exact ⟨hq, hf, holdOk_heldOk ..⟩

theorem ptpFrameTx_assembles (hb : ab (s.tag i).args 0 30 = false) :
    Completes (exec (.ptpFrameTx t i) s) fun u =>
      (u.lane l).frame = pieceBytes (s.tag i).args (s.lane l) ∧ (u.lane l).sendQ = (s.lane l).sendQ := by
  obtain ⟨w, d, hw, hf, hq⟩ := ptpFrameTxBody_piece (i := i) (v := s.advance t) hl hb
  rw [State.advance_lane] at hf hq
  have he : exec (.ptpFrameTx t i) s = done (w.holdOk i d) := runCmd_answers h (by rw [State.advance_tag, hw])
  rw [he, completes_done, State.commit_lane, State.holdOk_lane]
  exact ⟨hf, hq⟩

end

/-- The queue after RELEASE, and its head's words, or five without a frame (R376). -/
theorem ptpFrameRxBody_reads (a : Args) (v : State) :
    ∃ w d, ptpFrameRxBody i a v = (w, .ok d) ∧ w.ptp.hostQ = (if ab a 0 31 then v.ptp.hostQ.drop 1 else v.ptp.hostQ) ∧
      5 ≤ d.length ∧ (w.ptp.hostQ = [] → d.length = 5 ∧ d.getD 0 0 = 0) := by
  have hq : (if ab a 0 31 then v.onPtp fun p => { p with hostQ := p.hostQ.drop 1 } else v).ptp.hostQ =
      if ab a 0 31 then v.ptp.hostQ.drop 1 else v.ptp.hostQ := apply_ite (fun u : State => u.ptp.hostQ) _ _ _
  unfold ptpFrameRxBody
  dsimp only
  rw [← hq]
  split
  next f q hf => exact ⟨_, _, rfl, rfl, by simp [time96], fun h0 => absurd (hf.symm.trans h0) (List.cons_ne_nil f q)⟩
  · exact ⟨_, _, rfl, rfl, Nat.le_refl _, fun _ => ⟨rfl, rfl⟩⟩

theorem ptpFrameRx_reads (h : (s.advance t).ready i .ptpFrameRx false = true) :
    Completes (exec (.ptpFrameRx t i) s) fun u =>
      u.ptp.hostQ = (if ab (s.tag i).args 0 31 then s.ptp.hostQ.drop 1 else s.ptp.hostQ) ∧
      ∃ d, u.heldOk i d ∧ 5 ≤ d.length ∧ (u.ptp.hostQ = [] → d.length = 5 ∧ d.getD 0 0 = 0) := by
  obtain ⟨w, d, hw, hq, h5, hn⟩ := ptpFrameRxBody_reads (i := i) (s.tag i).args (s.advance t)
  rw [State.advance_ptp] at hq
  have he : exec (.ptpFrameRx t i) s = done (w.holdOk i d) :=
    runCmd_answers (ch := ptpFrameRxChecks) (readyTurn_of_ready h rfl) (by rw [State.advance_tag, hw])
  rw [he, completes_done, State.commit_ptp, State.holdOk_ptp]
  exact ⟨hq, d, holdOk_heldOk .., h5, hn⟩

end

/-! ### PTP_PORT_CONFIG (R370) -/

/-- The settings of a port that outlive its restart. -/
def Lane.portSet (x : Lane) : Nat × Nat × Bool × Bool × Nat := (x.role, x.transport, x.twoStep, x.hostCopy, x.ipv4)

theorem Lane.bare_portSet (x : Lane) : x.bare.portSet = x.portSet := by simp only [Lane.portSet, Lane.bare]

theorem Lane.afresh_portSet (x : Lane) (n a : Nat) :
    ({ x.afresh a with timeAct := false, pstate := n } : Lane).portSet = x.portSet := by
  simp only [Lane.portSet, Lane.afresh, Lane.noParent, Bool.false_eq_true, if_false]

section
variable {s : State} {l : Fin 48}

theorem toListening_portSet (s : State) (l : Fin 48) : ((s.toListening l).lane l).portSet = (s.lane l).portSet := by
  obtain ⟨n, hn⟩ := toListening_bare s l
  rw [← Lane.bare_portSet, hn, Lane.afresh_portSet, Lane.bare_portSet]

theorem Lane.portSet_of_beyond {x y : Lane} {keep : Bool} (h : x.ungrouped.beyond keep = y.ungrouped.beyond keep) :
    x.portSet = y.portSet := (congrArg Lane.portSet h :)

theorem judged_portSet (s : State) (l : Fin 48) : (((bmcaAll s).joinGroups l).lane l).portSet = (s.lane l).portSet :=
  Lane.portSet_of_beyond (judged_lane s l)

/-- The port restarts with the settings it has been given. -/
theorem portRestart_portSet (s : State) (l : Fin 48) :
    (((bmcaAll (((s.toListening l).freeClients l).laneMod l fun x => { x with resolved := [], resolving := [] })).joinGroups
      l).lane l).portSet = (s.lane l).portSet := by
  have ht := toListening_portSet s l
  generalize s.toListening l = v at ht
  rw [judged_portSet, State.lane_laneMod_same, State.freeClients, State.lane_laneMod_same]
  exact ht

theorem lanePower_same {v : State} {en fec : Bool} {rate : Nat}
    (h : (v.lane l).en = en ∧ (v.lane l).rate = rate ∧ (v.lane l).fec = fec) : v.lanePower l en rate fec = v := if_pos h

/-- A port that keeps LANE_EN, RATE and FEC takes its settings, and restarts where they change what it is (R370). -/
theorem applyPortConfig_portSet {a : Args} (hl : argLane a = some l) (he : (s.lane l).en = ab a 0 31)
    (hr : (s.lane l).rate = af a 0 30 29) (hf : (s.lane l).fec = ab a 0 28) :
    ((applyPortConfig a s).lane l).portSet = ((s.lane l).configured a).portSet := by
  have hp : (s.lane l).powerChange a = false := by simp [Lane.powerChange, he, hr, hf]
  have hc : (((s.laneMod l fun x => x.configured a).laneMod l fun x => { x with held := none }).lane l) =
      { (s.lane l).configured a with held := none } := by rw [State.lane_laneMod_same, State.lane_laneMod_same]
  have hw : ((s.laneMod l fun x => x.configured a).laneMod l fun x => { x with held := none }).lanePower l (ab a 0 31)
      (af a 0 30 29) (ab a 0 28) = (s.laneMod l fun x => x.configured a).laneMod l fun x => { x with held := none } :=
    lanePower_same (by rw [hc]; exact ⟨he, hr, hf⟩)
  unfold applyPortConfig
  simp only [hl, hp, Bool.false_and, Bool.false_eq_true, if_false, hw]
  split
  · rw [hc]
    rfl
  · rw [portRestart_portSet, hc]
    rfl

theorem ptpPortConfig_sets {t : Nat} {i : Fin 48} (h : (s.advance t).ready i .ptpPortConfig false = true)
    (hl : argLane (s.tag i).args = some l) (he : (s.lane l).en = ab (s.tag i).args 0 31)
    (hr : (s.lane l).rate = af (s.tag i).args 0 30 29) (hf : (s.lane l).fec = ab (s.tag i).args 0 28) :
    Completes (exec (.ptpPortConfig t i) s) fun u =>
      (u.lane l).role = af (s.tag i).args 0 23 21 ∧ (u.lane l).transport = af (s.tag i).args 0 20 19 ∧
      (u.lane l).twoStep = ab (s.tag i).args 0 18 ∧ (u.lane l).hostCopy = ab (s.tag i).args 0 14 ∧
      (u.lane l).ipv4 = dflt (s.tag i).args 3 (arg (s.tag i).args 3).toNat (s.lane l).ipv4 ∧
      ∃ d, u.heldOk i d ∧ d.length = 1 := by
  have hx : ∃ d, d.length = 1 ∧
      exec (.ptpPortConfig t i) s = done ((applyPortConfig (s.tag i).args (s.advance t)).holdOk i d) := by
    rw [← State.advance_tag t s]
    exact ⟨_, rfl, runCmd_answers (ch := ptpPortConfigChecks) (body := ptpPortConfigBody) (readyTurn_of_ready h rfl) rfl⟩
  obtain ⟨d, hd, hx⟩ := hx
  rw [← State.advance_lane t s] at he hr hf
  have hp := applyPortConfig_portSet hl he hr hf
  simp only [Lane.portSet, Prod.mk.injEq, State.advance_lane] at hp
  obtain ⟨h1, h2, h3, h4, h5⟩ := hp
  rw [hx, completes_done, State.commit_lane, State.holdOk_lane]
  exact ⟨h1, h2, h3, h4, h5, d, holdOk_heldOk .., hd⟩

end

/-- Settles O38, a lemma for each command. -/
theorem ptpCommandsAct : Obligations.PtpCommandsAct :=
  ⟨fun _ _ _ h => ptpProfile_sets h,
    fun _ _ _ _ h hl => ptpSynceConfig_sets h hl,
    fun _ _ _ _ h h0 hk => ptpSecurity_fills h h0 hk,
    fun _ _ _ _ h hl hb => ptpFrameTx_waits h hl hb,
    fun _ _ _ _ h hl hb => ptpFrameTx_assembles h hl hb,
    fun _ _ _ h => ptpFrameRx_reads h,
    fun _ _ _ _ h hl he hr hf => ptpPortConfig_sets h hl he hr hf⟩

end Sys2Proof.Machine
